-- ==== Sys2Proof/Word.lean ====
section
/-!
DEFINITION. The plainest data of the model: bytes and site numbers as words, a pair of things held once for each of the two
spans, and counts that saturate.
-/

namespace Sys2Proof

/-- One byte of a frame, a record or a request body (R192). -/
abbrev Byte := BitVec 8

/-- A site number as the span word and the message header carry it, 0 to 1023 (R192, R193). -/
abbrev Site := BitVec 10

/-- The site number that means "all sites" (R113). -/
def allSites : Site := 1023

/-- The next value of a count that saturates at `top`. -/
def satSucc (top n : Nat) : Nat := min top (n + 1)

end Sys2Proof
end

