-- ==== Sys2Proof/Syntax.lean ====
section
/-!
DEFINITION. The commands of the block: one constructor of `Instr` for each row of spec/opcode_table.json, with the names
the operands need.
-/

namespace Sys2Proof

/-- The two spans of a site (spec/00_scope.md section 5). Each line port is named by the span it faces: West by `ws`,
East by `es`. -/
inductive Span where
  | ws | es
  deriving DecidableEq, Repr

/-- The other span, and with it the opposite line port (R115). -/
def Span.other : Span → Span
  | .ws => .es
  | .es => .ws

/-- The three frame ports (R103). -/
inductive Port where
  | west | east | loc
  deriving DecidableEq, Repr

/-- The line port that faces a span (spec/00_scope.md section 5). -/
def Span.port : Span → Port
  | .ws => .west
  | .es => .east

/-- The two directions of traffic. -/
inductive Dir where
  | eb | wb
  deriving DecidableEq, Repr

/-- A pump channel, a monitor channel or an interlock line, 0 to 7. -/
abbrev Chan := Fin 8

/-- The blocks that raise events (R149). Events of one block are taken in the order that block raised them. -/
inductive Block where
  | engine (sp : Span)
  | monitorUnit
  | pumpLink
  | linePort (sp : Span)
  | interlockUnit
  | supplyMonitor
  | requestHandler
  | partControl
  deriving DecidableEq, Repr

/-- The consumers of a tick (R138), each with the work it does when it takes the tick:
the silence counter of a line port (R143), the off timer of a span (R144), the exposure slot of a span and its hand-over to
the Span Engine (R36, R43, R31), the freshness count of a monitor channel (R69), the sample of an interlock line (R126), the
reply check of a pump channel (R100), its setpoint record (R97), its step (R88) and the settle count (R136). -/
inductive TickJob where
  | silence (sp : Span)
  | offTimer (sp : Span)
  | slot (sp : Span)
  | monitor (ch : Chan)
  | interlock (line : Chan)
  | check (ch : Chan)
  | link (ch : Chan)
  | step (ch : Chan)
  | settle
  deriving DecidableEq, Repr

/-- The orders that the spec leaves open when one frame is taken: whether its message is handed on before its span word
(R107), whether a message for all sites is forwarded before it is handled here (R114, R166), and whether a message or reply
enters a local queue before the notices that wait for room in it (R164). -/
structure Race where
  msgFirst   : Bool
  fwdFirst   : Bool
  replyFirst : Bool
  deriving DecidableEq, Repr

/-- A management request as the Request Handler takes it: the port it arrived on, the header fields it acts on (R166, R167,
R180), the bytes of its body (R193), and whether its reply enters the local queue before the notices that its effect lets leave
(R164, which leaves that order open). Its kind is the command's own. -/
structure Req where
  port       : Port
  src        : Site
  cls        : BitVec 2
  tag        : BitVec 8
  body       : List Byte
  replyFirst : Bool
  deriving DecidableEq, Repr

/-- The commands of the BV-2316: one constructor per row of spec/opcode_table.json, in the table's order. -/
inductive Instr where
  /-- POWER_ON_RESET (R184). -/
  | powerOnReset
  /-- RESET_ASSERT (R184, R105): for each port, whether the frame it has begun is still being sent. -/
  | resetAssert (cutWest cutEast cutLocal : Bool)
  /-- RESET_RELEASE (R139, R184). -/
  | resetRelease
  /-- TICK (R138): the levels of IL0 to IL7 (bit set for HIGH, R126) and the consumers that take the tick within this step, in
  order; a consumer left out takes it later. -/
  | tick (levels : BitVec 8) (order : List TickJob)
  /-- SLOT_START (R104): the orders in which looped frames are taken (R122). -/
  | slotStart (race : Race) (eastFirst : Bool)
  /-- OFF_EXPIRED (R20). -/
  | offExpired (sp : Span)
  /-- PORT_SILENT (R111), the port named by the span it faces. -/
  | portSilent (sp : Span)
  /-- DARK_TIMEOUT (R19). -/
  | darkTimeout (sp : Span)
  /-- CONFIRM_TIMEOUT (R31). -/
  | confirmTimeout (sp : Span)
  /-- PROBE_EXPIRY (R51). -/
  | probeExpiry (sp : Span)
  /-- PULSE_END (R89). -/
  | pulseEnd (ch : Chan)
  /-- MIN_DARK_END (R90). -/
  | minDarkEnd (ch : Chan)
  /-- RAMP_COMPLETE (R88). -/
  | rampComplete (ch : Chan)
  /-- MONITOR_STALE (R70). -/
  | monitorStale (ch : Chan)
  /-- DRIVER_LOST (R100). -/
  | driverLost (ch : Chan)
  /-- SETTLE_END (R136). -/
  | settleEnd
  /-- PROBE_START (R42). -/
  | probeStart (sp : Span)
  /-- CONFIRM_COMPLETION (R30). -/
  | confirmCompletion (sp : Span)
  /-- FRAME_RECEIVED (R106): the frame bytes a port's receiver takes. -/
  | frameReceived (port : Port) (race : Race) (bytes : List Byte)
  /-- SAMPLE_WORD (R58, R196): the three bytes of the word. -/
  | sampleWord (b0 b1 b2 : Byte)
  /-- STATUS_RECORD (R99, R196): the one byte of the record. -/
  | statusRecord (b : Byte)
  /-- SUPPLY_GOOD_FALL (R135). -/
  | supplyGoodFall
  /-- SUPPLY_GOOD_RISE (R136). -/
  | supplyGoodRise
  /-- RISE (R84): a channel takes RISE toward a target in mW. -/
  | rise (ch : Chan) (target : Nat)
  /-- PULSE (R85): a channel takes PULSE at a level in mW for a length in ticks. -/
  | pulse (ch : Chan) (level length : Nat)
  /-- DOUSE (R86). -/
  | douse (ch : Chan)
  /-- SNUFF (R87). -/
  | snuff (ch : Chan)
  /-- EVENT_TAKEN (R152): the Event Unit takes the oldest raised event of a block. -/
  | eventTaken (src : Block)
  /-- NOTICE_DEPARTURE (R163). -/
  | noticeDeparture
  /-- READ (R179). -/
  | read (r : Req)
  /-- WRITE_SPAN (R3). -/
  | writeSpan (r : Req)
  /-- WRITE_PUMP (R78). -/
  | writePump (r : Req)
  /-- SET_SETPOINT (R94). -/
  | setSetpoint (r : Req)
  /-- CLEAR_PUMP (R95). -/
  | clearPump (r : Req)
  /-- WRITE_MONITOR (R61). -/
  | writeMonitor (r : Req)
  /-- WRITE_EVENT (R153). -/
  | writeEvent (r : Req)
  /-- WRITE_INTERLOCK (R131). -/
  | writeInterlock (r : Req)
  /-- CLEAR_INTERLOCK (R130). -/
  | clearInterlock (r : Req)
  /-- SPAN_HOLD (R173). -/
  | spanHold (r : Req)
  /-- SPAN_RESUME (R173). -/
  | spanResume (r : Req)
  /-- SPAN_RELEASE (R174). -/
  | spanRelease (r : Req)
  /-- SET_LOOP (R175). -/
  | setLoop (r : Req)
  /-- WRITE_PART (R176). -/
  | writePart (r : Req)
  /-- START (R185). -/
  | start (r : Req)
  /-- HALT (R187). -/
  | halt (r : Req)
  /-- WRITE_GRANTS (R178). -/
  | writeGrants (r : Req)
  /-- CLEAR (R188). -/
  | clear (r : Req)
  /-- UNKNOWN_REQUEST (R172): a request whose kind code is none of the known ones. -/
  | unknownRequest (kind : BitVec 5) (r : Req)
  /-- IDLE_FILL_RECEIVED (R106): idle fill or an abort sequence at a port's receiver. -/
  | idleFillReceived (port : Port)
  deriving DecidableEq, Repr

end Sys2Proof
end

