-- ==== Sys2Proof/Config.lean ====
section
/-!
DEFINITION. What the part fixes once and for all: sizes, the binding of the monitor channels (R59), the kind codes of messages
(R193), and the levels of the input pins at power-on. The spec leaves no computed value undefined, so no free value is needed
(log 29).
-/

namespace Sys2Proof.Config

/-- Slots held by each exposure ring (R36). -/
def ringSlots : Nat := 256

/-- Room of every queue of the frame path (R118). -/
def queueRoom : Nat := 8

/-- Room of the notice queue (R161). -/
def noticeRoom : Nat := 32

/-- Frame slots in a tick (R104). -/
def slotsPerTick : Nat := 8

/-- Reference clock periods in a frame slot (R138). -/
def slotPeriods : Nat := 2048

/-- The greatest power of one channel in µW (spec/00_scope.md section 6, R60). -/
def maxPower : Nat := 16776704

/-- The greatest pump level in mW (R77). -/
def maxLevel : Nat := 4000

/-- The greatest body of a message in bytes (R113). -/
def maxBody : Nat := 51

/-- Hop limit of every message the part originates (R113). -/
def originHops : BitVec 4 := 15

/-- All channels or lines, in order. -/
def chans : List Chan := [0, 1, 2, 3, 4, 5, 6, 7]

/-- The fixed role of a monitor channel (R59): the input, a launch or the reflection channel of a span. -/
inductive MonRole where
  | input (sp : Span)
  | launch (sp : Span)
  | reflection (sp : Span)
  deriving DecidableEq, Repr

/-- The binding of the eight monitor channels (R59). -/
def monRole : Chan → MonRole
  | 0 => .input .ws
  | 1 => .launch .es
  | 2 => .reflection .es
  | 3 => .launch .ws
  | 4 => .input .es
  | 5 => .launch .ws
  | 6 => .reflection .ws
  | 7 => .launch .es

/-- The span whose state a monitor channel's readings concern (R59). -/
def monSpan (ch : Chan) : Span :=
  match monRole ch with
  | .input sp | .launch sp | .reflection sp => sp

/-- The input channel of a span (spec/01, table of channels). -/
def inputChan : Span → Chan
  | .ws => 0
  | .es => 4

/-- The reflection channel of a span (R59). -/
def reflChan : Span → Chan
  | .ws => 6
  | .es => 2

/-- The output channel of a span: WB-OUT for WS, EB-OUT for ES. It is the OUT term of the span's reflection test (R74). -/
def outChan : Span → Chan
  | .ws => 5
  | .es => 1

/-- The Raman counter-pump launch channel of a span: EB-RPL for WS, WB-RPL for ES (R36). -/
def ramanChan : Span → Chan
  | .ws => 3
  | .es => 7

/-- The span a direction launches into: the output span of its STAGE pumps (R77). -/
def outSpan : Dir → Span
  | .eb => .es
  | .wb => .ws

/-- The span whose input channel is the input channel of a direction (R59): EB-IN for EB, WB-IN for WB. -/
def inSpan : Dir → Span
  | .eb => .ws
  | .wb => .es

/-- The direction whose input channel is the input channel of a span. -/
def inputDir : Span → Dir
  | .ws => .eb
  | .es => .wb

/-- The SUPPLY_GOOD line at power-on. DESIGN CHOICE (log 6): the spec states no level; unsafe. -/
def supplyGoodAtPowerOn : Bool := false

/-- The levels of IL0 to IL7 before the first tick. DESIGN CHOICE (log 6): the spec states none; unsafe. -/
def interlockPinsAtPowerOn : BitVec 8 := 0

/-- Every consumer of a tick, in one order the spec allows: the order used where nothing is raced. -/
def allJobs : List TickJob :=
  [.silence .ws, .silence .es, .offTimer .ws, .offTimer .es] ++
  chans.map TickJob.interlock ++ chans.map TickJob.monitor ++
  chans.map TickJob.check ++ chans.map TickJob.link ++ chans.map TickJob.step ++ [.slot .ws, .slot .es, .settle]

/-- Kind codes of requests, REPLY and NOTICE (R193). -/
def kindRead : BitVec 5 := 1
def kindWriteSpan : BitVec 5 := 2
def kindWritePump : BitVec 5 := 3
def kindSetSetpoint : BitVec 5 := 4
def kindClearPump : BitVec 5 := 5
def kindWriteMonitor : BitVec 5 := 6
def kindWriteEvent : BitVec 5 := 7
def kindWriteInterlock : BitVec 5 := 8
def kindClearInterlock : BitVec 5 := 9
def kindSpanHold : BitVec 5 := 10
def kindSpanResume : BitVec 5 := 11
def kindSpanRelease : BitVec 5 := 12
def kindSetLoop : BitVec 5 := 13
def kindWritePart : BitVec 5 := 14
def kindStart : BitVec 5 := 15
def kindHalt : BitVec 5 := 16
def kindWriteGrants : BitVec 5 := 17
def kindClear : BitVec 5 := 18
def kindReply : BitVec 5 := 30
def kindNotice : BitVec 5 := 31

/-- A kind that is neither REPLY nor NOTICE is a request (R113). -/
def isRequestKind (k : BitVec 5) : Bool := k != kindReply && k != kindNotice

/-- The known request kinds are 1 to 18 (R193). -/
def isKnownRequest (k : BitVec 5) : Bool := decide (1 ≤ k.toNat) && decide (k.toNat ≤ 18)

end Sys2Proof.Config
end

