-- ==== Sys2Proof/WellFormed.lean ====
section
/-!
DEFINITION. Which commands the part's connections can carry. The meanings are total and do not rest on these checks; they say
what a sender of the real part could send.
-/

namespace Sys2Proof

/-- A request body is at most 51 bytes long (R113). -/
def Req.wellFormed (r : Req) : Bool := decide (r.body.length ≤ Config.maxBody)

/-- The checks on a command:
a tick is taken once by each consumer (R138); a frame is at most 62 bytes (R104); a RISE target lies within 0 to 4000 mW and a
PULSE carries such a level and a length of 1 to 255 ticks (R84, R85); a request body fits a message (R113); the kind of an
UNKNOWN_REQUEST is a request kind and none of the known ones (R193). -/
def Instr.wellFormed : Instr → Bool
  | .powerOnReset => true
  | .resetAssert _ _ _ => true
  | .resetRelease => true
  | .tick _ order => decide order.Nodup
  | .slotStart _ _ => true
  | .offExpired _ => true
  | .portSilent _ => true
  | .darkTimeout _ => true
  | .confirmTimeout _ => true
  | .probeExpiry _ => true
  | .pulseEnd _ => true
  | .minDarkEnd _ => true
  | .rampComplete _ => true
  | .monitorStale _ => true
  | .driverLost _ => true
  | .settleEnd => true
  | .probeStart _ => true
  | .confirmCompletion _ => true
  | .frameReceived _ _ bytes => decide (bytes.length ≤ 62)
  | .sampleWord _ _ _ => true
  | .statusRecord _ => true
  | .supplyGoodFall => true
  | .supplyGoodRise => true
  | .rise _ x => decide (x ≤ Config.maxLevel)
  | .pulse _ p t => decide (p ≤ Config.maxLevel) && decide (1 ≤ t) && decide (t ≤ 255)
  | .douse _ => true
  | .snuff _ => true
  | .eventTaken _ => true
  | .noticeDeparture => true
  | .read r => r.wellFormed
  | .writeSpan r => r.wellFormed
  | .writePump r => r.wellFormed
  | .setSetpoint r => r.wellFormed
  | .clearPump r => r.wellFormed
  | .writeMonitor r => r.wellFormed
  | .writeEvent r => r.wellFormed
  | .writeInterlock r => r.wellFormed
  | .clearInterlock r => r.wellFormed
  | .spanHold r => r.wellFormed
  | .spanResume r => r.wellFormed
  | .spanRelease r => r.wellFormed
  | .setLoop r => r.wellFormed
  | .writePart r => r.wellFormed
  | .start r => r.wellFormed
  | .halt r => r.wellFormed
  | .writeGrants r => r.wellFormed
  | .clear r => r.wellFormed
  | .unknownRequest k r => Config.isRequestKind k && !Config.isKnownRequest k && r.wellFormed
  | .idleFillReceived _ => true

end Sys2Proof
end

