-- ==== Sys2Proof/Decode.lean ====
section
/-!
DEFINITION. Reading a command from a word of spec/opcode_table.json. No row of the table gives bits ("fields" is empty and
nothing is fixed in every row), so no word spells a command. The bytes that frames, sample words and records carry are read in
Machine/Operands.lean, within the commands that take them.
-/

namespace Sys2Proof

/-- The command a table word spells: none, since no row gives bits (log 38). -/
def decodeTableWord (_nbits _w : Nat) : Option Instr := none

end Sys2Proof
end

