-- ==== Sys2Proof/Machine/State.lean ====
section
/-!
DEFINITION. The state of the part as plain data, every field at its reset value in `State.reset`, and the reasons a step can stop.
Each record cites the rule of spec/ that lists its fields.
-/

namespace Sys2Proof.Machine

/-- Something held once for each span. -/
structure PerSpan (α : Type) where
  ws : α
  es : α
  deriving DecidableEq, Repr

/-- The span states, coded 0 to 7 in this order (R7, R192). -/
inductive SpanState where
  | unused | wait | shut | probe | confirm | service | locked | maint
  deriving DecidableEq, Repr

/-- The events by identifier, 0 to 20 in this order (section 8.1.1 of spec/08). -/
inductive Event where
  | lightLost | spanBreak | signalLoss | framesLost | farShut | reflect | interlock | supplyLow | manualHold | exposure
  | probeOvershoot | confirmTimeout | darkFail | driverFault | driverLost | neighbourMismatch | monitorStale | probeFailed
  | lockout | serviceRestored | partState
  deriving DecidableEq, Repr

/-- The four actions in ascending order of strength, coded 0 to 3 (R150, R194). -/
inductive Action where
  | note | shutSpan | lockSpan | snuffAll
  deriving DecidableEq, Repr

/-- The restart mode of a span, coded 0 and 1. -/
inductive RestartMode where
  | frame | light
  deriving DecidableEq, Repr

/-- The light state of an input channel, coded 0 to 3 (R63). -/
inductive Light where
  | present | fading | absent | returning
  deriving DecidableEq, Repr

/-- The roles of pump channels, coded 0 to 3 (R77). -/
inductive Role where
  | unused | launch | counter | stage
  deriving DecidableEq, Repr

/-- The states of a pump channel, coded 0 to 6 (R81, R82). -/
inductive PumpState where
  | dark | rising | lit | falling | pulsing | darkHold | faulted
  deriving DecidableEq, Repr

/-- The loop modes of a line port, coded 0 to 2 (R103, R193). -/
inductive Loop where
  | normal | inner | outer
  deriving DecidableEq, Repr

/-- The queue a line port served last, coded 0 and 1 (R103). -/
inductive Served where
  | forward | local_
  deriving DecidableEq, Repr

/-- The assignment of an interlock line, coded 0 to 3 (R125). -/
inductive Assign where
  | none_ | ws | es | both
  deriving DecidableEq, Repr

/-- The sensitivity of an interlock line, coded 0 to 3 (R125). -/
inductive Sense where
  | fall | fallLow | rise | riseHigh
  deriving DecidableEq, Repr

/-- The state of the Supply Monitor, coded 0 to 2 (R134). -/
inductive SupplyState where
  | good | low | settling
  deriving DecidableEq, Repr

/-- A span word with all its fields, without the message length (R35, R192). -/
structure SpanWord where
  sender    : Site
  state     : SpanState
  tag       : BitVec 4
  echoTag   : BitVec 4
  echoValid : Bool
  hear      : Bool
  light     : Bool
  thruDark  : Bool
  deriving DecidableEq, Repr

/-- A message: its header fields and its body (R113, R193). -/
structure Msg where
  dest : Site
  src  : Site
  kind : BitVec 5
  dir  : Dir
  hop  : BitVec 4
  cls  : BitVec 2
  tag  : BitVec 8
  body : List Byte
  deriving DecidableEq, Repr

/-- The span configuration record (R2). -/
structure SpanConfig where
  present        : Bool
  neighbour      : Site
  mode           : RestartMode
  duration       : Nat
  ceiling        : Nat
  window         : Nat
  limit          : Nat
  lockout        : Nat
  darkTolerance  : Nat
  darkTimeout    : Nat
  offStage       : Nat
  offCount       : Nat
  grace          : Nat
  confirmTimeout : Nat
  silenceStage   : Nat
  silenceCount   : Nat
  deriving DecidableEq, Repr

/-- The span status record and the engine's working fields (R5). The window sum and the oldest window slot, which R5 says always
show the ring, are computed from the ring (log 27). `startsNext` is the model's own: the span entered SHUT, PROBE or CONFIRM after
the tick was given whose slot is still to be handed to it, so its count begins at the next hand-over (R146, log 4). -/
structure SpanStatus where
  state          : SpanState
  causes         : List Event
  failures       : Nat
  tag            : BitVec 4
  callPending    : Bool
  offTicks       : Nat
  offExpired     : Bool
  ticks          : Nat
  far            : Option SpanWord
  probeLength    : Option Nat
  overshootRaised : Bool
  exposureRaised : Bool
  darkFailRaised : Bool
  confirmRaised  : Bool
  entryInterlock : Bool
  entrySupply    : Bool
  startsNext     : Bool
  deriving DecidableEq, Repr

/-- What the Monitor Unit holds for every channel: the common table fields (R60) and the common record fields (R63). -/
structure MonChan where
  offset     : Nat
  gain       : Nat
  window     : Nat
  substitute : Nat
  latest     : Nat
  fresh      : Nat
  stale      : Bool
  deriving DecidableEq, Repr

/-- What the Monitor Unit holds besides for an input channel (R60, R63). -/
structure InputChan where
  lo    : Nat
  hi    : Nat
  nLoss : Nat
  nRest : Nat
  light : Light
  run   : Nat
  deriving DecidableEq, Repr

/-- What the Monitor Unit holds besides for a reflection channel (R60, R63). -/
structure ReflChan where
  floor : Nat
  kRef  : Nat
  nRef  : Nat
  run   : Nat
  deriving DecidableEq, Repr

/-- A pump channel: its table entry (R77), its working record (R81), and what R100 asks the Pump Link to remember of the last
tick: whether a record was sent and whether a status record has arrived since. -/
structure Pump where
  role       : Role
  span       : Span
  dir        : Dir
  ceiling    : Nat
  service    : Nat
  probe      : Nat
  up         : Nat
  down       : Nat
  minDark    : Nat
  state      : PumpState
  level      : Nat
  target     : Option Nat
  rise       : Option Nat
  pulseLen   : Option Nat
  pulseCount : Nat
  darkLeft   : Nat
  noReply    : Nat
  sent       : Bool
  answered   : Bool
  deriving DecidableEq, Repr

/-- A port's receiver: whether it takes no frame until idle fill (R106, R184), and the bytes of the frame in progress. -/
structure Receiver where
  waiting : Bool
  bytes   : List Byte
  deriving DecidableEq, Repr

/-- What each of the three ports holds (R103), with the frame it began at the last slot start (R105). -/
structure PortBase where
  accepted  : Nat
  discarded : Nat
  queue     : List Msg
  rx        : Receiver
  sending   : Option (List Byte)
  deriving DecidableEq, Repr

/-- A line port (R103). `loop` is the loop mode of the port record; `loopNow` is the one in effect, taken from `loop` at each
slot start (R105, R122). -/
structure LinePort where
  base     : PortBase
  live     : Bool
  silence  : Nat
  mismatch : Bool
  loop     : Loop
  loopNow  : Loop
  forward  : List Msg
  served   : Served
  deriving DecidableEq, Repr

/-- An interlock line's entry (R125). The observed level is `some true` for HIGH. -/
structure IlLine where
  assign   : Assign
  sense    : Sense
  observed : Option Bool
  latched  : Bool
  deriving DecidableEq, Repr

/-- An event table entry (R151). -/
structure EvEntry where
  action : Action
  notify : Bool
  deriving DecidableEq, Repr

/-- The span an event is raised for (R149). -/
inductive EvSpan where
  | one (sp : Span)
  | both
  | none_
  deriving DecidableEq, Repr

/-- The subject of an event (R149). -/
inductive Subject where
  | none_
  | pump (ch : Chan)
  | monitor (ch : Chan)
  | line (n : Chan)
  | port (p : Port)
  deriving DecidableEq, Repr

/-- An event raised and not yet taken: what it carries (R149), the block that raised it, and whether it is the second LOCKOUT of one
action, which is taken after the first (R158, log 12). -/
structure Raised where
  src     : Block
  event   : Event
  span    : EvSpan
  subject : Subject
  stamp   : BitVec 32
  second  : Bool
  deriving DecidableEq, Repr

/-- A notice (R159). `report` holds the span with its state and cause set, absent where the span is none. -/
structure Notice where
  event    : Event
  subject  : Subject
  report   : Option (Span × SpanState × List Event)
  stamp    : BitVec 32
  moreLost : Bool
  deriving DecidableEq, Repr

/-- The Supply Monitor (R134). -/
structure Supply where
  state : SupplyState
  count : Nat
  deriving DecidableEq, Repr

/-- The Time Base (R138): the stage chain follows from the tick count (R140). `slotNext` is the next slot of the tick to be given,
8 where none is left. -/
structure TimeBase where
  prescaler : Nat
  slotNext  : Nat
  tickCount : BitVec 32
  deriving DecidableEq, Repr

/-- Part Control: the part state (true for RUN, R182) and the part identity record (R176). -/
structure Part where
  run        : Bool
  site       : Site
  headEnd    : Site
  noticePort : Port
  classMin   : Nat
  settleTime : Nat
  deriving DecidableEq, Repr

/-- The grant record (R168). Entry 3 * group + class - 1 of the map is set for yes. -/
structure Grants where
  map    : Vector Bool 27
  length : Nat
  safety : Nat
  deriving DecidableEq, Repr

/-- The pins (spec/00_scope.md section 4): the two enable lines and the RUN indicator, which the part drives, and the
interlock, supply-good and RESET lines, which it reads (`resetLine` is true while RESET is asserted). -/
structure Pins where
  spanEn     : PerSpan Bool
  runLed     : Bool
  interlock  : BitVec 8
  supplyGood : Bool
  resetLine  : Bool
  deriving DecidableEq, Repr

/-- What a command puts out: a setpoint record on the pump link (R97, R98, R196), a frame on a port (R104), an abort sequence on
a port (R105). -/
inductive Output where
  | setpoint (record : BitVec 16)
  | frame (p : Port) (bytes : List Byte)
  | abort (p : Port)
  deriving DecidableEq, Repr

/-- The state of the part. -/
structure State where
  time    : TimeBase
  part    : Part
  grants  : Grants
  hold    : PerSpan Bool
  cfg     : PerSpan SpanConfig
  status  : PerSpan SpanStatus
  ring    : PerSpan (List Nat)
  mon     : Vector MonChan 8
  input   : PerSpan InputChan
  refl    : PerSpan ReflChan
  pumps   : Vector Pump 8
  lines   : PerSpan LinePort
  localPort : PortBase
  table   : Vector EvEntry 32
  tableLen : Nat
  notices : List Notice
  raised  : List Raised
  il      : Vector IlLine 8
  supply  : Supply
  pins    : Pins
  owed    : List TickJob
  out     : List Output
  pending : List Instr
  deriving DecidableEq, Repr

/-- The reasons a step stops with a fault: none. The spec names no condition that stops the part (log 29), so the type has no
constructor and no step faults; safe, since nothing is hidden behind a stop. -/
inductive Fault
  deriving DecidableEq, Repr

/-- The reasons a step refuses a command. -/
inductive Refusal where
  /-- Raised by `exec` alone, for a row of the table that has no meaning yet; safe, since the model then stops. Every row has its
  meaning, so no arm raises it. -/
  | notModelled (mnemonic : String)
  deriving DecidableEq, Repr

/-- The floor of an event (section 8.1.1 of spec/08, R150). -/
def Event.floor : Event → Action
  | .lightLost => .shutSpan
  | .spanBreak => .shutSpan
  | .signalLoss => .note
  | .framesLost => .note
  | .farShut => .shutSpan
  | .reflect => .shutSpan
  | .interlock => .shutSpan
  | .supplyLow => .shutSpan
  | .manualHold => .shutSpan
  | .exposure => .shutSpan
  | .probeOvershoot => .shutSpan
  | .confirmTimeout => .shutSpan
  | .darkFail => .snuffAll
  | .driverFault => .note
  | .driverLost => .shutSpan
  | .neighbourMismatch => .note
  | .monitorStale => .note
  | .probeFailed => .note
  | .lockout => .note
  | .serviceRestored => .note
  | .partState => .note

/-- Every event, in the order of the identifiers. -/
def Event.all : List Event :=
  [.lightLost, .spanBreak, .signalLoss, .framesLost, .farShut, .reflect, .interlock, .supplyLow, .manualHold, .exposure,
   .probeOvershoot, .confirmTimeout, .darkFail, .driverFault, .driverLost, .neighbourMismatch, .monitorStale, .probeFailed,
   .lockout, .serviceRestored, .partState]

/-- The span configuration record at reset (R2). -/
def SpanConfig.reset : SpanConfig where
  present := false
  neighbour := 1
  mode := .frame
  duration := 20
  ceiling := 10000
  window := 128
  limit := 400000
  lockout := 5
  darkTolerance := 100
  darkTimeout := 50
  offStage := 12
  offCount := 3
  grace := 10
  confirmTimeout := 2000
  silenceStage := 0
  silenceCount := 3

/-- The span status record at reset (R5). -/
def SpanStatus.reset : SpanStatus where
  state := .unused
  causes := []
  failures := 0
  tag := 0
  callPending := false
  offTicks := 0
  offExpired := false
  ticks := 0
  far := none
  probeLength := none
  overshootRaised := false
  exposureRaised := false
  darkFailRaised := false
  confirmRaised := false
  entryInterlock := false
  entrySupply := false
  startsNext := false

/-- A monitor channel at reset (R60, R63). -/
def MonChan.reset : MonChan where
  offset := 0
  gain := 256
  window := 10
  substitute := Config.maxPower
  latest := 0
  fresh := 0
  stale := true

/-- An input channel at reset (R60, R63). -/
def InputChan.reset : InputChan where
  lo := 10
  hi := 20
  nLoss := 3
  nRest := 3
  light := .absent
  run := 0

/-- A reflection channel at reset (R60, R63). -/
def ReflChan.reset : ReflChan where
  floor := 100
  kRef := 1000
  nRef := 3
  run := 0

/-- A pump channel at reset (R77, R81). -/
def Pump.reset : Pump where
  role := .unused
  span := .ws
  dir := .eb
  ceiling := 0
  service := 0
  probe := 0
  up := 1
  down := 1
  minDark := 0
  state := .dark
  level := 0
  target := none
  rise := none
  pulseLen := none
  pulseCount := 0
  darkLeft := 0
  noReply := 0
  sent := false
  answered := false

/-- A receiver after a reset: it takes frames from the first frame byte after idle fill (R184). -/
def Receiver.reset : Receiver where
  waiting := true
  bytes := []

/-- A port at reset (R103). -/
def PortBase.reset : PortBase where
  accepted := 0
  discarded := 0
  queue := []
  rx := Receiver.reset
  sending := none

/-- A line port at reset (R103). -/
def LinePort.reset : LinePort where
  base := PortBase.reset
  live := false
  silence := 0
  mismatch := false
  loop := .normal
  loopNow := .normal
  forward := []
  served := .local_

/-- An interlock line at reset (R125). -/
def IlLine.reset : IlLine where
  assign := .none_
  sense := .fall
  observed := none
  latched := false

/-- The event table entries at reset (R151): entries 0 to 20 hold their events' floors, the others NOTE, all with notify set. -/
def resetTable : List EvEntry :=
  Event.all.map (fun e => ⟨e.floor, true⟩) ++ List.replicate 11 ⟨.note, true⟩

/-- The part right after power-on reset, with its input pins at the levels of Config. -/
def State.reset : State where
  time := ⟨0, Config.slotsPerTick, 0⟩
  part := ⟨false, 0, 0, .loc, 0, 100⟩
  grants := ⟨Vector.replicate 27 false, 0, 0⟩
  hold := ⟨false, false⟩
  cfg := ⟨SpanConfig.reset, SpanConfig.reset⟩
  status := ⟨SpanStatus.reset, SpanStatus.reset⟩
  ring := ⟨List.replicate Config.ringSlots 0, List.replicate Config.ringSlots 0⟩
  mon := Vector.replicate 8 MonChan.reset
  input := ⟨InputChan.reset, InputChan.reset⟩
  refl := ⟨ReflChan.reset, ReflChan.reset⟩
  pumps := Vector.replicate 8 Pump.reset
  lines := ⟨LinePort.reset, LinePort.reset⟩
  localPort := PortBase.reset
  table := ⟨resetTable.toArray, by decide⟩
  tableLen := 0
  notices := []
  raised := []
  il := Vector.replicate 8 IlLine.reset
  supply := ⟨if Config.supplyGoodAtPowerOn then .settling else .low, 0⟩
  pins := ⟨⟨false, false⟩, false, Config.interlockPinsAtPowerOn, Config.supplyGoodAtPowerOn, false⟩
  owed := []
  out := []
  pending := []

end Sys2Proof.Machine
end

