-- ==== Sys2Proof/Machine/Operands.lean ====
section
/-!
DEFINITION. The layouts of chapter 11: the codes of the enumerations, the head of a frame and the frame check (R192), messages
(R193), the items of request and reply bodies (R194), notices (R195), sample words, setpoint and status records (R196).
-/

namespace Sys2Proof.Machine

/-- The number a run of bytes holds, most significant byte first (R192). -/
def beNat (bs : List Byte) : Nat := bs.foldl (fun n b => n * 256 + b.toNat) 0

/-- A number in `k` bytes, most significant byte first (R192). -/
def beBytes : Nat → Nat → List Byte
  | 0, _ => []
  | k + 1, n => beBytes k (n / 256) ++ [BitVec.ofNat 8 n]

/-! ### Codes of enumerations (R192 to R195) -/

def SpanState.code : SpanState → Nat
  | .unused => 0 | .wait => 1 | .shut => 2 | .probe => 3 | .confirm => 4 | .service => 5 | .locked => 6 | .maint => 7

/-- The span state of a three-bit code. -/
def SpanState.ofCode : Nat → SpanState
  | 0 => .unused | 1 => .wait | 2 => .shut | 3 => .probe | 4 => .confirm | 5 => .service | 6 => .locked | _ => .maint

def Event.id : Event → Nat
  | .lightLost => 0 | .spanBreak => 1 | .signalLoss => 2 | .framesLost => 3 | .farShut => 4 | .reflect => 5
  | .interlock => 6 | .supplyLow => 7 | .manualHold => 8 | .exposure => 9 | .probeOvershoot => 10 | .confirmTimeout => 11
  | .darkFail => 12 | .driverFault => 13 | .driverLost => 14 | .neighbourMismatch => 15 | .monitorStale => 16
  | .probeFailed => 17 | .lockout => 18 | .serviceRestored => 19 | .partState => 20

def Action.code : Action → Nat
  | .note => 0 | .shutSpan => 1 | .lockSpan => 2 | .snuffAll => 3

def Action.ofCode : Nat → Action
  | 0 => .note | 1 => .shutSpan | 2 => .lockSpan | _ => .snuffAll

def RestartMode.code : RestartMode → Nat
  | .frame => 0 | .light => 1

def RestartMode.ofCode : Nat → RestartMode
  | 0 => .frame | _ => .light

def Light.code : Light → Nat
  | .present => 0 | .fading => 1 | .absent => 2 | .returning => 3

def Role.code : Role → Nat
  | .unused => 0 | .launch => 1 | .counter => 2 | .stage => 3

def Role.ofCode : Nat → Role
  | 0 => .unused | 1 => .launch | 2 => .counter | _ => .stage

def PumpState.code : PumpState → Nat
  | .dark => 0 | .rising => 1 | .lit => 2 | .falling => 3 | .pulsing => 4 | .darkHold => 5 | .faulted => 6

def Loop.code : Loop → Nat
  | .normal => 0 | .inner => 1 | .outer => 2

def Loop.ofCode : Nat → Loop
  | 0 => .normal | 1 => .inner | _ => .outer

def Served.code : Served → Nat
  | .forward => 0 | .local_ => 1

def Assign.code : Assign → Nat
  | .none_ => 0 | .ws => 1 | .es => 2 | .both => 3

def Assign.ofCode : Nat → Assign
  | 0 => .none_ | 1 => .ws | 2 => .es | _ => .both

def Sense.code : Sense → Nat
  | .fall => 0 | .fallLow => 1 | .rise => 2 | .riseHigh => 3

def Sense.ofCode : Nat → Sense
  | 0 => .fall | 1 => .fallLow | 2 => .rise | _ => .riseHigh

def SupplyState.code : SupplyState → Nat
  | .good => 0 | .low => 1 | .settling => 2

def spanCode : Span → Nat
  | .ws => 0 | .es => 1

def spanOfCode : Nat → Span
  | 0 => .ws | _ => .es

def portCode : Port → Nat
  | .west => 0 | .east => 1 | .loc => 2

def portOfCode : Nat → Port
  | 0 => .west | 1 => .east | _ => .loc

def dirCode : Dir → Nat
  | .eb => 0 | .wb => 1

def dirOfCode : Nat → Dir
  | 0 => .eb | _ => .wb

/-- A channel or line number read from a byte known to be at most 7. -/
def chanOf (n : Nat) : Chan := Fin.ofNat 8 n

/-- A cause set as a 24-bit number: bit i for identifier i (R194). -/
def causeBits (cs : List Event) : Nat := (cs.map fun e => 2 ^ e.id).sum

/-! ### Frames (R192) -/

/-- The 32-bit head of a frame: the span word and the message length. Bit 6 is sent 0. -/
def headNat (w : SpanWord) (len : Nat) : Nat :=
  w.sender.toNat * 2 ^ 22 + w.state.code * 2 ^ 19 + w.tag.toNat * 2 ^ 15 + w.echoTag.toNat * 2 ^ 11
    + w.echoValid.toNat * 2 ^ 10 + w.hear.toNat * 2 ^ 9 + w.light.toNat * 2 ^ 8 + w.thruDark.toNat * 2 ^ 7 + len

/-- The span word fields of a head; bit 6 is not read. -/
def readWord (n : Nat) : SpanWord where
  sender := BitVec.ofNat 10 (n / 2 ^ 22)
  state := SpanState.ofCode (n / 2 ^ 19 % 8)
  tag := BitVec.ofNat 4 (n / 2 ^ 15)
  echoTag := BitVec.ofNat 4 (n / 2 ^ 11)
  echoValid := decide (n / 2 ^ 10 % 2 = 1)
  hear := decide (n / 2 ^ 9 % 2 = 1)
  light := decide (n / 2 ^ 8 % 2 = 1)
  thruDark := decide (n / 2 ^ 7 % 2 = 1)

/-- The message length of a head. -/
def readLength (n : Nat) : Nat := n % 64

/-- A message length that discards its frame: 1 to 4, or above 56 (R106). -/
def badLength (len : Nat) : Bool := (decide (1 ≤ len) && decide (len ≤ 4)) || decide (56 < len)

/-- One bit into the frame check register (R192). -/
def checkBit (r : BitVec 16) (b : Bool) : BitVec 16 :=
  let shifted := r <<< 1
  if r.msb != b then shifted ^^^ 0x1021 else shifted

/-- One byte into the frame check register, most significant bit first. -/
def checkByte (r : BitVec 16) (b : Byte) : BitVec 16 :=
  [7, 6, 5, 4, 3, 2, 1, 0].foldl (fun r i => checkBit r (b.getLsbD i)) r

/-- The frame check over a run of bytes (R192). -/
def frameCheck (bs : List Byte) : BitVec 16 := bs.foldl checkByte 0xFFFF

/-! ### Messages (R193) -/

/-- The 40-bit message header. -/
def headerNat (m : Msg) : Nat :=
  m.dest.toNat * 2 ^ 30 + m.src.toNat * 2 ^ 20 + m.kind.toNat * 2 ^ 15 + dirCode m.dir * 2 ^ 14 + m.hop.toNat * 2 ^ 10
    + m.cls.toNat * 2 ^ 8 + m.tag.toNat

/-- A message as bytes: its header, then its body. -/
def msgBytes (m : Msg) : List Byte := beBytes 5 (headerNat m) ++ m.body

/-- A message from its bytes; none where there is none (message length 0). -/
def readMsg (bs : List Byte) : Option Msg :=
  if bs.length < 5 then none
  else
    let n := beNat (bs.take 5)
    some
      { dest := BitVec.ofNat 10 (n / 2 ^ 30)
        src := BitVec.ofNat 10 (n / 2 ^ 20)
        kind := BitVec.ofNat 5 (n / 2 ^ 15)
        dir := dirOfCode (n / 2 ^ 14 % 2)
        hop := BitVec.ofNat 4 (n / 2 ^ 10)
        cls := BitVec.ofNat 2 (n / 2 ^ 8)
        tag := BitVec.ofNat 8 n
        body := bs.drop 5 }

/-- A whole frame: the head, the message if any, and the frame check (R104, R192). -/
def frameBytes (w : SpanWord) (m : Option Msg) : List Byte :=
  let msg := match m with
    | some m => msgBytes m
    | none => []
  let covered := beBytes 4 (headNat w msg.length) ++ msg
  covered ++ beBytes 2 (frameCheck covered).toNat

/-! ### Records of the pump link and the sample port (R196) -/

/-- A setpoint record: channel, run flag, level. -/
def setpointRecord (ch : Chan) (level : Nat) : BitVec 16 :=
  BitVec.ofNat 16 (ch.val * 2 ^ 13 + (decide (0 < level)).toNat * 2 ^ 12 + level)

/-- The channel of a status record: bits 7 to 5. -/
def statusChan (b : Byte) : Chan := chanOf (b.toNat / 32)

/-- The status of a status record: bit 0 set for FAULT. -/
def statusFault (b : Byte) : Bool := b.getLsbD 0

/-- The channel of a sample word: bits 2 to 0 of byte 0. -/
def sampleChan (b0 : Byte) : Chan := chanOf (b0.toNat % 8)

/-- The code of a sample word: bytes 1 and 2. -/
def sampleCode (b1 b2 : Byte) : Nat := beNat [b1, b2]

/-! ### Items of bodies (R194) -/

/-- An item: its code and its value's bytes. -/
abbrev Item := Nat × List Byte

/-- The items of the bytes after a body's fixed part: none where a code is not carried by the kind or a value is cut short.
`width` gives an item's width from its code and the bytes that follow the code. `fuel` bounds the number of items. -/
def splitItems (width : Nat → List Byte → Option Nat) : Nat → List Byte → Option (List Item)
  | _, [] => some []
  | 0, _ :: _ => none
  | fuel + 1, c :: rest =>
    match width c.toNat rest with
    | none => none
    | some w =>
      if w ≤ rest.length then (splitItems width fuel (rest.drop w)).map ((c.toNat, rest.take w) :: ·) else none

/-- The items of a body's tail, none where the form fails: an item the kind does not carry, bytes past the last item, or one
item twice (R172 step 2). -/
def readItems (width : Nat → List Byte → Option Nat) (bs : List Byte) : Option (List Item) :=
  match splitItems width bs.length bs with
  | some items => if (items.map Prod.fst).Nodup then some items else none
  | none => none

/-- The widths of a record whose fields are numbered from 1. -/
def widthsOf (ws : List Nat) (code : Nat) (_rest : List Byte) : Option Nat :=
  if code = 0 then none else ws[code - 1]?

/-- The value an item carries, as a number. -/
def itemVal (items : List Item) (code : Nat) : Option Nat :=
  (items.find? fun it => it.1 == code).map fun it => beNat it.2

/-- Whether an item of this code is carried. -/
def carries (items : List Item) (code : Nat) : Bool := items.any fun it => it.1 == code

/-- The items without those of the given codes. -/
def dropCodes (codes : List Nat) (items : List Item) : List Item := items.filter fun it => !codes.contains it.1

/-- Widths of the span configuration fields, present 1 to silence count 16 (R194). -/
def spanWidths : List Nat := [1, 2, 1, 1, 4, 2, 5, 1, 3, 2, 1, 1, 1, 2, 1, 1]

/-- Widths of the pump entry fields, role 1 to min-dark 9 (R194). -/
def pumpWidths : List Nat := [1, 1, 1, 2, 2, 2, 2, 2, 2]

/-- Widths of the monitor entry fields, offset 1 to n_ref 11 (R194). -/
def monitorWidths : List Nat := [2, 2, 1, 3, 3, 3, 1, 1, 3, 2, 1]

/-- Widths of the event items: identifier 1, action 2, notify 3, table length 4 (R194). -/
def eventWidths : List Nat := [1, 1, 1, 1]

/-- Widths of the interlock items: assignment 1, sensitivity 2 (R194). -/
def interlockWidths : List Nat := [1, 1]

/-- Widths of the part identity fields in the order of R176. -/
def partWidths : List Nat := [2, 2, 1, 1, 2]

/-- Widths of the grant items: the map with its count byte and two bytes an entry, map length 2, safety level 3 (R194). -/
def grantWidth (code : Nat) (rest : List Byte) : Option Nat :=
  if code = 1 then
    match rest with
    | n :: _ => some (1 + 2 * n.toNat)
    | [] => none
  else if code = 2 ∨ code = 3 then some 1
  else none

/-- The entries of a grant map item after its count byte, as pairs of bytes. -/
def grantPairs : List Byte → List (Nat × Nat)
  | a :: b :: rest => (a.toNat, b.toNat) :: grantPairs rest
  | _ => []

/-- An item of a reply: its code and its value in `w` bytes. -/
def item (code w v : Nat) : List Byte := BitVec.ofNat 8 code :: beBytes w v

/-- An item of a field that may be absent; an absent field is left out (R194). -/
def itemOpt (code w : Nat) : Option Nat → List Byte
  | some v => item code w v
  | none => []

end Sys2Proof.Machine
end

