-- ==== Sys2Proof/Machine/Ops.lean ====
section
/-!
DEFINITION. The named operations over the state: reading and changing one record, raising an event (R149), putting an output out,
the ticks still owed to consumers (R138), and entering a queue (R118, R119).
-/

namespace Sys2Proof.Machine

def PerSpan.get {α : Type} (x : PerSpan α) : Span → α
  | .ws => x.ws
  | .es => x.es

def PerSpan.set {α : Type} (x : PerSpan α) (sp : Span) (a : α) : PerSpan α :=
  match sp with
  | .ws => { x with ws := a }
  | .es => { x with es := a }

/-! ### One record of the state -/

/-- The span configuration record of a span. -/
def State.config (s : State) (sp : Span) : SpanConfig := s.cfg.get sp

def State.setConfig (s : State) (sp : Span) (c : SpanConfig) : State := { s with cfg := s.cfg.set sp c }

/-- The span status record of a span. -/
def State.st (s : State) (sp : Span) : SpanStatus := s.status.get sp

def State.setSt (s : State) (sp : Span) (x : SpanStatus) : State := { s with status := s.status.set sp x }

/-- The exposure ring of a span, newest slot first. -/
def State.slots (s : State) (sp : Span) : List Nat := s.ring.get sp

def State.setSlots (s : State) (sp : Span) (r : List Nat) : State := { s with ring := s.ring.set sp r }

/-- The record of a monitor channel. -/
def State.chan (s : State) (ch : Chan) : MonChan := s.mon[ch]

def State.setChan (s : State) (ch : Chan) (c : MonChan) : State := { s with mon := s.mon.set ch c }

/-- The input channel of a span. -/
def State.inp (s : State) (sp : Span) : InputChan := s.input.get sp

def State.setInp (s : State) (sp : Span) (c : InputChan) : State := { s with input := s.input.set sp c }

/-- The reflection channel of a span. -/
def State.reflection (s : State) (sp : Span) : ReflChan := s.refl.get sp

def State.setReflection (s : State) (sp : Span) (c : ReflChan) : State := { s with refl := s.refl.set sp c }

/-- A pump channel. -/
def State.pump (s : State) (ch : Chan) : Pump := s.pumps[ch]

def State.setPump (s : State) (ch : Chan) (p : Pump) : State := { s with pumps := s.pumps.set ch p }

/-- The line port that faces a span. -/
def State.line (s : State) (sp : Span) : LinePort := s.lines.get sp

def State.setLine (s : State) (sp : Span) (l : LinePort) : State := { s with lines := s.lines.set sp l }

/-- What every port holds. -/
def State.base (s : State) : Port → PortBase
  | .west => (s.line .ws).base
  | .east => (s.line .es).base
  | .loc => s.localPort

def State.setBase (s : State) (p : Port) (b : PortBase) : State :=
  match p with
  | .west => s.setLine .ws { s.line .ws with base := b }
  | .east => s.setLine .es { s.line .es with base := b }
  | .loc => { s with localPort := b }

/-- An interlock line's entry. -/
def State.ilLine (s : State) (n : Chan) : IlLine := s.il[n]

def State.setIlLine (s : State) (n : Chan) (l : IlLine) : State := { s with il := s.il.set n l }

/-- The hold flag of a span (R169). -/
def State.held (s : State) (sp : Span) : Bool := s.hold.get sp

def State.setHeld (s : State) (sp : Span) (b : Bool) : State := { s with hold := s.hold.set sp b }

/-! ### Events, outputs and owed ticks -/

/-- A block raises an event; it carries the tick count as it stands (R141, R149). -/
def State.raise (s : State) (src : Block) (e : Event) (span : EvSpan) (subject : Subject) : State :=
  { s with raised := s.raised ++ [⟨src, e, span, subject, s.time.tickCount, false⟩] }

/-- Something goes out on a port or the pump link. -/
def State.emit (s : State) (o : Output) : State := { s with out := s.out ++ [o] }

/-- The outputs of the command before are gone when the next command begins (log 25). -/
def State.clearOut (s : State) : State := { s with out := [] }

/-- A consumer has not yet taken the tick (R138). -/
def State.owes (s : State) (j : TickJob) : Bool := s.owed.contains j

/-- A consumer no longer has the tick to take. -/
def State.dropJob (s : State) (j : TickJob) : State := { s with owed := s.owed.filter fun k => k ≠ j }

/-- What a command does while RESET is not asserted; while it is held the part takes nothing (R184). -/
def State.unlessReset (s : State) (f : State → State) : State :=
  if s.pins.resetLine then s.clearOut else f s.clearOut

/-! ### Queues (R118, R119) -/

/-- A message enters a queue, or is discarded where the queue holds 8. -/
def enqueue (q : List Msg) (m : Msg) : List Msg := if q.length < Config.queueRoom then q ++ [m] else q

/-- A message reaches the local queue of a port. -/
def State.toLocalQueue (s : State) (p : Port) (m : Msg) : State :=
  s.setBase p { s.base p with queue := enqueue (s.base p).queue m }

/-- A message reaches the forward queue of the line port that faces a span. -/
def State.toForwardQueue (s : State) (sp : Span) (m : Msg) : State :=
  s.setLine sp { s.line sp with forward := enqueue (s.line sp).forward m }

/-- The direction of a message the part originates on a port (R113). -/
def originDir : Port → Dir
  | .west => .wb
  | .east => .eb
  | .loc => .eb

/-- A part of the state is worked on for each of the eight channels, in ascending order: the spec gives no order to the records that one
event sends to several channels (R83, R98), and ascending is the model's choice (log 45). -/
def forChans (f : Chan → State → State) (s : State) : State := Config.chans.foldl (fun s ch => f ch s) s

end Sys2Proof.Machine
end

