-- ==== Sys2Proof/Machine/Flags.lean ====
section
/-!
DEFINITION. The conditions the rules test and the values the rules compute from the state: sums over the exposure ring (R38, R39),
stage edges (R140), line activity and standing conditions (R127, R128, R134, R169), the flags of a span word (R35, R46), the
enable lines (R8), the rights of a class (R170).
-/

namespace Sys2Proof.Machine

/-! ### Causes (R10, R11) -/

/-- The standing causes: INTERLOCK, SUPPLY_LOW and MANUAL_HOLD. -/
def Event.standing : Event → Bool
  | .interlock | .supplyLow | .manualHold => true
  | _ => false

/-- A cause set with an identifier added; the set is kept in the order of the identifiers. -/
def addCause (e : Event) (cs : List Event) : List Event := Event.all.filter fun x => x = e ∨ x ∈ cs

/-- A cause set with an identifier removed. -/
def removeCause (e : Event) (cs : List Event) : List Event := cs.filter fun x => x ≠ e

/-- A cause set with every spent cause removed (R12). -/
def standingOnly (cs : List Event) : List Event := cs.filter Event.standing

/-- The set holds one of the standing causes. -/
def holdsStanding (cs : List Event) : Bool := cs.any Event.standing

/-! ### Span states -/

/-- The states in which a span's enable line is on while the part runs (R7, R8). -/
def SpanState.lit : SpanState → Bool
  | .probe | .confirm | .service => true
  | _ => false

/-- The states in which a span's pumps rise (R83). -/
def SpanState.isOpen : SpanState → Bool
  | .confirm | .service => true
  | _ => false

/-- The states whose ticks the engine counts at slot hand-overs (R6, R19, R31, R43). In WAIT nothing is counted there: the start test is
made at every hand-over (R40). -/
def SpanState.timed : SpanState → Bool
  | .shut | .probe | .confirm => true
  | _ => false

/-! ### Exposure (R36 to R39) -/

/-- The value a launch channel contributes: its substitute while stale, else its latest value. -/
def MonChan.value (c : MonChan) : Nat := if c.stale then c.substitute else c.latest

/-- The slot value of a span as its launch channels stand (R36). -/
def State.slotValue (s : State) (sp : Span) : Nat :=
  (s.chan (Config.outChan sp)).value + (s.chan (Config.ramanChan sp)).value

/-- The window sum S (R38). -/
def State.windowSum (s : State) (sp : Span) : Nat := ((s.slots sp).take (s.config sp).window).sum

/-- The oldest window slot, the W-th newest (R5). -/
def State.oldestSlot (s : State) (sp : Span) : Nat := (s.slots sp).getD ((s.config sp).window - 1) 0

/-- The projected sum P (R39). -/
def State.projectedSum (s : State) (sp : Span) : Nat :=
  ((s.slots sp).take ((s.config sp).window - 1)).sum + (s.config sp).duration * (s.config sp).ceiling

/-! ### Time Base -/

/-- Whether the tick last given is an edge of a stage (R140). -/
def State.edge (s : State) (stage : Nat) : Bool := decide (s.time.tickCount.toNat % 2 ^ stage = 0)

/-! ### Interlocks and standing conditions -/

/-- Whether an assignment names a span (R125). -/
def Assign.names : Assign → Span → Bool
  | .none_, _ => false
  | .ws, sp => decide (sp = .ws)
  | .es, sp => decide (sp = .es)
  | .both, _ => true

/-- Whether a line is active (R127). -/
def IlLine.active (l : IlLine) : Bool :=
  l.latched || (decide (l.sense = .fallLow) && decide (l.observed = some false))
    || (decide (l.sense = .riseHigh) && decide (l.observed = some true))

/-- Whether a line is active and guards a span. -/
def IlLine.guards (l : IlLine) (sp : Span) : Bool := l.active && l.assign.names sp

/-- The lowest-numbered active line guarding a span (R132). -/
def State.activeLine (s : State) (sp : Span) : Option Chan := Config.chans.find? fun n => (s.ilLine n).guards sp

/-- The INTERLOCK condition of a span (R128). -/
def State.interlocked (s : State) (sp : Span) : Bool := Config.chans.any fun n => (s.ilLine n).guards sp

/-- The SUPPLY_LOW condition (R134). -/
def State.supplyDown (s : State) : Bool := decide (s.supply.state ≠ .good)

/-- Whether the condition of a standing cause stands for a span (R129, R136, R156). Spent causes have no condition. -/
def State.stands (s : State) (sp : Span) : Event → Bool
  | .interlock => s.interlocked sp
  | .supplyLow => s.supplyDown
  | .manualHold => s.held sp
  | _ => true

/-! ### Pumps and spans -/

/-- The span a pump lights: the span of a LAUNCH or COUNTER pump, the output span of a STAGE pump, none for an UNUSED one
(R77). -/
def Pump.lights (p : Pump) : Option Span :=
  match p.role with
  | .unused => none
  | .launch => some p.span
  | .counter => some p.span
  | .stage => some (Config.outSpan p.dir)

/-- A pump is a LAUNCH or COUNTER pump of a span. -/
def Pump.of (p : Pump) (sp : Span) : Bool := (decide (p.role = .launch) || decide (p.role = .counter)) && decide (p.span = sp)

/-- A pump is a LAUNCH pump of a span. -/
def Pump.launches (p : Pump) (sp : Span) : Bool := decide (p.role = .launch) && decide (p.span = sp)

/-- The part runs and a span is in CONFIRM or SERVICE. -/
def State.spanOpen (s : State) (sp : Span) : Bool := s.part.run && (s.st sp).state.isOpen

/-- The part runs and the span a pump lights is in CONFIRM or SERVICE (R83, R90). -/
def State.mayRise (s : State) (p : Pump) : Bool :=
  match p.lights with
  | some sp => s.spanOpen sp
  | none => false

/-- The light state of a span's input channel. -/
def State.lightOf (s : State) (sp : Span) : Light := (s.inp sp).light

/-- The far state the span's last far word shows, if one is present (R24). -/
def State.farState (s : State) (sp : Span) : Option SpanState := (s.st sp).far.map SpanWord.state

/-- What an enable line should be: on exactly in RUN with its span in PROBE, CONFIRM or SERVICE (R8). -/
def State.enableOf (s : State) (sp : Span) : Bool := s.part.run && (s.st sp).state.lit

/-! ### The outgoing span word (R35, R46) -/

/-- The echo a span emits: the far tag while the far word shows PROBE and the input is PRESENT, but none in STANDBY, UNUSED and
MAINT (R46). So also in LOCKED on a port in INNER or OUTER, while its last far word still shows PROBE: R190 has every looped word with
echo valid clear, and that R46 is followed there is the model's choice (log 48). -/
def State.echo (s : State) (sp : Span) : Option (BitVec 4) :=
  match (s.st sp).far with
  | some w =>
    if s.part.run ∧ (s.st sp).state ≠ .unused ∧ (s.st sp).state ≠ .maint ∧ w.state = .probe ∧ s.lightOf sp = .present then some w.tag
    else none
  | none => none

/-- The span word that leaves on the line port facing a span. -/
def State.spanWord (s : State) (sp : Span) : SpanWord where
  sender := s.part.site
  state := if s.part.run then (s.st sp).state else .unused
  tag := (s.st sp).tag
  echoTag := (s.echo sp).getD 0
  echoValid := (s.echo sp).isSome
  hear := (s.line sp).live
  light := decide (s.lightOf sp = .present)
  thruDark := decide (s.lightOf sp.other = .absent)

/-- The span word of the Local port's frames (R104). -/
def State.localWord (s : State) : SpanWord where
  sender := s.part.site
  state := .unused
  tag := 0
  echoTag := 0
  echoValid := false
  hear := false
  light := false
  thruDark := false

/-! ### Events (R150 to R152) -/

/-- The fixed events. -/
def Event.fixed : Event → Bool
  | .manualHold | .probeFailed | .lockout | .serviceRestored | .partState => true
  | _ => false

/-- The notify-forced events. -/
def Event.forced : Event → Bool
  | .darkFail | .lockout => true
  | _ => false

/-- The event table entry of an identifier. -/
def State.entry (s : State) (id : Nat) : EvEntry := s.table.toList.getD id ⟨.note, true⟩

/-- The action of an event from the table as it stands (R152). -/
def State.actionOf (s : State) (e : Event) : Action := if e.id < s.tableLen then (s.entry e.id).action else e.floor

/-- The notify flag of an event from the table as it stands (R152). -/
def State.notifyOf (s : State) (e : Event) : Bool := if e.id < s.tableLen then (s.entry e.id).notify else true

/-- The spans an event is raised for, in the order of R156. -/
def EvSpan.spans : EvSpan → List Span
  | .one sp => [sp]
  | .both => [.ws, .es]
  | .none_ => []

/-! ### Rights (R167 to R170) -/

/-- The class used for the checks: on the Local port at least the local class minimum (R167). -/
def State.classUsed (s : State) (r : Req) : Nat :=
  if r.port = .loc then max r.cls.toNat s.part.classMin else r.cls.toNat

/-- A class has a group: class 0, or the group is in use and the map says yes (R168, R170). -/
def State.granted (s : State) (group cls : Nat) : Bool :=
  decide (cls = 0) || (decide (group < s.grants.length) && s.grants.map.toList.getD (3 * group + cls - 1) false)

/-- A class has the safety level (R170). -/
def State.safe (s : State) (cls : Nat) : Bool := decide (cls ≤ s.grants.safety)

end Sys2Proof.Machine
end

