-- ==== Sys2Proof/Machine/Pump.lean ====
section
/-!
DEFINITION. Pump channels and the pump link (spec/04): the commands by a channel's state (R84 to R87), a tick's step (R88 to R90),
entry to FAULTED (R99), the reply check and the setpoint records (R97, R98, R100), and the commands as blocks send them (R83).
-/

namespace Sys2Proof.Machine

/-! ### A channel by itself -/

/-- Level 0 in DARK_HOLD with min-dark restarted; target, pulse and pending rise are gone. -/
def Pump.goHold (p : Pump) : Pump :=
  { p with state := .darkHold, level := 0, target := none, rise := none, pulseLen := none, pulseCount := 0, darkLeft := p.minDark }

/-- From the level as it stands toward `x`, any pulse cancelled (R84, rows RISING to PULSING). -/
def Pump.retarget (p : Pump) (x : Nat) : Pump :=
  if p.level < x then { p with state := .rising, target := some x, pulseLen := none, pulseCount := 0 }
  else if x < p.level then { p with state := .falling, target := some x, pulseLen := none, pulseCount := 0 }
  else if p.level = 0 then p.goHold
  else { p with state := .lit, target := none, pulseLen := none, pulseCount := 0 }

/-- RISE toward a target, clamped to the ceiling, by the channel's state (R84). -/
def Pump.takeRise (p : Pump) (target : Nat) : Pump :=
  let x := min target p.ceiling
  match p.state with
  | .dark => if 0 < x then { p with state := .rising, target := some x } else p
  | .rising => p.retarget x
  | .lit => p.retarget x
  | .falling => p.retarget x
  | .pulsing => p.retarget x
  | .darkHold => { p with rise := if 0 < x then some x else none }
  | .faulted => p

/-- PULSE by the channel's state: taken in DARK only (R85). -/
def Pump.takePulse (p : Pump) (level length : Nat) : Pump :=
  match p.state with
  | .dark => { p with state := .pulsing, level := min level p.ceiling, pulseLen := some length, pulseCount := 0 }
  | _ => p

/-- DOUSE by the channel's state (R86). -/
def Pump.takeDouse (p : Pump) : Pump :=
  match p.state with
  | .dark => p
  | .darkHold => { p with rise := none }
  | .rising | .lit | .falling => if p.level = 0 then p.goHold else { p with state := .falling, target := some 0 }
  | .pulsing => { p with state := .falling, target := some 0, pulseLen := none, pulseCount := 0 }
  | .faulted => p

/-- SNUFF by the channel's state (R87). -/
def Pump.takeSnuff (p : Pump) : Pump :=
  match p.state with
  | .dark => p
  | .faulted => p
  | _ => p.goHold

/-- Entry to FAULTED: level 0, target, pulse and pending rise cleared (R99). Min-dark remaining stays (log 23). -/
def Pump.goFaulted (p : Pump) : Pump :=
  { p with state := .faulted, level := 0, target := none, rise := none, pulseLen := none, pulseCount := 0 }

/-- One step of a tick (R88 to R90). `open_` says whether the span the pump lights is in CONFIRM or SERVICE in RUN. -/
def Pump.takeStep (p : Pump) (open_ : Bool) : Pump :=
  match p.state with
  | .rising =>
    let target := p.target.getD p.level
    let level := min target (p.level + p.up)
    if level = target then { p with state := .lit, level := level, target := none } else { p with level := level }
  | .falling =>
    let target := p.target.getD p.level
    let level := max target (p.level - p.down)
    if level = target then (if target = 0 then p.goHold else { p with state := .lit, level := level, target := none })
    else { p with level := level }
  | .pulsing =>
    if p.pulseLen.getD 0 ≤ p.pulseCount + 1 then p.goHold else { p with pulseCount := p.pulseCount + 1 }
  | .darkHold =>
    let left := p.darkLeft - 1
    if left = 0 then
      match p.rise with
      | none => { p with state := .dark, darkLeft := 0 }
      | some x =>
        if open_ then { p with state := .rising, target := some x, rise := none, darkLeft := 0 }
        else { p with state := .dark, rise := none, darkLeft := 0 }
    else { p with darkLeft := left }
  | .dark | .lit | .faulted => p

/-- A channel in a ramp. -/
def PumpState.ramping : PumpState → Bool
  | .rising | .falling => true
  | _ => false

/-! ### Channels of the part

A command that a block sends to a channel is taken within the step that sends it. R83, R85 and R93 also let another event come between the
sending and the taking; that none does is the model's choice (log 49). -/

/-- An extra setpoint record with the level as it stands; none for an UNUSED channel (R98). -/
def sendRecord (ch : Chan) (s : State) : State :=
  if (s.pump ch).role = .unused then s else s.emit (.setpoint (setpointRecord ch (s.pump ch).level))

/-- A channel takes a new working record. Where it leaves its state, other than from one ramp into another, its count or ramp
starts now and its first step comes at the next tick (R84, R89, R90, R146): a tick's step it has not yet taken is dropped. -/
def State.putPump (s : State) (ch : Chan) (p : Pump) : State :=
  if p.state = (s.pump ch).state ∨ (p.state.ramping ∧ (s.pump ch).state.ramping) then s.setPump ch p
  else (s.setPump ch p).dropJob (.step ch)

/-- A channel enters FAULTED: an extra record is sent and an event is raised for the span of a LAUNCH or COUNTER pump, for none
for a STAGE pump (R98, R99, R101). -/
def faultChannel (e : Event) (ch : Chan) (s : State) : State :=
  let p := s.pump ch
  let span := if p.role = .launch ∨ p.role = .counter then EvSpan.one p.span else .none_
  (sendRecord ch (s.putPump ch p.goFaulted)).raise .pumpLink e span (.pump ch)

/-- The Pump Link's check of a channel at a tick, of the interval that ends at it (R100). -/
def checkTick (ch : Chan) (s : State) : State :=
  let p := s.pump ch
  let missed := p.sent && !p.answered
  let p1 := { p with noReply := if missed then satSucc 3 p.noReply else p.noReply, answered := false }
  let s1 := s.setPump ch p1
  if missed ∧ p1.noReply = 3 ∧ p.state ≠ .faulted then faultChannel .driverLost ch s1 else s1

/-- The Pump Link checks a channel if it still has that tick's check to make. -/
def takeCheck (ch : Chan) (s : State) : State :=
  if s.owes (.check ch) then checkTick ch (s.dropJob (.check ch)) else s

/-- The tick's setpoint record of a channel, sent after every channel has been checked (R97, R100). -/
def linkTick (ch : Chan) (s0 : State) : State :=
  let s := forChans takeCheck s0
  sendRecord ch (s.setPump ch { s.pump ch with sent := decide ((s.pump ch).role ≠ .unused) })

/-- The Pump Link sends a channel's record of the tick if it still has it to send. -/
def takeLink (ch : Chan) (s : State) : State :=
  if s.owes (.link ch) then linkTick ch (s.dropJob (.link ch)) else s

/-- SNUFF taken by a channel (R87): min-dark restarts in DARK_HOLD too, so a tick's step not yet taken is dropped; a used channel
gets an extra record (R98). -/
def snuffChannel (ch : Chan) (s : State) : State :=
  let p := s.pump ch
  let s1 := s.setPump ch p.takeSnuff
  sendRecord ch (if p.takeSnuff.state = .darkHold then s1.dropJob (.step ch) else s1)

/-- RISE taken by a channel after the check of its role and span (R83, R84). -/
def riseChannel (ch : Chan) (x : Nat) (s : State) : State :=
  let p := s.pump ch
  if s.mayRise p then s.putPump ch (p.takeRise x) else s

/-- PULSE taken by a channel after the check of its role, span and state (R83, R85). The record of a tick already given goes out before
the pulse, so that the pulse stands in the records of the ticks that follow (R85, R89); a driver lost at that record refuses it. -/
def pulseChannel (ch : Chan) (level length : Nat) (s : State) : State :=
  let p := s.pump ch
  if p.role = .launch ∧ s.part.run ∧ (s.st p.span).state = .probe ∧ p.state = .dark then
    let s1 := takeLink ch s
    s1.putPump ch ((s1.pump ch).takePulse level length)
  else s

/-- DOUSE taken by a channel of any role, in either part state (R83, R86). -/
def douseChannel (ch : Chan) (s : State) : State := s.putPump ch (s.pump ch).takeDouse

/-- SNUFF to every channel (R87, R157). -/
def snuffAll (s : State) : State := forChans snuffChannel s

/-- SNUFF to every LAUNCH and COUNTER pump of a span and to every STAGE pump whose output span it is (R18). -/
def snuffSpan (sp : Span) (s : State) : State :=
  forChans (fun ch s => if (s.pump ch).lights = some sp then snuffChannel ch s else s) s

/-- SNUFF to the LAUNCH pumps of a span that are still in PULSING (R51). -/
def snuffPulsing (sp : Span) (s : State) : State :=
  forChans (fun ch s => if (s.pump ch).launches sp ∧ (s.pump ch).state = .pulsing then snuffChannel ch s else s) s

/-- PULSE at the probe setpoint to the LAUNCH pumps of a span that are in DARK (R42), taken in the sending step (log 49). -/
def pulseSpan (sp : Span) (s : State) : State :=
  forChans
    (fun ch s =>
      if (s.pump ch).launches sp ∧ (s.pump ch).state = .dark then pulseChannel ch (s.pump ch).probe (s.config sp).duration s else s) s

/-- RISE with the service setpoint to the LAUNCH and COUNTER pumps of a span, and to the STAGE pumps whose output span it is and
whose direction's input is PRESENT (R29), taken in the sending step (log 49). -/
def riseSpan (sp : Span) (s : State) : State :=
  forChans
    (fun ch s =>
      let p := s.pump ch
      if p.of sp ∨ (p.role = .stage ∧ Config.outSpan p.dir = sp ∧ s.lightOf (Config.inSpan p.dir) = .present) then
        riseChannel ch p.service s
      else s) s

/-- RISE with the service setpoint to the STAGE pumps of a direction whose output span is in CONFIRM or SERVICE (R92). It is taken in the
sending step, the model's choice (R83, R93, log 49). -/
def riseStage (d : Dir) (s : State) : State :=
  forChans
    (fun ch s => if (s.pump ch).role = .stage ∧ (s.pump ch).dir = d then riseChannel ch (s.pump ch).service s else s) s

/-- DOUSE to the STAGE pumps of a direction (R92). -/
def douseStage (d : Dir) (s : State) : State :=
  forChans (fun ch s => if (s.pump ch).role = .stage ∧ (s.pump ch).dir = d then douseChannel ch s else s) s

end Sys2Proof.Machine
end

