-- ==== Sys2Proof/Machine/Engine.lean ====
section
/-!
DEFINITION. The Span Engines (spec/01, spec/02): changes of a span's state with what each entry brings about, the actions on a span
(R13 to R17), the far-state tests (R23), the loss tests (R25 to R28), confirmation and service (R29 to R32), and the work of a
tick's slot hand-over (R19, R31, R40 to R51).
-/

namespace Sys2Proof.Machine

/-! ### The state of a span -/

/-- The Pump Controller drives both enable lines from the spans' states and the part's state (R8, R102). -/
def driveLines (s : State) : State :=
  { s with pins := { s.pins with spanEn := ⟨s.enableOf .ws, s.enableOf .es⟩ } }

/-- A span changes its state: ticks in state restarts (R6), call pending is cleared (R21), the off timer is at 0 with off expired
clear (R20), the probe length is absent (R5) and the enable lines follow (R8). Where the tick's slot is still to be handed over, the count
of a timed state begins at the hand-over after it (R146, log 4); a span in WAIT makes its start test at that hand-over (R40, R186). -/
def setSpanState (sp : Span) (x : SpanState) (s : State) : State :=
  driveLines (s.setSt sp
    { s.st sp with state := x, ticks := 0, callPending := false, offTicks := 0, offExpired := false, probeLength := none,
                    startsNext := x.timed && s.owes (.slot sp) })

/-- An event of a span's own engine (R149). -/
def engineRaise (sp : Span) (e : Event) (subject : Subject) (s : State) : State := s.raise (.engine sp) e (.one sp) subject

/-- The entry report flag of a span for an identifier (R5). -/
def SpanStatus.entryFlag (x : SpanStatus) : Event → Bool
  | .interlock => x.entryInterlock
  | .supplyLow => x.entrySupply
  | _ => false

/-- The status record with the entry report flag of an identifier cleared (R5). -/
def SpanStatus.clearEntry (x : SpanStatus) : Event → SpanStatus
  | .interlock => { x with entryInterlock := false }
  | .supplyLow => { x with entrySupply := false }
  | _ => x

/-- The end of a standing condition is reported to a span: the cause leaves the set with no change of state and no event (R11);
the entry report flag goes with it (R5). -/
def endStanding (sp : Span) (e : Event) (s : State) : State :=
  s.setSt sp { (s.st sp).clearEntry e with causes := removeCause e (s.st sp).causes }

/-- Entry to WAIT: the off timer starts at 0; off expired is set at START only (R20). -/
def enterWait (sp : Span) (expired : Bool) (s : State) : State :=
  let s1 := setSpanState sp .wait s
  s1.setSt sp { s1.st sp with offExpired := expired }

/-- Entry to MAINT, with the failure count at 0 (R34). -/
def enterMaint (sp : Span) (s : State) : State :=
  let s1 := setSpanState sp .maint s
  s1.setSt sp { s1.st sp with failures := 0 }

/-- Entry to SHUT: the span's pumps and STAGE pumps are snuffed, the line goes off, call pending is cleared and the dark count
starts (R18). -/
def enterShut (sp : Span) (s : State) : State :=
  let s1 := setSpanState sp .shut (snuffSpan sp s)
  s1.setSt sp { s1.st sp with darkFailRaised := false }

/-- Entry to LOCKED raises LOCKOUT (R16, R51). -/
def enterLocked (sp : Span) (s : State) : State := engineRaise sp .lockout .none_ (setSpanState sp .locked s)

/-- A span's record on entry to UNUSED (R5, R9) and its hold flag (R169). -/
def emptySpan (sp : Span) (s : State) : State :=
  let s1 := setSpanState sp .unused s
  let s2 := s1.setSt sp
    { s1.st sp with causes := [], failures := 0, overshootRaised := false, exposureRaised := false, darkFailRaised := false,
                    confirmRaised := false, entryInterlock := false, entrySupply := false }
  s2.setHeld sp false

/-- Entry to UNUSED by a write of present (R9): a lit span's pumps are snuffed as on entry to SHUT. -/
def enterUnused (sp : Span) (s : State) : State :=
  emptySpan sp (if (s.st sp).state.lit then snuffSpan sp s else s)

/-! ### Loss tests (R25 to R28) -/

/-- SPAN_BREAK in FRAME mode where the span is in SERVICE or CONFIRM, its input is ABSENT and its port SILENT (R25). -/
def breakTest (sp : Span) (s : State) : State :=
  if (s.config sp).mode = .frame ∧ (s.st sp).state.isOpen ∧ s.lightOf sp = .absent ∧ (s.line sp).live = false then
    engineRaise sp .spanBreak (.monitor (Config.inputChan sp)) s
  else s

/-- A far word is present and has through-dark set (R26). -/
def farThruDark (sp : Span) (s : State) : Bool := ((s.st sp).far.map SpanWord.thruDark).getD false

/-- SIGNAL_LOSS in FRAME mode at a loss with the port LIVE, unless the far word has through-dark set (R26). -/
def signalLossTest (sp : Span) (s : State) : State :=
  if (s.config sp).mode = .frame ∧ (s.st sp).state.isOpen ∧ (s.line sp).live = true ∧ farThruDark sp s = false then
    engineRaise sp .signalLoss (.monitor (Config.inputChan sp)) s
  else s

/-- LIGHT_LOST in LIGHT mode at a loss in SERVICE, CONFIRM or PROBE (R28). -/
def lightLostTest (sp : Span) (s : State) : State :=
  if (s.config sp).mode = .light ∧ (s.st sp).state.lit then engineRaise sp .lightLost (.monitor (Config.inputChan sp)) s else s

/-! ### Confirmation and service (R29 to R32) -/

/-- Entry to SERVICE: spent causes go, the failure count is 0, SERVICE_RESTORED is raised (R32). SPAN_BREAK follows where input
and port are lost already (R25, log 21). -/
def enterService (sp : Span) (s : State) : State :=
  let s1 := setSpanState sp .service s
  let s2 := s1.setSt sp { s1.st sp with causes := standingOnly (s1.st sp).causes, failures := 0 }
  breakTest sp (engineRaise sp .serviceRestored .none_ s2)

/-- Every LAUNCH and COUNTER pump of the span with a nonzero service setpoint is in LIT (R30). -/
def pumpsLit (sp : Span) (s : State) : Bool :=
  Config.chans.all fun ch => !((s.pump ch).of sp && decide ((s.pump ch).service ≠ 0)) || decide ((s.pump ch).state = .lit)

/-- The far word is present and shows CONFIRM or SERVICE with the light flag set (R30). -/
def farReady (sp : Span) (s : State) : Bool :=
  match (s.st sp).far with
  | some w => w.state.isOpen && w.light
  | none => false

/-- The completion conditions of R30. -/
def completes (sp : Span) (s : State) : Bool :=
  decide ((s.st sp).state = .confirm) && pumpsLit sp s &&
    (match (s.config sp).mode with
     | .frame => farReady sp s
     | .light => decide (s.lightOf sp = .present))

/-- The completion test: a span in CONFIRM enters SERVICE where every condition holds (R30). -/
def completionTest (sp : Span) (s : State) : State := if completes sp s then enterService sp s else s

/-- Entry to CONFIRM on proof: the pumps rise to their service setpoints (R29); SPAN_BREAK where input and port are lost already
(R25); the completion conditions may hold at once (R30, log 22). -/
def enterConfirm (sp : Span) (s : State) : State :=
  let s1 := setSpanState sp .confirm s
  let s2 := s1.setSt sp { s1.st sp with confirmRaised := false }
  completionTest sp (breakTest sp (riseSpan sp s2))

/-! ### Actions on a span (R10, R13 to R17) -/

/-- What the engine reports to the Event Unit after an action (R10). -/
structure Report where
  state  : SpanState
  causes : List Event
  added  : Bool
  deriving DecidableEq, Repr

/-- A lock action on a span out of UNUSED whose cause is added already (R16, R17). -/
def lockSpan (sp : Span) (s : State) : State :=
  if (s.st sp).state = .locked then s
  else enterLocked sp (if (s.st sp).state.lit then snuffSpan sp s else s)

/-- A SHUT_SPAN action on a span whose cause is added already: it trips PROBE, CONFIRM and SERVICE, but LIGHT_LOST leaves PROBE
running (R14, R15). -/
def shutSpan (sp : Span) (e : Event) (s : State) : State :=
  if (s.st sp).state.lit ∧ ¬ ((s.st sp).state = .probe ∧ e = .lightLost) then enterShut sp s else s

/-- The cause of an action enters the set, and the entry report flag for it is cleared (R10). -/
def addToCauses (sp : Span) (e : Event) (s : State) : State :=
  s.setSt sp { (s.st sp).clearEntry e with causes := addCause e (s.st sp).causes }

/-- The identifier is newly added by an action: it was not held, or its entry report flag is set (R10). -/
def newlyAdded (sp : Span) (e : Event) (s : State) : Bool := !(s.st sp).causes.contains e || (s.st sp).entryFlag e

/-- The state after an action reaches a span. A standing cause whose condition no longer stands leaves the set at the same event
(R129, R136, R156); one whose condition never stood for this span, as INTERLOCK of the other span under SNUFF_ALL, does the same, which is
the model's choice (R17, R157, log 43). -/
def actOn (sp : Span) (act : Action) (e : Event) (s : State) : State :=
  if (s.st sp).state = .unused ∨ act = .note then s
  else
    let s1 := addToCauses sp e s
    let s2 := if act = .shutSpan then shutSpan sp e s1 else lockSpan sp s1
    if s.stands sp e then s2 else endStanding sp e s2

/-- What the engine reports for an action (R10, R13, R156). -/
def reportOf (sp : Span) (act : Action) (e : Event) (before after : State) : Report where
  state := (after.st sp).state
  causes := (after.st sp).causes
  added := decide ((before.st sp).state ≠ .unused ∧ act ≠ .note) && newlyAdded sp e before

/-! ### Leaving UNUSED (R9, R132, R137, R185) -/

/-- The INTERLOCK condition that stands enters the cause set of a span leaving UNUSED, with its event (R132). -/
def enterInterlock (sp : Span) (s : State) : State :=
  match s.activeLine sp with
  | some n =>
    (s.setSt sp { s.st sp with causes := addCause .interlock (s.st sp).causes, entryInterlock := true }).raise
      .interlockUnit .interlock (.one sp) (.line n)
  | none => s

/-- The SUPPLY_LOW condition that stands enters the cause set of a span leaving UNUSED; its event is raised by the caller
(R137). -/
def enterSupply (sp : Span) (s : State) : State :=
  if s.supplyDown then
    s.setSt sp { s.st sp with causes := addCause .supplyLow (s.st sp).causes, entrySupply := true }
  else s

/-- A span leaves UNUSED for MAINT, where its port is in a loop mode, or for WAIT (R9). -/
def leaveUnused (sp : Span) (expired : Bool) (s : State) : State :=
  enterSupply sp (enterInterlock sp (if (s.line sp).loop = .normal then enterWait sp expired s else enterMaint sp s))

/-! ### Far word and light (R21, R23, R47 to R49) -/

/-- The far states that raise FAR_SHUT for a span in SERVICE or CONFIRM (R23). -/
def farShuts : SpanState → SpanState → Bool
  | .service, f => !(decide (f = .confirm) || decide (f = .service))
  | .confirm, f => !(decide (f = .probe) || decide (f = .confirm) || decide (f = .service))
  | _, _ => false

/-- The word is proof for a span in FRAME mode: an echo of its tag with the light flag set (R47). -/
def isProof (x : SpanStatus) (w : SpanWord) : Bool := w.echoValid && decide (w.echoTag = x.tag) && w.light

/-- The tests the engine makes at a valid frame, once the far word is replaced, by the state the span is in (R23, R47, R48, R30). -/
def frameTests (sp : Span) (w : SpanWord) (s : State) : State :=
  match (s.st sp).state with
  | .service => if farShuts .service w.state then engineRaise sp .farShut (.port sp.port) s else s
  | .confirm => completionTest sp (if farShuts .confirm w.state then engineRaise sp .farShut (.port sp.port) s else s)
  | .wait => if w.state = .probe ∨ w.state = .confirm then s.setSt sp { s.st sp with callPending := true } else s
  | .probe =>
    match (s.config sp).mode with
    | .frame => if isProof (s.st sp) w then enterConfirm sp s else s
    | .light => if s.lightOf sp = .present then enterConfirm sp s else s
  | .unused | .shut | .locked | .maint => s

/-- A loss is entry to ABSENT from FADING or PRESENT (R68). -/
def isLoss (old new : Light) : Bool := decide (new = .absent) && (decide (old = .present) || decide (old = .fading))

/-- A return is entry to PRESENT from RETURNING or ABSENT (R68). -/
def isReturn (old new : Light) : Bool := decide (new = .present) && (decide (old = .absent) || decide (old = .returning))

/-- The engine takes a change of its input's light state (R25, R26, R28, R48, R49, R30). The test of R25 is made at every entry
to ABSENT (log 21). -/
def engineLight (sp : Span) (old new : Light) (s : State) : State :=
  let s1 := if new = .absent then breakTest sp s else s
  let s2 := if isLoss old new then lightLostTest sp (signalLossTest sp s1) else s1
  match (s2.st sp).state with
  | .wait =>
    if (s2.config sp).mode = .light ∧ isReturn old new then s2.setSt sp { s2.st sp with callPending := true } else s2
  | .probe => if (s2.config sp).mode = .light ∧ new = .present then enterConfirm sp s2 else s2
  | .confirm => completionTest sp s2
  | .unused | .shut | .service | .locked | .maint => s2

/-- STAGE following takes a change of the input of a direction, in RUN only (R92). A change from FADING to PRESENT sends nothing, as R92 has
it, also where the input was FADING at the entry to CONFIRM, so that no RISE was sent there: R29 says that a STAGE pump whose input is not
yet PRESENT at that entry is raised when it becomes PRESENT, and that R92 is followed between the two is the model's choice (log 52). -/
def stageFollow (d : Dir) (old new : Light) (s : State) : State :=
  if s.part.run = false then s
  else if isReturn old new ∧ (s.st (Config.outSpan d)).state.isOpen then riseStage d s
  else if isLoss old new then douseStage d s
  else s

/-- A change of the light state of a span's input channel is handed to its consumers (R68). -/
def lightChanged (sp : Span) (old new : Light) (s : State) : State :=
  if old = new then s else stageFollow (Config.inputDir sp) old new (engineLight sp old new s)

/-! ### The work of a tick's slot hand-over -/

/-- The dark test of a span in SHUT (R19). -/
def darkTest (sp : Span) (slot : Nat) (s : State) : State :=
  let x := s.st sp
  let ticks := satSucc 65535 x.ticks
  if slot ≤ (s.config sp).darkTolerance then enterWait sp false s
  else if (s.config sp).darkTimeout ≤ ticks ∧ x.darkFailRaised = false then
    engineRaise sp .darkFail .none_ (s.setSt sp { x with ticks := ticks, darkFailRaised := true })
  else s.setSt sp { x with ticks := ticks }

/-- Condition 4 of the start test: a LAUNCH pump in DARK, and none in PULSING, RISING, LIT or FALLING (R40). -/
def launchReady (sp : Span) (s : State) : Bool :=
  (Config.chans.any fun ch => (s.pump ch).launches sp && decide ((s.pump ch).state = .dark)) &&
  (Config.chans.all fun ch =>
    !(s.pump ch).launches sp || decide ((s.pump ch).state = .dark) || decide ((s.pump ch).state = .darkHold)
      || decide ((s.pump ch).state = .faulted))

/-- Condition 5 of the start test, for FRAME mode (R40). -/
def farAgrees (sp : Span) (s : State) : Bool :=
  match (s.config sp).mode with
  | .light => true
  | .frame =>
    (s.line sp).live &&
      (match s.farState sp with
       | some f => decide (f = .wait) || decide (f = .probe) || decide (f = .confirm) || decide (f = .service)
       | none => false)

/-- The probe start test (R40). -/
def startTest (sp : Span) (s : State) : Bool :=
  ((s.st sp).offExpired || (s.st sp).callPending) && !holdsStanding (s.st sp).causes && s.part.run && launchReady sp s &&
    farAgrees sp s && decide (s.projectedSum sp ≤ (s.config sp).limit)

/-- The start of a probe (R42). -/
def startProbe (sp : Span) (s : State) : State :=
  let s1 := setSpanState sp .probe s
  let s2 := s1.setSt sp
    { s1.st sp with tag := (s.st sp).tag + 1, probeLength := some ((s.config sp).duration + (s.config sp).grace),
                    overshootRaised := false, exposureRaised := false }
  pulseSpan sp s2

/-- A probe expires without proof (R51). -/
def expireProbe (sp : Span) (s : State) : State :=
  let s1 := engineRaise sp .probeFailed .none_ (snuffPulsing sp s)
  let n := satSucc 15 (s1.st sp).failures
  let s2 := s1.setSt sp { s1.st sp with failures := n }
  let limit := (s2.config sp).lockout
  if limit ≠ 0 ∧ limit ≤ n then enterLocked sp s2 else enterWait sp false s2

/-- The overshoot test of a pulse tick (R44). -/
def overshootTest (sp : Span) (slot : Nat) (s : State) : State :=
  let x := s.st sp
  if 1 ≤ x.ticks ∧ x.ticks ≤ (s.config sp).duration ∧ (s.config sp).ceiling < slot ∧ x.overshootRaised = false then
    engineRaise sp .probeOvershoot .none_ (s.setSt sp { x with overshootRaised := true })
  else s

/-- The exposure test of a tick in PROBE (R45). -/
def exposureTest (sp : Span) (s : State) : State :=
  let x := s.st sp
  if (s.config sp).limit < s.windowSum sp ∧ x.exposureRaised = false then
    engineRaise sp .exposure .none_ (s.setSt sp { x with exposureRaised := true })
  else s

/-- The hand-over to a span in PROBE, in the order of R43. -/
def probeTick (sp : Span) (slot : Nat) (s : State) : State :=
  let s1 := s.setSt sp { s.st sp with ticks := satSucc 65535 (s.st sp).ticks }
  let s2 := exposureTest sp (overshootTest sp slot s1)
  if (s2.config sp).mode = .light ∧ s2.lightOf sp = .present then enterConfirm sp s2
  else
    match (s2.st sp).probeLength with
    | some n => if n ≤ (s2.st sp).ticks then expireProbe sp s2 else s2
    | none => s2

/-- A tick in CONFIRM (R31). -/
def confirmTick (sp : Span) (s : State) : State :=
  let x := s.st sp
  let ticks := satSucc 65535 x.ticks
  if (s.config sp).confirmTimeout ≤ ticks ∧ x.confirmRaised = false then
    engineRaise sp .confirmTimeout .none_ (s.setSt sp { x with ticks := ticks, confirmRaised := true })
  else s.setSt sp { x with ticks := ticks }

/-- The engine takes a tick's slot by the state the span is in (R19, R31, R40, R43). The start test reads the conditions of the moment of
the hand-over, so one taken after the removal of a standing cause at the same tick may pass, the model's choice (log 47). -/
def engineTick (sp : Span) (slot : Nat) (s : State) : State :=
  match (s.st sp).state with
  | .shut => darkTest sp slot s
  | .wait => if startTest sp s then startProbe sp s else s
  | .probe => probeTick sp slot s
  | .confirm => confirmTick sp s
  | .unused | .service | .locked | .maint => s

/-- The Exposure Unit records a new slot, drops the oldest, and hands it to the engine (R36); an engine whose span entered a timed state
after the tick was given has nothing of this tick to count or test (R146). -/
def slotTick (sp : Span) (s : State) : State :=
  let slot := s.slotValue sp
  let s1 := s.setSlots sp (slot :: (s.slots sp).take (Config.ringSlots - 1))
  if (s.st sp).startsNext then s1.setSt sp { s1.st sp with startsNext := false } else engineTick sp slot s1

/-- The off timer of a span takes a tick: in WAIT it counts an edge of the off stage, and off expired is set when the count
reaches n_off (R20, R144). -/
def offTick (sp : Span) (s : State) : State :=
  let x := s.st sp
  if x.state = .wait ∧ s.edge (s.config sp).offStage then
    let n := satSucc 15 x.offTicks
    s.setSt sp { x with offTicks := n, offExpired := x.offExpired || decide ((s.config sp).offCount ≤ n) }
  else s

end Sys2Proof.Machine
end

