-- ==== Sys2Proof/Machine/Monitor.lean ====
section
/-!
DEFINITION. The Monitor Unit (spec/03): conversion (R64), light states with hysteresis and persistence (R66, R67), the reflection
test (R74, R75), staleness (R69 to R73), and SAMPLE_WORD.
-/

namespace Sys2Proof.Machine

/-- The power of a code with an offset and a gain (R64). -/
def convert (code offset gain : Nat) : Nat := (code - offset) * gain / 256

/-- The light state and run after a sample (R66, R67): `below` for below Lo, `restored` for at or above Hi. -/
def InputChan.sample (c : InputChan) (below restored : Bool) : InputChan :=
  match c.light with
  | .present => if below then (if c.nLoss ≤ 1 then { c with light := .absent, run := 0 } else { c with light := .fading, run := 1 }) else c
  | .fading =>
    if below then
      (if c.nLoss ≤ c.run + 1 then { c with light := .absent, run := 0 } else { c with run := c.run + 1 })
    else { c with light := .present, run := 0 }
  | .absent =>
    if restored then (if c.nRest ≤ 1 then { c with light := .present, run := 0 } else { c with light := .returning, run := 1 }) else c
  | .returning =>
    if restored then
      (if c.nRest ≤ c.run + 1 then { c with light := .present, run := 0 } else { c with run := c.run + 1 })
    else { c with light := .absent, run := 0 }

/-- The light state of a span's input advances, and a change is handed to its consumers (R68). -/
def advanceLight (sp : Span) (below restored : Bool) (s : State) : State :=
  let c := s.inp sp
  let c' := c.sample below restored
  lightChanged sp c.light c'.light (s.setInp sp c')

/-- A sample of an input channel (R66, R67). -/
def inputSample (sp : Span) (power : Nat) (s : State) : State :=
  advanceLight sp (decide (power < (s.inp sp).lo)) (decide ((s.inp sp).hi ≤ power)) s

/-- A sample of a reflection channel: it counts toward the alarm where it is at or above the floor and REF * 1000 exceeds
OUT * k_ref (R74); REFLECT is raised and the run returns to 0 at n_ref (R75). -/
def reflectionSample (sp : Span) (power : Nat) (s : State) : State :=
  let c := s.reflection sp
  let out := (s.chan (Config.outChan sp)).value
  let run := if c.floor ≤ power ∧ out * c.kRef < power * 1000 then c.run + 1 else 0
  if 0 < run ∧ c.nRef ≤ run then
    (s.setReflection sp { c with run := 0 }).raise .monitorUnit .reflect (.one sp) (.monitor (Config.reflChan sp))
  else s.setReflection sp { c with run := run }

/-- A sample word is handled whole: its power replaces the latest value, the freshness count and stale state are cleared, and the
channel's role does its work (R58, R65). -/
def takeSample (ch : Chan) (code : Nat) (s : State) : State :=
  let c := s.chan ch
  let power := convert code c.offset c.gain
  let s1 := s.setChan ch { c with latest := power, fresh := 0, stale := false }
  match Config.monRole ch with
  | .input sp => inputSample sp power s1
  | .launch _ => s1
  | .reflection sp => reflectionSample sp power s1

/-- A channel passes into the stale state: MONITOR_STALE is raised (R70), and a reflection channel's run is set to 0 (R73). -/
def goStale (ch : Chan) (s : State) : State :=
  let s1 := (s.setChan ch { s.chan ch with stale := true }).raise .monitorUnit .monitorStale (.one (Config.monSpan ch)) (.monitor ch)
  match Config.monRole ch with
  | .reflection sp => s1.setReflection sp { s1.reflection sp with run := 0 }
  | .input _ | .launch _ => s1

/-- A stale input advances as if by a sample of 0 µW, below Lo and below Hi whatever they hold (R71). -/
def zeroSample (ch : Chan) (s : State) : State :=
  match Config.monRole ch with
  | .input sp => advanceLight sp true false s
  | .launch _ | .reflection _ => s

/-- The Monitor Unit takes a tick for a channel (R69, R71). -/
def monitorTick (ch : Chan) (s : State) : State :=
  let c := s.chan ch
  let n := satSucc 255 c.fresh
  let s1 := s.setChan ch { c with fresh := n }
  let s2 := if c.stale = false ∧ c.window ≤ n then goStale ch s1 else s1
  if (s2.chan ch).stale then zeroSample ch s2 else s2

/-- SAMPLE_WORD: a sample word of three bytes (R58, R196). -/
def execSampleWord (b0 b1 b2 : Byte) (s : State) : Host.Outcome State Fault Refusal :=
  .next (s.unlessReset (takeSample (sampleChan b0) (sampleCode b1 b2)))

end Sys2Proof.Machine
end

