-- ==== Sys2Proof/Machine/Guard.lean ====
section
/-!
DEFINITION. The Interlock Unit and the Supply Monitor (spec/06): line samples (R126 to R129), changes of a line's entry (R130,
R131), and the supply states (R134 to R136), with SUPPLY_GOOD_FALL and SUPPLY_GOOD_RISE.
-/

namespace Sys2Proof.Machine

/-! ### Interlock lines -/

/-- An event of the Interlock Unit for a span, with the line as subject (R128). -/
def interlockRaise (n : Chan) (sp : Span) (s : State) : State := s.raise .interlockUnit .interlock (.one sp) (.line n)

/-- A line's entry after a tick's sample (R126, R127): an edge needs a level observed before; the active edge latches. -/
def IlLine.sample (l : IlLine) (level : Bool) : IlLine :=
  let edge := decide (l.observed = some (!level))
  let activeEdge :=
    match l.sense with
    | .fall | .fallLow => edge && !level
    | .rise | .riseHigh => edge && level
  { l with observed := some level, latched := l.latched || activeEdge }

/-- What a changed entry of a line brings about for one span: INTERLOCK is raised where the line passes into active guarding the
span or the span's condition passes to standing (R128, R131), and the end is reported where it passes to not standing (R129). -/
def interlockEffect (n : Chan) (old : IlLine) (stoodBefore : Bool) (sp : Span) (s : State) : State :=
  let l := s.ilLine n
  if (!old.active && l.guards sp) || (!stoodBefore && s.interlocked sp) then interlockRaise n sp s
  else if stoodBefore && !s.interlocked sp then endStanding sp .interlock s
  else s

/-- A line takes a new entry, and its spans' conditions are evaluated (R127 to R129, R131), WS before ES, the model's choice (log 44). -/
def putLine (n : Chan) (l : IlLine) (s : State) : State :=
  let old := s.ilLine n
  let w := s.interlocked .ws
  let e := s.interlocked .es
  interlockEffect n old e .es (interlockEffect n old w .ws (s.setIlLine n l))

/-- The Interlock Unit takes a tick for a line (R126). Each line's sample is an event of its own for the conditions of its spans, in any order
of the lines, the model's choice: a line that ends before another begins at the same tick ends the condition in between (R129, log 50). -/
def interlockTick (n : Chan) (s : State) : State := putLine n ((s.ilLine n).sample (s.pins.interlock.getLsbD n.val)) s

/-! ### The Supply Monitor -/

/-- The supply state read from the line at a reset (R134). -/
def supplyFromLine (high : Bool) : Supply := ⟨if high then .settling else .low, 0⟩

/-- The settle count takes a tick: at the settle time the monitor enters GOOD, and the end of SUPPLY_LOW is reported to both spans
(R136). -/
def settleTick (s : State) : State :=
  if s.supply.state = .settling then
    let n := s.supply.count + 1
    if s.part.settleTime ≤ n then
      endStanding .es .supplyLow (endStanding .ws .supplyLow { s with supply := ⟨.good, n⟩ })
    else { s with supply := ⟨.settling, n⟩ }
  else s

/-- The effects of a fall in GOOD or SETTLING: LOW with the count at 0, SNUFF to every channel, SUPPLY_LOW for both spans
(R135). -/
def supplyFall (s : State) : State :=
  if s.supply.state = .low then s
  else (snuffAll { s with supply := ⟨.low, 0⟩ }).raise .supplyMonitor .supplyLow .both .none_

/-- A rise in LOW enters SETTLING with the count at 0; a tick given before it and not yet taken is not counted (R136, R146, log 4). -/
def supplyRise (s : State) : State :=
  if s.supply.state = .low then { s with supply := ⟨.settling, 0⟩ }.dropJob .settle else s

/-- The supply-good pin takes a level. -/
def setSupplyPin (high : Bool) (s : State) : State := { s with pins := { s.pins with supplyGood := high } }

/-- SUPPLY_GOOD_FALL: the supply-good line falls (R135); while RESET is held only the line's level changes (R184). -/
def execSupplyGoodFall (s : State) : Host.Outcome State Fault Refusal :=
  .next ((setSupplyPin false s).unlessReset supplyFall)

/-- SUPPLY_GOOD_RISE: the supply-good line rises (R136); while RESET is held only the line's level changes (R184). -/
def execSupplyGoodRise (s : State) : Host.Outcome State Fault Refusal :=
  .next ((setSupplyPin true s).unlessReset supplyRise)

end Sys2Proof.Machine
end

