-- ==== Sys2Proof/Machine/Events.lean ====
section
/-!
DEFINITION. The Event Unit (spec/08): taking an event (R152 to R158), building and queueing notices (R159 to R162), and the
departure of notices as NOTICE messages (R163), with EVENT_TAKEN and NOTICE_DEPARTURE.
-/

namespace Sys2Proof.Machine

/-! ### Notices -/

/-- The body of a NOTICE (R195). -/
def noticeBody (n : Notice) : List Byte :=
  let byte (v : Nat) : Byte := BitVec.ofNat 8 v
  let subject : Nat × Nat := match n.subject with
    | .none_ => (0, 0)
    | .pump ch => (1, ch.val)
    | .monitor ch => (2, ch.val)
    | .line l => (3, l.val)
    | .port p => (4, portCode p)
  let about : Nat × Nat × Nat := match n.report with
    | some (sp, st, cs) => (spanCode sp, st.code, causeBits cs)
    | none => (255, 255, 0)
  [byte n.event.id, byte about.1, byte subject.1, byte subject.2, byte about.2.1] ++ beBytes 3 about.2.2 ++ beBytes 4 n.stamp.toNat
    ++ [byte n.moreLost.toNat]

/-- The NOTICE message of a notice as it leaves (R163). -/
def noticeMsg (s : State) (n : Notice) : Msg where
  dest := s.part.headEnd
  src := s.part.site
  kind := Config.kindNotice
  dir := originDir s.part.noticePort
  hop := Config.originHops
  cls := 0
  tag := 0
  body := noticeBody n

/-- The oldest notice leaves while the notice port's local queue has room; `fuel` bounds the departures of one event, of which
there are at most 8 (R163). -/
def departures : Nat → State → State
  | 0, s => s
  | fuel + 1, s =>
    match s.notices with
    | [] => s
    | n :: rest =>
      if (s.base s.part.noticePort).queue.length < Config.queueRoom then
        departures fuel ({ s with notices := rest }.toLocalQueue s.part.noticePort (noticeMsg s n))
      else s

/-- The test of R163, made at each event that can make it true. -/
def departNotices (s : State) : State := departures Config.queueRoom s

/-- The newest notice of a full queue is marked (R162). -/
def markNewest : List Notice → List Notice
  | [] => []
  | [n] => [{ n with moreLost := true }]
  | n :: m :: rest => n :: markNewest (m :: rest)

/-- A notice is offered to the notice queue (R161, R162), and may leave it at once (R163). -/
def offerNotice (n : Notice) (s : State) : State :=
  if s.notices.length < Config.noticeRoom then departNotices { s with notices := s.notices ++ [n] }
  else { s with notices := markNewest s.notices }

/-- The notice of an event for a span, from its engine's report (R159). -/
def spanNotice (ev : Raised) (sp : Span) (r : Report) : Notice := ⟨ev.event, ev.subject, some (sp, r.state, r.causes), ev.stamp, false⟩

/-- The notice of an event raised for no span (R160). -/
def bareNotice (ev : Raised) : Notice := ⟨ev.event, ev.subject, none, ev.stamp, false⟩

/-! ### Taking an event -/

/-- The action that acts (R154): NOTE for an event raised for no span. -/
def actingAction (s : State) (ev : Raised) : Action := if ev.span = .none_ then .note else s.actionOf ev.event

/-- The spans an action is handed to, in order (R156, R157): for SNUFF_ALL both, the span raised for first, or WS first where it was
raised for both. -/
def actionSpans (act : Action) (ev : Raised) : List Span :=
  match act, ev.span with
  | .snuffAll, .one sp => [sp, sp.other]
  | .snuffAll, .both => [.ws, .es]
  | _, span => span.spans

/-- An action is handed to the spans in order; what each engine reports is kept with its span (R156). -/
def handAction (act : Action) (e : Event) : List Span → State → State × List (Span × Report)
  | [], s => (s, [])
  | sp :: rest, s =>
    let s1 := actOn sp act e s
    let (s2, reports) := handAction act e rest s1
    (s2, (sp, reportOf sp act e s s1) :: reports)

/-- The notices of the reports (R160): all of them for a NOTE action, else those that report the identifier newly added. -/
def noticesOf (act : Action) (ev : Raised) (reports : List (Span × Report)) : List Notice :=
  (reports.filter fun r => decide (act = .note) || r.2.added).map fun r => spanNotice ev r.1 r.2

/-- The notices of an event in STANDBY: one for each span it is raised for, or one with span none, whatever the action (R160). -/
def standbyNotices (ev : Raised) (s : State) : List Notice :=
  if ev.span = .none_ then [bareNotice ev]
  else ev.span.spans.map fun sp => spanNotice ev sp ⟨(s.st sp).state, (s.st sp).causes, false⟩

/-- Each notice is offered in order. -/
def offerAll (ns : List Notice) (s : State) : State := ns.foldl (fun s n => offerNotice n s) s

/-- The newest of the events raised is marked as the second LOCKOUT of one action (R158). -/
def markSecond : List Raised → List Raised
  | [] => []
  | [ev] => [{ ev with second := true }]
  | ev :: next :: rest => ev :: markSecond (next :: rest)

/-- Where an action took both spans into LOCKED, the later of their two LOCKOUT events is taken after the earlier (R158). An action
raises no other event, so `n`, the number of events that waited before it, tells how many it raised. -/
def pairLockouts (n : Nat) (s : State) : State :=
  if n + 2 ≤ s.raised.length then { s with raised := markSecond s.raised } else s

/-- The Event Unit takes an event (R152 to R160): the action and notify flag are those of the table as it stands, the action acts in
RUN, and the notices are built where the flag is set. -/
def takeEvent (ev : Raised) (s : State) : State :=
  let notify := s.notifyOf ev.event
  if s.part.run = false then (if notify then offerAll (standbyNotices ev s) s else s)
  else
    let act := actingAction s ev
    let s1 := if act = .snuffAll then snuffAll s else s
    let (s2, reports) := handAction act ev.event (actionSpans act ev) s1
    let s3 := pairLockouts s.raised.length s2
    let notices := if ev.span = .none_ then [bareNotice ev] else noticesOf act ev reports
    if notify then offerAll notices s3 else s3

/-- The first event of a block among the raised ones, with the events left. The second LOCKOUT of one action waits while the first, the
newest LOCKOUT of the other engine raised before it, has not been taken (R158, log 12). -/
def pickEvent (src : Block) : List Raised → Option (Raised × List Raised)
  | [] => none
  | ev :: rest =>
    if ev.src = src then some (ev, rest)
    else
      match pickEvent src rest with
      | some (got, left) => if ev.event = .lockout ∧ got.second then none else some (got, ev :: left)
      | none => none

/-- The Event Unit takes the oldest event of a block, if one is raised (R149, R152). -/
def takeOldest (src : Block) (s : State) : State :=
  match pickEvent src s.raised with
  | some (ev, left) => takeEvent ev { s with raised := left }
  | none => s

/-- EVENT_TAKEN (R152). -/
def execEventTaken (src : Block) (s : State) : Host.Outcome State Fault Refusal := .next (s.unlessReset (takeOldest src))

/-- NOTICE_DEPARTURE (R163). -/
def execNoticeDeparture (s : State) : Host.Outcome State Fault Refusal := .next (s.unlessReset departNotices)

end Sys2Proof.Machine
end

