-- ==== Sys2Proof/Machine/PartControl.lean ====
section
/-!
DEFINITION. Part Control (spec/10): the effects of START, HALT and CLEAR (R185, R187, R188), and POWER_ON_RESET, RESET_ASSERT and
RESET_RELEASE (R184).
-/

namespace Sys2Proof.Machine

/-- The part state changes, and with it the RUN indicator (R182) and the enable lines (R8). -/
def setRun (run : Bool) (s : State) : State :=
  driveLines { s with part := { s.part with run := run }, pins := { s.pins with runLed := run } }

/-- PART_STATE, for no span and with no subject. -/
def raisePartState (s : State) : State := s.raise .partControl .partState .none_ .none_

/-! ### START, HALT, CLEAR -/

/-- A span whose present field is yes leaves UNUSED at START (R185). -/
def startSpan (sp : Span) (s : State) : State := if (s.config sp).present then leaveUnused sp true s else s

/-- Mismatch reported is set to no on a line port (R109). -/
def clearMismatch (sp : Span) (s : State) : State := s.setLine sp { s.line sp with mismatch := false }

/-- SUPPLY_LOW is raised once at START, for both spans, where the condition stands and a span leaves UNUSED (R137, log 15). -/
def startSupply (s : State) : State :=
  if s.supplyDown ∧ ((s.config .ws).present ∨ (s.config .es).present) then s.raise .supplyMonitor .supplyLow .both .none_ else s

/-- The effect of a START that is taken (R185). Where both spans raise INTERLOCK, that of WS comes first, the model's choice (log 44). -/
def startPart (s : State) : State :=
  raisePartState (clearMismatch .es (clearMismatch .ws (startSupply (startSpan .es (startSpan .ws (setRun true s))))))

/-- A span not in UNUSED enters it at HALT and CLEAR; its pumps are snuffed with every other (R9, R187). -/
def haltSpan (sp : Span) (s : State) : State := if (s.st sp).state = .unused then s else emptySpan sp s

/-- What HALT and a CLEAR in RUN have in common, without the event (R187). -/
def haltPart (s : State) : State := setRun false (haltSpan .es (haltSpan .ws (snuffAll s)))

/-- Port counts, queue, silence count, last served and mismatch flag of a line port after CLEAR (R103, R188). -/
def PortBase.cleared (b : PortBase) : PortBase := { b with accepted := 0, discarded := 0, queue := [] }

def LinePort.cleared (l : LinePort) : LinePort :=
  { l with base := l.base.cleared, silence := 0, mismatch := false, forward := [], served := .local_ }

/-- The light state CLEAR leaves an input in, with its run at 0 (R63). -/
def InputChan.cleared (c : InputChan) : InputChan :=
  match c.light with
  | .present | .fading => { c with light := .present, run := 0 }
  | .absent | .returning => { c with light := .absent, run := 0 }

/-- CLEAR's effect on a span's input channel; the return is handed on (R63, R68). -/
def clearInput (sp : Span) (s : State) : State :=
  let c := s.inp sp
  lightChanged sp c.light c.cleared.light (s.setInp sp c.cleared)

/-- CLEAR's effect on what the engine and the Exposure Unit hold for a span (R24, R37, R57). -/
def clearSpan (sp : Span) (s : State) : State :=
  (s.setSt sp { s.st sp with far := none, tag := 0 }).setSlots sp (List.replicate Config.ringSlots 0)

/-- The effect of a CLEAR (R188). -/
def clearPart (s : State) : State :=
  let s1 := if s.part.run then haltPart s else snuffAll s
  let s2 := clearSpan .es (clearSpan .ws s1)
  let s3 := clearInput .es (clearInput .ws s2)
  let s4 := { s3 with
    lines := ⟨(s3.line .ws).cleared, (s3.line .es).cleared⟩
    localPort := s3.localPort.cleared
    notices := []
    refl := ⟨{ s3.reflection .ws with run := 0 }, { s3.reflection .es with run := 0 }⟩
    pumps := s3.pumps.map fun p => { p with noReply := 0 } }
  raisePartState s4

/-! ### Resets -/

/-- Every item at its reset value (R184). The pins keep the levels the outside drives, the supply state is read from its line (R134,
log 7), and the queue of waiting commands is not the part's. -/
def resetPart (s : State) : State :=
  { State.reset with
    supply := supplyFromLine s.pins.supplyGood
    pins := { State.reset.pins with interlock := s.pins.interlock, supplyGood := s.pins.supplyGood, resetLine := s.pins.resetLine }
    pending := s.pending }

/-- The abort sequence on a port whose frame is still being sent (R105). -/
def abortFrame (p : Port) (cut : Bool) (s : State) : List Output :=
  if cut ∧ (s.base p).sending.isSome then [.abort p] else []

/-- The extra level-0 record to each channel whose role was not UNUSED before the reset (R184). -/
def resetRecords (s : State) : List Output :=
  (Config.chans.filter fun ch => (s.pump ch).role ≠ .unused).map fun ch => .setpoint (setpointRecord ch 0)

/-- RESET_ASSERT's effect (R184). -/
def assertReset (cutWest cutEast cutLocal : Bool) (s : State) : State :=
  let s1 := resetPart s
  { s1 with
    pins := { s1.pins with resetLine := true }
    out := abortFrame .west cutWest s ++ abortFrame .east cutEast s ++ abortFrame .loc cutLocal s ++ resetRecords s }

/-- RESET_RELEASE's effect: the line is released and the Supply Monitor reads its line (R134, R184). -/
def releaseReset (s : State) : State :=
  if s.pins.resetLine then
    { s with pins := { s.pins with resetLine := false }, supply := supplyFromLine s.pins.supplyGood, out := [] }
  else s.clearOut

/-- POWER_ON_RESET (R184). -/
def execPowerOnReset (s : State) : Host.Outcome State Fault Refusal := .next (resetPart s)

/-- RESET_ASSERT (R184). -/
def execResetAssert (cutWest cutEast cutLocal : Bool) (s : State) : Host.Outcome State Fault Refusal :=
  .next (assertReset cutWest cutEast cutLocal s)

/-- RESET_RELEASE (R184). -/
def execResetRelease (s : State) : Host.Outcome State Fault Refusal := .next (releaseReset s)

end Sys2Proof.Machine
end

