-- ==== Sys2Proof/Machine/Read.lean ====
section
/-!
DEFINITION. The records a READ returns, as the items of its reply (R179, R194; R76, R96, R123, R133, R165).
-/

namespace Sys2Proof.Machine

def bit (b : Bool) : Nat := b.toNat

/-- The span configuration record (R2). -/
def configItems (c : SpanConfig) : List Byte :=
  item 1 1 (bit c.present) ++ item 2 2 c.neighbour.toNat ++ item 3 1 c.mode.code ++ item 4 1 c.duration ++ item 5 4 c.ceiling ++
  item 6 2 c.window ++ item 7 5 c.limit ++ item 8 1 c.lockout ++ item 9 3 c.darkTolerance ++ item 10 2 c.darkTimeout ++
  item 11 1 c.offStage ++ item 12 1 c.offCount ++ item 13 1 c.grace ++ item 14 2 c.confirmTimeout ++ item 15 1 c.silenceStage ++
  item 16 1 c.silenceCount

/-- The span status record (R5), the window sum and the oldest window slot as they stand (R38). -/
def statusItems (sp : Span) (s : State) : List Byte :=
  let x := s.st sp
  item 1 1 x.state.code ++ item 2 3 (causeBits x.causes) ++ item 3 1 x.failures ++ item 4 1 x.tag.toNat ++
  item 5 1 (bit x.callPending) ++ item 6 1 x.offTicks ++ item 7 1 (bit x.offExpired) ++ item 8 2 x.ticks ++
  itemOpt 9 4 (x.far.map fun w => headNat w 0) ++ item 10 5 (s.windowSum sp) ++ item 11 4 (s.oldestSlot sp)

/-- The pump entry and working record (R96). -/
def pumpItems (p : Pump) : List Byte :=
  item 1 1 p.role.code ++ item 2 1 (spanCode p.span) ++ item 3 1 (dirCode p.dir) ++ item 4 2 p.ceiling ++ item 5 2 p.service ++
  item 6 2 p.probe ++ item 7 2 p.up ++ item 8 2 p.down ++ item 9 2 p.minDark ++ item 10 1 p.state.code ++ item 11 2 p.level ++
  itemOpt 12 2 p.target ++ itemOpt 13 2 p.rise ++ itemOpt 14 1 p.pulseLen ++ item 15 1 p.pulseCount ++ item 16 2 p.darkLeft ++
  item 17 1 p.noReply

/-- The monitor entry and channel record, with the fields of the channel's role (R76). -/
def monitorItems (ch : Chan) (s : State) : List Byte :=
  let c := s.chan ch
  let table := item 1 2 c.offset ++ item 2 2 c.gain ++ item 3 1 c.window ++ item 4 3 c.substitute
  let record := item 12 3 c.latest ++ item 13 1 c.fresh ++ item 14 1 (bit c.stale)
  match Config.monRole ch with
  | .launch _ => table ++ record
  | .input sp =>
    let i := s.inp sp
    table ++ item 5 3 i.lo ++ item 6 3 i.hi ++ item 7 1 i.nLoss ++ item 8 1 i.nRest ++ record ++ item 15 1 i.light.code ++ item 16 1 i.run
  | .reflection sp =>
    let f := s.reflection sp
    table ++ item 9 3 f.floor ++ item 10 2 f.kRef ++ item 11 1 f.nRef ++ record ++ item 17 1 f.run

/-- The event record of an identifier from 0 to 31; entries 21 to 31 return floor NOTE, not fixed and not notify-forced
(R151, R165). -/
def eventItems (id : Nat) (s : State) : List Byte :=
  let e := s.entry id
  let about : Nat × Bool × Bool := match Event.all[id]? with
    | some ev => (ev.floor.code, ev.fixed, ev.forced)
    | none => (0, false, false)
  item 1 1 e.action.code ++ item 2 1 (bit e.notify) ++ item 3 1 about.1 ++ item 4 1 (bit about.2.1) ++ item 5 1 (bit about.2.2) ++
  item 6 1 (bit (decide (id < s.tableLen)))

/-- The notice queue record (R165). -/
def noticeItems (s : State) : List Byte := item 1 1 s.notices.length ++ item 2 1 s.tableLen

/-- The interlock entry and whether the line is active (R133). -/
def interlockItems (l : IlLine) : List Byte :=
  item 1 1 l.assign.code ++ item 2 1 l.sense.code ++ itemOpt 3 1 (l.observed.map bit) ++ item 4 1 (bit l.latched) ++
  item 5 1 (bit l.active)

/-- The port record of a line port (R123). -/
def lineItems (l : LinePort) : List Byte :=
  item 1 1 (bit (!l.live)) ++ item 2 1 l.silence ++ item 3 1 (bit l.mismatch) ++ item 4 1 l.loop.code ++ item 5 2 l.base.accepted ++
  item 6 2 l.base.discarded ++ item 7 1 l.forward.length ++ item 8 1 l.base.queue.length ++ item 9 1 l.served.code

/-- The port record of the Local port: items 5, 6 and 8 (R123, R194). -/
def localItems (b : PortBase) : List Byte := item 5 2 b.accepted ++ item 6 2 b.discarded ++ item 8 1 b.queue.length

/-- The part record (R179). -/
def partItems (s : State) : List Byte :=
  item 1 1 (bit s.part.run) ++ item 2 2 s.part.site.toNat ++ item 3 2 s.part.headEnd.toNat ++ item 4 1 (portCode s.part.noticePort) ++
  item 5 1 s.part.classMin ++ item 6 2 s.part.settleTime ++ item 7 1 s.supply.state.code ++ item 8 2 s.supply.count ++
  item 9 4 s.time.tickCount.toNat ++ item 10 1 (bit (s.held .ws)) ++ item 11 1 (bit (s.held .es))

/-- The grant map as a number: bit 3 * group + class - 1 for yes (R194). -/
def grantBits (g : Grants) : Nat :=
  ((List.range 27).map fun i => bit (g.map.toList.getD i false) * 2 ^ i).sum

/-- The grant record (R179). -/
def grantItems (g : Grants) : List Byte := item 1 4 (grantBits g) ++ item 2 1 g.length ++ item 3 1 g.safety

/-- The items of the record a READ names by its record kind and target; none where either lies outside its list (R179, log 19). -/
def recordItems (kind target : Nat) (s : State) : Option (List Byte) :=
  match kind with
  | 0 => if target ≤ 1 then some (configItems (s.config (spanOfCode target))) else none
  | 1 => if target ≤ 1 then some (statusItems (spanOfCode target) s) else none
  | 2 => if target ≤ 7 then some (pumpItems (s.pump (chanOf target))) else none
  | 3 => if target ≤ 7 then some (monitorItems (chanOf target) s) else none
  | 4 => if target ≤ 31 then some (eventItems target s) else none
  | 5 => if target = 0 then some (noticeItems s) else none
  | 6 => if target ≤ 7 then some (interlockItems (s.ilLine (chanOf target))) else none
  | 7 =>
    match target with
    | 0 => some (lineItems (s.line .ws))
    | 1 => some (lineItems (s.line .es))
    | 2 => some (localItems s.localPort)
    | _ => none
  | 8 => if target = 0 then some (partItems s) else none
  | 9 => if target = 0 then some (grantItems s.grants) else none
  | _ => none

end Sys2Proof.Machine
end

