-- ==== Sys2Proof/Machine/Requests.lean ====
section
/-!
DEFINITION. The Request Handler and the owners' checks of each request (spec/09; R3, R4, R61, R78 to R80, R94, R95, R130, R131,
R153, R173 to R178): for every kind the checks in the order of R172, the effect, and the REPLY (R180), with the request commands.
-/

namespace Sys2Proof.Machine

/-- The outcomes of a reply, coded 0 to 7 (R172, R194). -/
inductive Reply where
  | done | adjusted | partly | denied | state | range | form | unknown
  deriving DecidableEq, Repr

def Reply.code : Reply → Nat
  | .done => 0 | .adjusted => 1 | .partly => 2 | .denied => 3 | .state => 4 | .range => 5 | .form => 6 | .unknown => 7

/-- What a request comes to: the state after its effect, its outcome, the bytes its reply carries besides, and whether notices may leave
once the reply has entered its queue (R164). -/
structure Answer where
  s      : State
  code   : Reply
  extra  : List Byte
  depart : Bool

/-- A request refused: nothing is applied (R172). -/
def refuse (code : Reply) (s : State) : Answer := ⟨s, code, [], false⟩

/-- A request done. -/
def doneWith (s : State) : Answer := ⟨s, .done, [], false⟩

/-- The REPLY of a request, built after its effect (R180). -/
def replyMsg (kind : BitVec 5) (r : Req) (a : Answer) : Msg where
  dest := r.src
  src := a.s.part.site
  kind := Config.kindReply
  dir := originDir r.port
  hop := Config.originHops
  cls := 0
  tag := r.tag
  body := [BitVec.ofNat 8 kind.toNat, BitVec.ofNat 8 a.code.code] ++ a.extra

/-- The reply is placed in the local queue of the port the request arrived on, or lost where it is full (R180, R181); the notices that
its effect lets leave follow it where they have not gone before it (R164). -/
def sendReply (kind : BitVec 5) (r : Req) (a : Answer) : State :=
  let t := a.s.toLocalQueue r.port (replyMsg kind r a)
  if a.depart then departNotices t else t

/-! ### Fields of writes -/

/-- The value a write leaves in a field: the one carried, else the one held. -/
def written {α : Type} (items : List Item) (code : Nat) (read : Nat → α) (old : α) : α :=
  match itemVal items code with
  | some v => read v
  | none => old

/-- Every item's value lies within its field's range; ranges are numbered from 1. -/
def inRanges (ranges : List (Nat × Nat)) (items : List Item) : Bool :=
  items.all fun it =>
    match ranges[it.1 - 1]? with
    | some (lo, hi) => decide (lo ≤ beNat it.2) && decide (beNat it.2 ≤ hi)
    | none => false

/-- The codes of a list that a write carries, as bytes for a reply (R194). -/
def codeBytes (codes : List Nat) : List Byte := codes.map fun c => BitVec.ofNat 8 c

/-- How a write with its grant goes on (R171): none is DENIED; else the items that go on and the codes withheld. -/
def divide (safe : Bool) (safety : List Nat) (items : List Item) : Option (List Item × List Nat) :=
  let withheld := safety.filter (carries items)
  let tuning := dropCodes safety items
  if safe then some (items, [])
  else if withheld = [] then some (items, [])
  else if tuning = [] then none
  else some (tuning, withheld)

/-- The outcome of an applied write (R171): PARTIAL where fields were withheld, ADJUSTED where a clamp acted, else DONE. -/
def applied (s : State) (withheld : List Nat) (adjusted : Bool) (named : List Nat) : Answer :=
  if withheld ≠ [] then ⟨s, .partly, codeBytes withheld, false⟩
  else if adjusted then ⟨s, .adjusted, codeBytes named, false⟩
  else doneWith s

/-! ### WRITE_SPAN (R3, R4) -/

/-- Ranges of the span configuration fields (R2). -/
def spanRanges : List (Nat × Nat) :=
  [(0, 1), (1, 1022), (0, 1), (1, 255), (1, 33553408), (16, 256), (1, 8589672448), (0, 15), (0, 16776704), (1, 1000), (10, 16),
   (1, 15), (0, 255), (1, 65535), (0, 4), (2, 15)]

/-- The safety fields of the span configuration record (R2). -/
def spanSafety : List Nat := [1, 2, 3, 4, 5, 6, 7, 8, 9, 10]

/-- The record as it would stand with a write applied (R3). -/
def SpanConfig.write (c : SpanConfig) (items : List Item) : SpanConfig where
  present := written items 1 (fun v => decide (v = 1)) c.present
  neighbour := written items 2 (BitVec.ofNat 10) c.neighbour
  mode := written items 3 RestartMode.ofCode c.mode
  duration := written items 4 id c.duration
  ceiling := written items 5 id c.ceiling
  window := written items 6 id c.window
  limit := written items 7 id c.limit
  lockout := written items 8 id c.lockout
  darkTolerance := written items 9 id c.darkTolerance
  darkTimeout := written items 10 id c.darkTimeout
  offStage := written items 11 id c.offStage
  offCount := written items 12 id c.offCount
  grace := written items 13 id c.grace
  confirmTimeout := written items 14 id c.confirmTimeout
  silenceStage := written items 15 id c.silenceStage
  silenceCount := written items 16 id c.silenceCount

/-- The first step of R3: RANGE. -/
def spanRangeBad (c' : SpanConfig) (items : List Item) : Bool :=
  !inRanges spanRanges items || decide (c'.window ≤ c'.duration) || decide (c'.limit < c'.ceiling * c'.duration)

/-- The second step of R3: STATE. -/
def spanStateBad (c c' : SpanConfig) (x : SpanStatus) (items : List Item) : Bool :=
  (decide (c'.mode ≠ c.mode ∨ c'.duration ≠ c.duration ∨ c'.ceiling ≠ c.ceiling ∨ c'.window ≠ c.window ∨ c'.limit ≠ c.limit)
      && decide (x.state = .probe ∨ x.state = .confirm))
  || (decide (c'.present ≠ c.present) && x.state.lit)
  || (c.present && !c'.present && decide (x.state = .shut))
  || (carries items 8 && decide (c'.lockout ≠ 0) && decide (c'.lockout ≤ x.failures) && decide (x.state ≠ .locked))

/-- A change of present (R4, R9): in RUN a span leaves UNUSED or enters it; in STANDBY the value is only stored. -/
def presentChanged (sp : Span) (now : Bool) (s : State) : State :=
  if s.part.run = false then s
  else if now then
    (if (s.st sp).state = .unused then
      let s1 := leaveUnused sp false s
      if s1.supplyDown then s1.raise .supplyMonitor .supplyLow (.one sp) .none_ else s1
    else s)
  else if (s.st sp).state = .wait ∨ (s.st sp).state = .locked ∨ (s.st sp).state = .maint then enterUnused sp s
  else s

/-- A change of restart mode: the loss conditions of the new mode are evaluated for a span in SERVICE (R4). -/
def modeChanged (sp : Span) (s : State) : State :=
  if (s.st sp).state = .service ∧ s.lightOf sp = .absent then
    match (s.config sp).mode with
    | .frame => breakTest sp s
    | .light => engineRaise sp .lightLost (.monitor (Config.inputChan sp)) s
  else s

/-- An applied change of the record takes effect (R4, R109, R145). -/
def applySpan (sp : Span) (c' : SpanConfig) (s : State) : State :=
  let c := s.config sp
  let s1 := s.setConfig sp c'
  let s2 := if c'.neighbour = c.neighbour then s1 else clearMismatch sp (s1.setSt sp { s1.st sp with far := none })
  let s3 := if c'.offStage = c.offStage then s2 else s2.setSt sp { s2.st sp with offTicks := 0 }
  let s4 := if c'.silenceStage = c.silenceStage then s3 else s3.setLine sp { s3.line sp with silence := 0 }
  let s5 := if c'.present = c.present then s4 else presentChanged sp c'.present s4
  if c'.mode = c.mode then s5 else modeChanged sp s5

/-- The Span Engine's checks and effect of a WRITE_SPAN (R3, R4). -/
def ownerWriteSpan (sp : Span) (items : List Item) (withheld : List Nat) (s : State) : Answer :=
  let c := s.config sp
  let c' := c.write items
  if spanRangeBad c' items then refuse .range s
  else if spanStateBad c c' (s.st sp) items then refuse .state s
  else applied (applySpan sp c' s) withheld false []

/-- The group of a span in the grant map (R168). -/
def spanGroup (sp : Span) : Nat := 1 + spanCode sp

/-- WRITE_SPAN through the checks of R172. -/
def writeSpan (r : Req) (s : State) : Answer :=
  match r.body with
  | [] => refuse .form s
  | t :: rest =>
    match readItems (widthsOf spanWidths) rest with
    | none => refuse .form s
    | some items =>
      if 1 < t.toNat then refuse .range s
      else
        let sp := spanOfCode t.toNat
        let cls := s.classUsed r
        if s.granted (spanGroup sp) cls = false then refuse .denied s
        else
          match divide (s.safe cls) spanSafety items with
          | none => refuse .denied s
          | some (goOn, withheld) => ownerWriteSpan sp goOn withheld s

/-! ### WRITE_PUMP, SET_SETPOINT, CLEAR_PUMP (R78 to R80, R94, R95) -/

/-- Ranges of the pump entry fields (R77). -/
def pumpRanges : List (Nat × Nat) :=
  [(0, 3), (0, 1), (0, 1), (0, 4000), (0, 4000), (0, 4000), (1, 4000), (1, 4000), (0, 65535)]

/-- The safety fields of the pump table (R77). -/
def pumpSafety : List Nat := [1, 2, 3, 4, 6]

/-- The entry as it would stand with a write applied, before any clamp (R78). -/
def Pump.write (p : Pump) (items : List Item) : Pump :=
  { p with
    role := written items 1 Role.ofCode p.role
    span := written items 2 spanOfCode p.span
    dir := written items 3 dirOfCode p.dir
    ceiling := written items 4 id p.ceiling
    service := written items 5 id p.service
    probe := written items 6 id p.probe
    up := written items 7 id p.up
    down := written items 8 id p.down
    minDark := written items 9 id p.minDark }

/-- A write changes the role, span or direction. -/
def rebinds (p p' : Pump) : Bool := decide (p'.role ≠ p.role ∨ p'.span ≠ p.span ∨ p'.dir ≠ p.dir)

/-- The span a pump lights is in PROBE, CONFIRM or SERVICE. -/
def State.litSpan (s : State) (p : Pump) : Bool :=
  match p.lights with
  | some sp => (s.st sp).state.lit
  | none => false

/-- The second step of R78: STATE. The probe setpoint counts as changed where the value carried differs from the one held
(log 17). -/
def pumpStateBad (p p' : Pump) (s : State) : Bool :=
  (rebinds p p' && s.part.run &&
    (decide (0 < p.level) || !(decide (p.state = .dark) || decide (p.state = .darkHold)) || s.litSpan p || s.litSpan p'))
  || (decide (p'.probe ≠ p.probe) && decide (p.state = .pulsing))

/-- The setpoints at or below the ceiling (R79). -/
def Pump.clampSetpoints (p : Pump) : Pump := { p with service := min p.service p.ceiling, probe := min p.probe p.ceiling }

/-- A pending rise at or below a ceiling; a ceiling of 0 leaves none (R79, log 17). -/
def clampRise (ceiling : Nat) : Option Nat → Option Nat
  | some x => if min x ceiling = 0 then none else some (min x ceiling)
  | none => none

/-- Level, target and pending rise at or below the ceiling, and the state that leaves: a clamp of the level or of the target that leaves
a channel in LIT, RISING or FALLING at level 0 puts it in DARK_HOLD (R79, log 17). A RISING channel above level 0 whose target alone is
clamped stays RISING, also where the target then equals its level: R79 names no state for it, and this is the model's choice (log 17). -/
def Pump.clampWork (p : Pump) : Pump :=
  let level := min p.level p.ceiling
  let target := p.target.map (min · p.ceiling)
  let q := { p with level := level, target := target, rise := clampRise p.ceiling p.rise }
  let acted := level < p.level ∨ target ≠ p.target
  match p.state with
  | .lit | .rising =>
    if acted ∧ level = 0 then q.goHold
    else if level < p.level then { q with state := .lit, target := none }
    else q
  | .falling =>
    if acted ∧ level = 0 then q.goHold
    else if level < p.level ∧ target = some level then { q with state := .lit, target := none }
    else q
  | .dark | .pulsing | .darkHold | .faulted => q

/-- Whether a clamp of R79 changed a value carried or stored. -/
def Pump.clamped (p : Pump) : Bool :=
  decide (p.ceiling < p.service) || decide (p.ceiling < p.probe) || decide (p.ceiling < p.level)
    || decide (p.target.map (min · p.ceiling) ≠ p.target) || decide (clampRise p.ceiling p.rise ≠ p.rise)

/-- The setpoints carried and stored otherwise than carried, by their codes. -/
def clampedCodes (items : List Item) (ceiling : Nat) : List Nat :=
  [5, 6].filter fun code =>
    match itemVal items code with
    | some v => decide (ceiling < v)
    | none => false

/-- A stored service setpoint acts: the pump is retargeted where its span is in SERVICE, a STAGE pump where its input is PRESENT
besides; then the engine of its span tests completion (R80, R94). -/
def setpointActs (ch : Chan) (s : State) : State :=
  let p := s.pump ch
  match p.lights with
  | none => s
  | some sp =>
    let acts := (s.st sp).state = .service ∧ (p.role = .stage → s.lightOf (Config.inSpan p.dir) = .present)
    completionTest sp (if acts then riseChannel ch p.service s else s)

/-- The completion test of the span a pump lights. -/
def testCompletion (ch : Chan) (s : State) : State :=
  match (s.pump ch).lights with
  | some sp => completionTest sp s
  | none => s

/-- An applied WRITE_PUMP: the entry `p'` with its clamps, what a new binding clears, the extra record of a lowered level, and a
changed service setpoint (R79, R80, R98). A service setpoint lowered by the ceiling alone counts as changed (log 17). -/
def applyPump (ch : Chan) (p' : Pump) (s : State) : State :=
  let p := s.pump ch
  let q := p'.clampSetpoints.clampWork
  let q1 := if rebinds p p' then { q with rise := none, noReply := 0 } else q
  let s1 := s.putPump ch q1
  let s2 := if q1.level < p.level then sendRecord ch s1 else s1
  if q1.service = p.service then testCompletion ch s2 else setpointActs ch s2

/-- The Pump Controller's checks and effect of a WRITE_PUMP (R78 to R80). -/
def ownerWritePump (ch : Chan) (items : List Item) (withheld : List Nat) (s : State) : Answer :=
  let p := s.pump ch
  let p' := p.write items
  if inRanges pumpRanges items = false then refuse .range s
  else if pumpStateBad p p' s then refuse .state s
  else applied (applyPump ch p' s) withheld p'.clamped (clampedCodes items p'.ceiling)

/-- The group of a pump channel in the grant map (R168). -/
def pumpGroup (ch : Chan) : Nat := if ch.val < 4 then 3 else 4

/-- WRITE_PUMP through the checks of R172. -/
def writePump (r : Req) (s : State) : Answer :=
  match r.body with
  | [] => refuse .form s
  | t :: rest =>
    match readItems (widthsOf pumpWidths) rest with
    | none => refuse .form s
    | some items =>
      if 7 < t.toNat then refuse .range s
      else
        let ch := chanOf t.toNat
        let cls := s.classUsed r
        if s.granted (pumpGroup ch) cls = false then refuse .denied s
        else
          match divide (s.safe cls) pumpSafety items with
          | none => refuse .denied s
          | some (goOn, withheld) => ownerWritePump ch goOn withheld s

/-- The Pump Controller's check and effect of a SET_SETPOINT (R94). -/
def ownerSetSetpoint (ch : Chan) (v : Nat) (s : State) : Answer :=
  let p := s.pump ch
  if Config.maxLevel < v then refuse .range s
  else
    let s1 := setpointActs ch (s.setPump ch { p with service := min v p.ceiling })
    if p.ceiling < v then ⟨s1, .adjusted, codeBytes [5], false⟩ else doneWith s1

/-- SET_SETPOINT through the checks of R172. -/
def setSetpoint (r : Req) (s : State) : Answer :=
  match r.body with
  | [t, b1, b0] =>
    if 7 < t.toNat then refuse .range s
    else
      let ch := chanOf t.toNat
      if s.granted (pumpGroup ch) (s.classUsed r) = false then refuse .denied s else ownerSetSetpoint ch (beNat [b1, b0]) s
  | _ => refuse .form s

/-- The Pump Controller's check and effect of a CLEAR_PUMP (R95). -/
def ownerClearPump (ch : Chan) (s : State) : Answer :=
  let p := s.pump ch
  if p.state ≠ .faulted then refuse .state s
  else doneWith (s.putPump ch { p.goHold with noReply := 0 })

/-- CLEAR_PUMP through the checks of R172. -/
def clearPump (r : Req) (s : State) : Answer :=
  match r.body with
  | [t] =>
    if 7 < t.toNat then refuse .range s
    else
      let ch := chanOf t.toNat
      if s.granted (pumpGroup ch) (s.classUsed r) = false then refuse .denied s else ownerClearPump ch s
  | _ => refuse .form s

/-! ### WRITE_MONITOR (R61) -/

/-- Ranges of the monitor entry fields (R60). -/
def monitorRanges : List (Nat × Nat) :=
  [(0, 65535), (1, 65535), (1, 255), (0, 16776704), (0, 16776704), (0, 16776704), (1, 63), (1, 63), (0, 16776704), (1, 1000), (1, 63)]

/-- The fields a role has (R60). -/
def roleCodes : Config.MonRole → List Nat
  | .input _ => [1, 2, 3, 4, 5, 6, 7, 8]
  | .launch _ => [1, 2, 3, 4]
  | .reflection _ => [1, 2, 3, 4, 9, 10, 11]

/-- The common fields of an entry with a write applied. -/
def MonChan.write (c : MonChan) (items : List Item) : MonChan :=
  { c with
    offset := written items 1 id c.offset
    gain := written items 2 id c.gain
    window := written items 3 id c.window
    substitute := written items 4 id c.substitute }

/-- The input fields of an entry with a write applied. -/
def InputChan.write (c : InputChan) (items : List Item) : InputChan :=
  { c with
    lo := written items 5 id c.lo
    hi := written items 6 id c.hi
    nLoss := written items 7 id c.nLoss
    nRest := written items 8 id c.nRest }

/-- The reflection fields of an entry with a write applied. -/
def ReflChan.write (c : ReflChan) (items : List Item) : ReflChan :=
  { c with
    floor := written items 9 id c.floor
    kRef := written items 10 id c.kRef
    nRef := written items 11 id c.nRef }

/-- The restore threshold would stand below the loss threshold (R61). -/
def thresholdsBad (ch : Chan) (items : List Item) (s : State) : Bool :=
  match Config.monRole ch with
  | .input sp => decide (((s.inp sp).write items).hi < ((s.inp sp).write items).lo)
  | .launch _ | .reflection _ => false

/-- The Monitor Unit's checks and effect of a WRITE_MONITOR (R61, R62). -/
def ownerWriteMonitor (ch : Chan) (items : List Item) (s : State) : Answer :=
  if inRanges monitorRanges items = false ∨ (items.all fun it => (roleCodes (Config.monRole ch)).contains it.1) = false
      ∨ thresholdsBad ch items s then refuse .range s
  else
    let s1 := s.setChan ch ((s.chan ch).write items)
    doneWith
      (match Config.monRole ch with
       | .input sp => s1.setInp sp ((s1.inp sp).write items)
       | .launch _ => s1
       | .reflection sp => s1.setReflection sp ((s1.reflection sp).write items))

/-- A class lacks the grant for a group or the safety level (R170). -/
def lacksSafe (s : State) (group cls : Nat) : Bool := !s.granted group cls || !s.safe cls

/-- WRITE_MONITOR through the checks of R172. -/
def writeMonitor (r : Req) (s : State) : Answer :=
  match r.body with
  | [] => refuse .form s
  | t :: rest =>
    match readItems (widthsOf monitorWidths) rest with
    | none => refuse .form s
    | some items =>
      if 7 < t.toNat then refuse .range s
      else if lacksSafe s 5 (s.classUsed r) then refuse .denied s
      else ownerWriteMonitor (chanOf t.toNat) items s

/-! ### WRITE_EVENT (R153) -/

/-- An action as it is stored: the floor for a fixed event, else never weaker than the floor (R153). -/
def storedAction (e : Event) (a : Action) : Action := if e.fixed ∨ a.code < e.floor.code then e.floor else a

/-- A notify flag as it is stored: set for a notify-forced event (R153). -/
def storedNotify (e : Event) (b : Bool) : Bool := b || e.forced

/-- The Event Unit's checks and effect of a WRITE_EVENT on an entry (R153). -/
def ownerWriteEntry (e : Event) (items : List Item) (s : State) : State :=
  let old := s.entry e.id
  let new : EvEntry :=
    ⟨written items 2 (fun v => storedAction e (Action.ofCode v)) old.action,
     written items 3 (fun v => storedNotify e (decide (v = 1))) old.notify⟩
  { s with table := ⟨(s.table.toList.set e.id new).toArray, by simp⟩ }

/-- The codes of the values a WRITE_EVENT stores otherwise than carried (R153). -/
def adjustedEvent (e : Event) (items : List Item) : List Nat :=
  (match itemVal items 2 with
    | some v => if (storedAction e (Action.ofCode v)).code = v then [] else [2]
    | none => []) ++
  (match itemVal items 3 with
    | some v => if storedNotify e (decide (v = 1)) = decide (v = 1) then [] else [3]
    | none => [])

/-- Ranges of the event items; the identifier is checked as the target (R153, R172). -/
def eventRanges : List (Nat × Nat) := [(0, 20), (0, 3), (0, 1), (0, 32)]

/-- The Event Unit's checks and effect of a WRITE_EVENT (R153). -/
def ownerWriteEvent (items : List Item) (s : State) : Answer :=
  if inRanges eventRanges items = false then refuse .range s
  else
    let named := match (itemVal items 1).bind (Event.all[·]?) with
      | some e => (ownerWriteEntry e items s, adjustedEvent e items)
      | none => (s, [])
    applied { named.1 with tableLen := written items 4 id s.tableLen } [] (decide (named.2 ≠ [])) named.2

/-- WRITE_EVENT through the checks of R172. -/
def writeEvent (r : Req) (s : State) : Answer :=
  match readItems (widthsOf eventWidths) r.body with
  | none => refuse .form s
  | some items =>
    if carries items 1 = false ∧ (carries items 2 ∨ carries items 3) then refuse .form s
    else if 20 < (itemVal items 1).getD 0 then refuse .range s
    else if lacksSafe s 6 (s.classUsed r) then refuse .denied s
    else ownerWriteEvent items s

/-! ### WRITE_INTERLOCK, CLEAR_INTERLOCK (R130, R131) -/

/-- A line's entry with a write applied; the observed level and the latched flag are kept (R131). -/
def IlLine.write (l : IlLine) (items : List Item) : IlLine :=
  { l with assign := written items 1 Assign.ofCode l.assign, sense := written items 2 Sense.ofCode l.sense }

/-- The Interlock Unit's check and effect of a WRITE_INTERLOCK (R131). -/
def ownerWriteInterlock (n : Chan) (items : List Item) (s : State) : Answer :=
  if inRanges [(0, 3), (0, 3)] items = false then refuse .range s else doneWith (putLine n ((s.ilLine n).write items) s)

/-- WRITE_INTERLOCK through the checks of R172. -/
def writeInterlock (r : Req) (s : State) : Answer :=
  match r.body with
  | [] => refuse .form s
  | t :: rest =>
    match readItems (widthsOf interlockWidths) rest with
    | none => refuse .form s
    | some items =>
      if 7 < t.toNat then refuse .range s
      else if lacksSafe s 7 (s.classUsed r) then refuse .denied s
      else ownerWriteInterlock (chanOf t.toNat) items s

/-- CLEAR_INTERLOCK through the checks of R172 (R130). -/
def clearInterlock (r : Req) (s : State) : Answer :=
  match r.body with
  | [t] =>
    if 7 < t.toNat then refuse .range s
    else if s.granted 7 (s.classUsed r) = false then refuse .denied s
    else doneWith (putLine (chanOf t.toNat) { s.ilLine (chanOf t.toNat) with latched := false } s)
  | _ => refuse .form s

/-! ### SPAN_HOLD, SPAN_RESUME, SPAN_RELEASE (R173, R174) -/

/-- SPAN_HOLD for a span (R173). -/
def holdSpan (sp : Span) (s : State) : Answer :=
  if s.part.run = false ∨ (s.st sp).state = .unused then refuse .state s
  else doneWith ((s.setHeld sp true).raise .requestHandler .manualHold (.one sp) .none_)

/-- SPAN_RESUME for a span: the flag is cleared, and where it was yes the end of MANUAL_HOLD is reported (R169, R173). -/
def resumeSpan (sp : Span) (s : State) : Answer :=
  doneWith (if s.held sp then endStanding sp .manualHold (s.setHeld sp false) else s)

/-- SPAN_RELEASE for a span: out of LOCKED to MAINT or WAIT with the failure count at 0; the cause set is kept (R33, R174). -/
def releaseSpan (sp : Span) (s : State) : Answer :=
  if (s.st sp).state ≠ .locked then refuse .state s
  else
    let s1 := s.setSt sp { s.st sp with failures := 0 }
    doneWith (if (s.line sp).loop = .normal then enterWait sp false s1 else enterMaint sp s1)

/-- SPAN_HOLD through the checks of R172. -/
def spanHold (r : Req) (s : State) : Answer :=
  match r.body with
  | [t] => if 1 < t.toNat then refuse .range s else holdSpan (spanOfCode t.toNat) s
  | _ => refuse .form s

/-- SPAN_RESUME through the checks of R172. -/
def spanResume (r : Req) (s : State) : Answer :=
  match r.body with
  | [t] =>
    if 1 < t.toNat then refuse .range s
    else if s.granted (spanGroup (spanOfCode t.toNat)) (s.classUsed r) = false then refuse .denied s
    else resumeSpan (spanOfCode t.toNat) s
  | _ => refuse .form s

/-- SPAN_RELEASE through the checks of R172. -/
def spanRelease (r : Req) (s : State) : Answer :=
  match r.body with
  | [t] =>
    if 1 < t.toNat then refuse .range s
    else if lacksSafe s (spanGroup (spanOfCode t.toNat)) (s.classUsed r) then refuse .denied s
    else releaseSpan (spanOfCode t.toNat) s
  | _ => refuse .form s

/-! ### SET_LOOP (R175, R189) -/

/-- The facing span moves with a change of loop mode, by its state (R34, R189). -/
def loopMoves (sp : Span) (old new : Loop) (s : State) : State :=
  match (s.st sp).state with
  | .wait | .locked => if old = .normal then enterMaint sp s else s
  | .maint => if new = .normal then enterWait sp false s else s
  | .unused | .shut | .probe | .confirm | .service => s

/-- SET_LOOP for a line port (R175, R189): the mode is stored, mismatch reported is set to no, and the facing span moves. -/
def loopPort (sp : Span) (mode : Loop) (s : State) : Answer :=
  if s.part.run ∧ ((s.st sp).state.lit ∨ (s.st sp).state = .shut) then refuse .state s
  else if (s.line sp).loop = mode then doneWith s
  else doneWith (loopMoves sp (s.line sp).loop mode (s.setLine sp { s.line sp with loop := mode, mismatch := false }))

/-- SET_LOOP through the checks of R172; a mode outside its list is a target out of range (R194). -/
def setLoop (r : Req) (s : State) : Answer :=
  match r.body with
  | [t, m] =>
    if 1 < t.toNat ∨ 2 < m.toNat then refuse .range s
    else if s.granted 8 (s.classUsed r) = false then refuse .denied s
    else loopPort (spanOfCode t.toNat) (Loop.ofCode m.toNat) s
  | _ => refuse .form s

/-! ### WRITE_PART, WRITE_GRANTS (R176, R178) -/

/-- Ranges of the part identity fields (R176). -/
def partRanges : List (Nat × Nat) := [(0, 1022), (0, 1022), (0, 2), (0, 3), (1, 65535)]

/-- The part identity record with a write applied. -/
def Part.write (p : Part) (items : List Item) : Part :=
  { p with
    site := written items 1 (BitVec.ofNat 10) p.site
    headEnd := written items 2 (BitVec.ofNat 10) p.headEnd
    noticePort := written items 3 portOfCode p.noticePort
    classMin := written items 4 id p.classMin
    settleTime := written items 5 id p.settleTime }

/-- Part Control's check and effect of a WRITE_PART (R176): a changed own site number clears the mismatch flags (R109), and a changed
notice port may let notices leave, before the reply or after it (R163, R164, log 14). -/
def ownerWritePart (replyFirst : Bool) (items : List Item) (s : State) : Answer :=
  if inRanges partRanges items = false then refuse .range s
  else
    let s1 := { s with part := s.part.write items }
    let s2 := if s1.part.site = s.part.site then s1 else clearMismatch .es (clearMismatch .ws s1)
    if s1.part.noticePort = s.part.noticePort then doneWith s2
    else if replyFirst then { doneWith s2 with depart := true }
    else doneWith (departNotices s2)

/-- WRITE_PART through the checks of R172. -/
def writePart (r : Req) (s : State) : Answer :=
  match readItems (widthsOf partWidths) r.body with
  | none => refuse .form s
  | some items => if lacksSafe s 0 (s.classUsed r) then refuse .denied s else ownerWritePart r.replyFirst items s

/-- The map entries a WRITE_GRANTS carries: group index and second byte of each. -/
def grantEntries (items : List Item) : List (Nat × Nat) :=
  match items.find? fun it => it.1 == 1 with
  | some it => grantPairs (it.2.drop 1)
  | none => []

/-- The class of a map entry's second byte: bits 2 to 1 (R194). -/
def grantClass (b : Nat) : Nat := b / 2 % 4

/-- One map entry is written: group index, class, and bit 0 for yes (R178, R194). -/
def writeGrant (map : Vector Bool 27) (e : Nat × Nat) : Vector Bool 27 :=
  ⟨(map.toList.set (3 * e.1 + grantClass e.2 - 1) (decide (e.2 % 2 = 1))).toArray, by simp⟩

/-- The Request Handler's check and effect of a WRITE_GRANTS (R178). -/
def ownerWriteGrants (items : List Item) (s : State) : Answer :=
  let entries := grantEntries items
  if (entries.all fun e => decide (e.1 ≤ 8) && decide (grantClass e.2 ≠ 0)) = false ∨ 9 < (itemVal items 2).getD 0
      ∨ 3 < (itemVal items 3).getD 0 then refuse .range s
  else
    doneWith
      { s with grants :=
          ⟨entries.foldl writeGrant s.grants.map, written items 2 id s.grants.length, written items 3 id s.grants.safety⟩ }

/-- WRITE_GRANTS through the checks of R172; it needs class 0. -/
def writeGrants (r : Req) (s : State) : Answer :=
  match readItems grantWidth r.body with
  | none => refuse .form s
  | some items => if s.classUsed r ≠ 0 then refuse .denied s else ownerWriteGrants items s

/-! ### START, HALT, CLEAR, READ -/

/-- START through the checks of R172 (R177, R185). -/
def startReq (r : Req) (s : State) : Answer :=
  if r.body ≠ [] then refuse .form s
  else if s.granted 0 (s.classUsed r) = false then refuse .denied s
  else if s.part.run then refuse .state s
  else doneWith (startPart s)

/-- HALT through the checks of R172 (R177, R187). -/
def haltReq (r : Req) (s : State) : Answer :=
  if r.body ≠ [] then refuse .form s
  else if s.granted 0 (s.classUsed r) = false then refuse .denied s
  else if s.part.run = false then refuse .state s
  else doneWith (raisePartState (haltPart s))

/-- CLEAR through the checks of R172 (R177, R188). Its reply enters its queue before the notice of its PART_STATE event, which a later step
takes: of the two orders R188 allows, the model's choice (log 46). -/
def clearReq (r : Req) (s : State) : Answer :=
  if r.body ≠ [] then refuse .form s
  else if s.classUsed r ≠ 0 then refuse .denied s
  else doneWith (clearPart s)

/-- READ through the checks of R172: the record's items follow its kind and target in the reply (R179, R194). -/
def readReq (r : Req) (s : State) : Answer :=
  match r.body with
  | [k, t] =>
    match recordItems k.toNat t.toNat s with
    | some bytes => ⟨s, .done, k :: t :: bytes, false⟩
    | none => refuse .range s
  | _ => refuse .form s

/-! ### The handler -/

/-- What a request of a kind comes to (R172); an unknown kind is answered UNKNOWN. -/
def answer (kind : BitVec 5) (r : Req) (s : State) : Answer :=
  if kind = Config.kindRead then readReq r s
  else if kind = Config.kindWriteSpan then writeSpan r s
  else if kind = Config.kindWritePump then writePump r s
  else if kind = Config.kindSetSetpoint then setSetpoint r s
  else if kind = Config.kindClearPump then clearPump r s
  else if kind = Config.kindWriteMonitor then writeMonitor r s
  else if kind = Config.kindWriteEvent then writeEvent r s
  else if kind = Config.kindWriteInterlock then writeInterlock r s
  else if kind = Config.kindClearInterlock then clearInterlock r s
  else if kind = Config.kindSpanHold then spanHold r s
  else if kind = Config.kindSpanResume then spanResume r s
  else if kind = Config.kindSpanRelease then spanRelease r s
  else if kind = Config.kindSetLoop then setLoop r s
  else if kind = Config.kindWritePart then writePart r s
  else if kind = Config.kindStart then startReq r s
  else if kind = Config.kindHalt then haltReq r s
  else if kind = Config.kindWriteGrants then writeGrants r s
  else if kind = Config.kindClear then clearReq r s
  else refuse .unknown s

/-- A request is taken whole: checked, applied and answered at one event (R166). -/
def takeRequest (kind : BitVec 5) (r : Req) (s : State) : State := sendReply kind r (answer kind r s)

/-- READ (R179). -/
def execRead (r : Req) (s : State) : Host.Outcome State Fault Refusal :=
  .next (s.unlessReset fun s => sendReply Config.kindRead r (readReq r s))

/-- WRITE_SPAN (R3, R4). -/
def execWriteSpan (r : Req) (s : State) : Host.Outcome State Fault Refusal :=
  .next (s.unlessReset fun s => sendReply Config.kindWriteSpan r (writeSpan r s))

/-- WRITE_PUMP (R78 to R80). -/
def execWritePump (r : Req) (s : State) : Host.Outcome State Fault Refusal :=
  .next (s.unlessReset fun s => sendReply Config.kindWritePump r (writePump r s))

/-- SET_SETPOINT (R94). -/
def execSetSetpoint (r : Req) (s : State) : Host.Outcome State Fault Refusal :=
  .next (s.unlessReset fun s => sendReply Config.kindSetSetpoint r (setSetpoint r s))

/-- CLEAR_PUMP (R95). -/
def execClearPump (r : Req) (s : State) : Host.Outcome State Fault Refusal :=
  .next (s.unlessReset fun s => sendReply Config.kindClearPump r (clearPump r s))

/-- WRITE_MONITOR (R61). -/
def execWriteMonitor (r : Req) (s : State) : Host.Outcome State Fault Refusal :=
  .next (s.unlessReset fun s => sendReply Config.kindWriteMonitor r (writeMonitor r s))

/-- WRITE_EVENT (R153). -/
def execWriteEvent (r : Req) (s : State) : Host.Outcome State Fault Refusal :=
  .next (s.unlessReset fun s => sendReply Config.kindWriteEvent r (writeEvent r s))

/-- WRITE_INTERLOCK (R131). -/
def execWriteInterlock (r : Req) (s : State) : Host.Outcome State Fault Refusal :=
  .next (s.unlessReset fun s => sendReply Config.kindWriteInterlock r (writeInterlock r s))

/-- CLEAR_INTERLOCK (R130). -/
def execClearInterlock (r : Req) (s : State) : Host.Outcome State Fault Refusal :=
  .next (s.unlessReset fun s => sendReply Config.kindClearInterlock r (clearInterlock r s))

/-- SPAN_HOLD (R173). -/
def execSpanHold (r : Req) (s : State) : Host.Outcome State Fault Refusal :=
  .next (s.unlessReset fun s => sendReply Config.kindSpanHold r (spanHold r s))

/-- SPAN_RESUME (R173). -/
def execSpanResume (r : Req) (s : State) : Host.Outcome State Fault Refusal :=
  .next (s.unlessReset fun s => sendReply Config.kindSpanResume r (spanResume r s))

/-- SPAN_RELEASE (R174). -/
def execSpanRelease (r : Req) (s : State) : Host.Outcome State Fault Refusal :=
  .next (s.unlessReset fun s => sendReply Config.kindSpanRelease r (spanRelease r s))

/-- SET_LOOP (R175). -/
def execSetLoop (r : Req) (s : State) : Host.Outcome State Fault Refusal :=
  .next (s.unlessReset fun s => sendReply Config.kindSetLoop r (setLoop r s))

/-- WRITE_PART (R176). -/
def execWritePart (r : Req) (s : State) : Host.Outcome State Fault Refusal :=
  .next (s.unlessReset fun s => sendReply Config.kindWritePart r (writePart r s))

/-- START (R185). -/
def execStart (r : Req) (s : State) : Host.Outcome State Fault Refusal :=
  .next (s.unlessReset fun s => sendReply Config.kindStart r (startReq r s))

/-- HALT (R187). -/
def execHalt (r : Req) (s : State) : Host.Outcome State Fault Refusal :=
  .next (s.unlessReset fun s => sendReply Config.kindHalt r (haltReq r s))

/-- WRITE_GRANTS (R178). -/
def execWriteGrants (r : Req) (s : State) : Host.Outcome State Fault Refusal :=
  .next (s.unlessReset fun s => sendReply Config.kindWriteGrants r (writeGrants r s))

/-- CLEAR (R188). -/
def execClear (r : Req) (s : State) : Host.Outcome State Fault Refusal :=
  .next (s.unlessReset fun s => sendReply Config.kindClear r (clearReq r s))

/-- UNKNOWN_REQUEST (R172): a kind that is not known is answered UNKNOWN. -/
def execUnknownRequest (kind : BitVec 5) (r : Req) (s : State) : Host.Outcome State Fault Refusal :=
  .next (s.unlessReset fun s => takeRequest kind r s)

end Sys2Proof.Machine
end

