-- ==== Sys2Proof/Machine/Frames.lean ====
section
/-!
DEFINITION. The supervisory frame path (spec/05): the receivers (R106, R107), the tests of a span word (R108, R109), the routing of
messages (R114 to R116), the arbiter (R120), and a slot start (R104, R122), with FRAME_RECEIVED, IDLE_FILL_RECEIVED and SLOT_START.
-/

namespace Sys2Proof.Machine

/-! ### Span words of kept frames -/

/-- The sender site a valid frame must carry, by the loop mode in effect (R108, R122, log 11). -/
def State.expectedSender (s : State) (sp : Span) : Site :=
  if (s.line sp).loopNow = .normal then (s.config sp).neighbour else s.part.site

/-- A valid frame's span word is taken: silence is over, the port is LIVE, the far word is replaced, and the engine makes its tests
(R108). -/
def validWord (sp : Span) (w : SpanWord) (s : State) : State :=
  let s1 := s.setLine sp { s.line sp with silence := 0, live := true, mismatch := false }
  frameTests sp w (s1.setSt sp { s1.st sp with far := some w })

/-- A span word from a wrong sender: NEIGHBOUR_MISMATCH once for a run of them (R109). -/
def strangeWord (sp : Span) (s : State) : State :=
  if (s.line sp).mismatch then s
  else (s.setLine sp { s.line sp with mismatch := true }).raise (.linePort sp) .neighbourMismatch (.one sp) (.port sp.port)

/-- The span word of a kept frame on the line port that faces a span (R108, R109). -/
def takeWord (sp : Span) (w : SpanWord) (s : State) : State :=
  if w.sender = s.expectedSender sp then validWord sp w s else strangeWord sp s

/-! ### Messages of kept frames -/

/-- A message as the Request Handler takes it (R166). -/
def Msg.request (m : Msg) (p : Port) (race : Race) : Req := ⟨p, m.src, m.cls, m.tag, m.body, race.replyFirst⟩

/-- The line port a direction names on the Local port (R116). -/
def dirPort : Dir → Port
  | .eb => .east
  | .wb => .west

/-- A message is forwarded to the opposite line port with its hop limit decreased, unless the limit is 0 (R115). -/
def forwardMsg (sp : Span) (m : Msg) (s : State) : State :=
  if m.hop = 0 then s else s.toForwardQueue sp.other { m with hop := m.hop - 1 }

/-- A message for this site: a request to the Request Handler, a REPLY or NOTICE to the Local port's queue (R114). -/
def handOn (sp : Span) (race : Race) (m : Msg) (s : State) : State :=
  if Config.isRequestKind m.kind then takeRequest m.kind (m.request sp.port race) s else s.toLocalQueue .loc m

/-- Two things the spec does not order, in the order given. -/
def inOrder (swapped : Bool) (f g : State → State) (s : State) : State := if swapped then f (g s) else g (f s)

/-- Routing on the line port that faces a span, by the destination against the own site number (R114). -/
def routeLine (sp : Span) (race : Race) (m : Msg) (s : State) : State :=
  if m.dest = 0 then s
  else if m.dest = s.part.site then handOn sp race m s
  else if m.dest = allSites then inOrder race.fwdFirst (handOn sp race m) (forwardMsg sp m) s
  else forwardMsg sp m s

/-- Routing on the Local port (R116). -/
def routeLocal (race : Race) (m : Msg) (s : State) : State :=
  let handle : State → State := if Config.isRequestKind m.kind then takeRequest m.kind (m.request .loc race) else id
  let send : State → State := fun s => s.toLocalQueue (dirPort m.dir) m
  if m.dest = 0 ∨ m.dest = s.part.site then handle s
  else if m.dest = allSites then inOrder race.fwdFirst handle send s
  else send s

/-! ### Receivers -/

/-- What the bytes a receiver holds come to (R106). -/
inductive Parsed where
  | more
  | lost
  | failed (rest : List Byte)
  | kept (w : SpanWord) (m : Option Msg) (rest : List Byte)
  deriving DecidableEq, Repr

/-- The first frame of the bytes a receiver holds: not whole yet, of a bad length, of a failed check, or kept (R106, R192). -/
def parseFrame (bs : List Byte) : Parsed :=
  if bs.length < 4 then .more
  else
    let head := beNat (bs.take 4)
    let len := readLength head
    if badLength len then .lost
    else if bs.length < 4 + len + 2 then .more
    else
      let covered := bs.take (4 + len)
      let check := (bs.drop (4 + len)).take 2
      let rest := bs.drop (4 + len + 2)
      if beNat check = (frameCheck covered).toNat then .kept (readWord head) (readMsg (covered.drop 4)) rest else .failed rest

/-- A port's receiver takes a new state. -/
def setRx (p : Port) (rx : Receiver) (s : State) : State := s.setBase p { s.base p with rx := rx }

/-- A frame is discarded and counted (R106). -/
def countDiscard (p : Port) (s : State) : State := s.setBase p { s.base p with discarded := satSucc 65535 (s.base p).discarded }

/-- A frame is kept and counted (R107). -/
def countKept (p : Port) (s : State) : State := s.setBase p { s.base p with accepted := satSucc 65535 (s.base p).accepted }

/-- A message, if there is one, is worked on. -/
def withMsg (m : Option Msg) (f : Msg → State → State) (s : State) : State :=
  match m with
  | some m => f m s
  | none => s

/-- A kept frame: on a line port its span word is tested and its message routed, in either order (R107); on the Local port its
message is routed. -/
def takeFrame (p : Port) (race : Race) (w : SpanWord) (m : Option Msg) (s : State) : State :=
  match p with
  | .west => inOrder race.msgFirst (takeWord .ws w) (withMsg m (routeLine .ws race)) s
  | .east => inOrder race.msgFirst (takeWord .es w) (withMsg m (routeLine .es race)) s
  | .loc => withMsg m (routeLocal race) s

/-- A receiver works off the bytes it holds, frame by frame; every frame takes at least six bytes, so `fuel` of the number of bytes
is enough. After a discard for its length it takes no frame until idle fill (R106). -/
def receive (p : Port) (race : Race) : Nat → State → State
  | 0, s => s
  | fuel + 1, s =>
    match parseFrame (s.base p).rx.bytes with
    | .more => s
    | .lost => setRx p ⟨true, []⟩ (countDiscard p s)
    | .failed rest => receive p race fuel (setRx p ⟨false, rest⟩ (countDiscard p s))
    | .kept w m rest => receive p race fuel (takeFrame p race w m (setRx p ⟨false, rest⟩ (countKept p s)))

/-- Bytes reach a port's receiver; while it waits for idle fill they are dropped (R106, R184). -/
def takeBytes (p : Port) (race : Race) (bytes : List Byte) (s : State) : State :=
  let rx := (s.base p).rx
  if rx.waiting then s
  else receive p race (rx.bytes ++ bytes).length (setRx p ⟨false, rx.bytes ++ bytes⟩ s)

/-- A line port in INNER takes nothing from the line (R122). -/
def State.deaf (s : State) : Port → Bool
  | .west => decide ((s.line .ws).loopNow = .inner)
  | .east => decide ((s.line .es).loopNow = .inner)
  | .loc => false

/-- Frame bytes arrive from the line (R106). -/
def frameArrives (p : Port) (race : Race) (bytes : List Byte) (s : State) : State :=
  if s.deaf p then s else takeBytes p race bytes s

/-- Idle fill or an abort sequence arrives: a frame in progress is aborted and counted, and the next byte begins a frame (R106). -/
def idleArrives (p : Port) (s : State) : State :=
  if s.deaf p then s
  else setRx p ⟨false, []⟩ (if (s.base p).rx.bytes = [] then s else countDiscard p s)

/-! ### Slot starts -/

/-- The arbiter of a line port: the message chosen, and the port with it gone from its queue and last served set (R120). -/
def LinePort.arbitrate (l : LinePort) : Option Msg × LinePort :=
  match l.forward, l.base.queue with
  | [], [] => (none, l)
  | f :: fs, [] => (some f, { l with forward := fs, served := .forward })
  | [], q :: qs => (some q, { l with base := { l.base with queue := qs }, served := .local_ })
  | f :: fs, q :: qs =>
    match l.served with
    | .local_ => (some f, { l with forward := fs, served := .forward })
    | .forward => (some q, { l with base := { l.base with queue := qs }, served := .local_ })

/-- The frame a line port builds from the state at a slot start (R104, R120). -/
def State.lineFrame (s : State) (sp : Span) : List Byte := frameBytes (s.spanWord sp) (s.line sp).arbitrate.1

/-- The frame the Local port builds (R104, R121). -/
def State.localFrame (s : State) : List Byte := frameBytes s.localWord s.localPort.queue.head?

/-- A change of loop mode takes effect (R105, R122). Where the receiver changes between the line and the port's own frames it starts
with no frame in progress (log 11). -/
def LinePort.latchLoop (l : LinePort) : LinePort :=
  if (l.loop = .inner) = (l.loopNow = .inner) then { l with loopNow := l.loop }
  else { l with loopNow := l.loop, base := { l.base with rx := ⟨false, []⟩ } }

/-- A line port begins its frame: the message leaves its queue; in INNER the line carries idle fill (R104, R122). -/
def sendLine (sp : Span) (s : State) : State :=
  let bytes := s.lineFrame sp
  let l := (s.line sp).arbitrate.2
  if l.loopNow = .inner then s.setLine sp { l with base := { l.base with sending := none } }
  else (s.setLine sp { l with base := { l.base with sending := some bytes } }).emit (.frame sp.port bytes)

/-- The Local port begins its frame (R104, R121). -/
def sendLocal (s : State) : State :=
  let bytes := s.localFrame
  { s with localPort := { s.localPort with queue := s.localPort.queue.tail, sending := some bytes } }.emit (.frame .loc bytes)

/-- In INNER the frame a port has built is delivered to its own receiver (R122). -/
def loopBack (sp : Span) (race : Race) (bytes : List Byte) (s : State) : State :=
  if (s.line sp).loopNow = .inner then takeBytes sp.port race bytes s else s

/-- The next slot of the tick begins (R104, R138): loop modes take effect, the three ports build and begin their frames from the state
as it stands, and notices move up into the room made (R163) and looped frames are taken, in either order (R164). A message of a frame from outside
comes before or after the whole step, so it never takes that room before a waiting notice, the model's choice (R164, log 51). -/
def startSlot (race : Race) (eastFirst : Bool) (s : State) : State :=
  if s.time.slotNext < Config.slotsPerTick then
    let s1 := { s with
      time := { s.time with prescaler := Config.slotPeriods * s.time.slotNext, slotNext := s.time.slotNext + 1 }
      lines := ⟨(s.line .ws).latchLoop, (s.line .es).latchLoop⟩ }
    let loops := inOrder eastFirst (loopBack .ws race (s1.lineFrame .ws)) (loopBack .es race (s1.lineFrame .es))
    inOrder race.replyFirst departNotices loops (sendLocal (sendLine .es (sendLine .ws s1)))
  else s

/-- FRAME_RECEIVED (R106). -/
def execFrameReceived (p : Port) (race : Race) (bytes : List Byte) (s : State) : Host.Outcome State Fault Refusal :=
  .next (s.unlessReset (frameArrives p race bytes))

/-- IDLE_FILL_RECEIVED (R106). -/
def execIdleFillReceived (p : Port) (s : State) : Host.Outcome State Fault Refusal := .next (s.unlessReset (idleArrives p))

/-- SLOT_START (R104). -/
def execSlotStart (race : Race) (eastFirst : Bool) (s : State) : Host.Outcome State Fault Refusal :=
  .next (s.unlessReset (startSlot race eastFirst))

end Sys2Proof.Machine
end

