-- ==== Sys2Proof/Machine/TimeBase.lean ====
section
/-!
DEFINITION. The Time Base (spec/07): what each consumer does with a tick (R138), TICK itself, and the rows of the table that name what
one consumer's tick brings about (OFF_EXPIRED, PORT_SILENT, DARK_TIMEOUT, CONFIRM_TIMEOUT, PROBE_EXPIRY, PULSE_END, MIN_DARK_END,
RAMP_COMPLETE, MONITOR_STALE, DRIVER_LOST, SETTLE_END, PROBE_START, CONFIRM_COMPLETION).
-/

namespace Sys2Proof.Machine

/-! ### Consumers of a tick -/

/-- The silence counter of a line port takes a tick (R111, R143): a LIVE port counts an edge of its silence stage; at k it becomes
SILENT, FRAMES_LOST is raised, and the engine makes the test of R25. -/
def silenceTick (sp : Span) (s : State) : State :=
  let l := s.line sp
  if l.live ∧ s.edge (s.config sp).silenceStage then
    let n := satSucc 15 l.silence
    if (s.config sp).silenceCount ≤ n then
      breakTest sp
        ((s.setLine sp { l with silence := n, live := false }).raise (.linePort sp) .framesLost (.one sp) (.port sp.port))
    else s.setLine sp { l with silence := n }
  else s

/-- A pump channel takes its step of a tick, after the tick's records of all channels (R88); its span tests completion (R30). -/
def stepTick (ch : Chan) (s0 : State) : State :=
  let s := forChans takeLink s0
  let p := s.pump ch
  testCompletion ch (s.setPump ch (p.takeStep (s.mayRise p)))

/-- A consumer takes the tick. -/
def runJob : TickJob → State → State
  | .silence sp => silenceTick sp
  | .offTimer sp => offTick sp
  | .slot sp => slotTick sp
  | .monitor ch => monitorTick ch
  | .interlock n => interlockTick n
  | .check ch => checkTick ch
  | .link ch => linkTick ch
  | .step ch => stepTick ch
  | .settle => settleTick

/-- A consumer takes the tick if it still has it to take; each takes a tick once (R138). -/
def takeJob (j : TickJob) (s : State) : State := if s.owes j then runJob j (s.dropJob j) else s

/-- Several consumers take the tick in order. -/
def takeJobs (js : List TickJob) (s : State) : State := js.foldl (fun s j => takeJob j s) s

/-- A tick (R138): what consumers still have to take of the tick before they take first (log 5); the prescaler returns to 0, the tick
count rises, the interlock lines show new levels (R126), and the tick reaches every consumer, of which those in `order` take it within
this step (log 2). -/
def giveTick (levels : BitVec 8) (order : List TickJob) (s : State) : State :=
  let s1 := takeJobs s.owed s
  takeJobs order
    { s1 with
      time := ⟨0, 0, s1.time.tickCount + 1⟩
      pins := { s1.pins with interlock := levels }
      owed := Config.allJobs }

/-- TICK (R138). -/
def execTick (levels : BitVec 8) (order : List TickJob) (s : State) : Host.Outcome State Fault Refusal :=
  .next (s.unlessReset (giveTick levels order))

/-! ### Rows that name what a consumer's tick brings about -/

/-- A consumer that still has the tick to take takes it where that brings a named event about; where it does not, nothing changes and
the consumer has the tick still to take (log 3). -/
def takeWhere (j : TickJob) (happens : State → State → Bool) (s : State) : State :=
  if s.owes j && happens s (takeJob j s) then takeJob j s else s

/-- Off expired becomes set (R20). -/
def offExpires (sp : Span) (s s' : State) : Bool := !(s.st sp).offExpired && (s'.st sp).offExpired

/-- A LIVE port becomes SILENT (R111). -/
def portFalls (sp : Span) (s s' : State) : Bool := (s.line sp).live && !(s'.line sp).live

/-- DARK_FAIL is raised for a stay in SHUT (R19). -/
def darkFails (sp : Span) (s s' : State) : Bool :=
  decide ((s.st sp).state = .shut) && !(s.st sp).darkFailRaised && (s'.st sp).darkFailRaised

/-- CONFIRM_TIMEOUT is raised for a stay in CONFIRM (R31). -/
def confirmFails (sp : Span) (s s' : State) : Bool :=
  decide ((s.st sp).state = .confirm) && !(s.st sp).confirmRaised && (s'.st sp).confirmRaised

/-- A probe expires: its span leaves PROBE for WAIT or LOCKED (R51). -/
def probeFails (sp : Span) (s s' : State) : Bool :=
  decide ((s.st sp).state = .probe) && (decide ((s'.st sp).state = .wait) || decide ((s'.st sp).state = .locked))

/-- A pulse ends (R89). -/
def pulseEnds (ch : Chan) (s s' : State) : Bool := decide ((s.pump ch).state = .pulsing) && decide ((s'.pump ch).state = .darkHold)

/-- A channel leaves DARK_HOLD for DARK or RISING (R90). -/
def holdEnds (ch : Chan) (s s' : State) : Bool :=
  decide ((s.pump ch).state = .darkHold) && (decide ((s'.pump ch).state = .dark) || decide ((s'.pump ch).state = .rising))

/-- A ramp reaches its target (R88). -/
def rampEnds (ch : Chan) (s s' : State) : Bool :=
  (s.pump ch).state.ramping && (decide ((s'.pump ch).state = .lit) || decide ((s'.pump ch).state = .darkHold))

/-- A monitor channel passes into the stale state (R70). -/
def channelStales (ch : Chan) (s s' : State) : Bool := !(s.chan ch).stale && (s'.chan ch).stale

/-- A channel enters FAULTED (R100). -/
def driverFails (ch : Chan) (s s' : State) : Bool := decide ((s.pump ch).state ≠ .faulted) && decide ((s'.pump ch).state = .faulted)

/-- The Supply Monitor leaves SETTLING for GOOD (R136). -/
def settles (s s' : State) : Bool := decide (s.supply.state = .settling) && decide (s'.supply.state = .good)

/-- A span in WAIT enters PROBE (R42). -/
def probeStarts (sp : Span) (s s' : State) : Bool := decide ((s.st sp).state = .wait) && decide ((s'.st sp).state = .probe)

/-- OFF_EXPIRED (R20). -/
def execOffExpired (sp : Span) (s : State) : Host.Outcome State Fault Refusal :=
  .next (s.unlessReset (takeWhere (.offTimer sp) (offExpires sp)))

/-- PORT_SILENT (R111). -/
def execPortSilent (sp : Span) (s : State) : Host.Outcome State Fault Refusal :=
  .next (s.unlessReset (takeWhere (.silence sp) (portFalls sp)))

/-- DARK_TIMEOUT (R19). -/
def execDarkTimeout (sp : Span) (s : State) : Host.Outcome State Fault Refusal :=
  .next (s.unlessReset (takeWhere (.slot sp) (darkFails sp)))

/-- CONFIRM_TIMEOUT (R31). -/
def execConfirmTimeout (sp : Span) (s : State) : Host.Outcome State Fault Refusal :=
  .next (s.unlessReset (takeWhere (.slot sp) (confirmFails sp)))

/-- PROBE_EXPIRY (R51). -/
def execProbeExpiry (sp : Span) (s : State) : Host.Outcome State Fault Refusal :=
  .next (s.unlessReset (takeWhere (.slot sp) (probeFails sp)))

/-- PULSE_END (R89). -/
def execPulseEnd (ch : Chan) (s : State) : Host.Outcome State Fault Refusal :=
  .next (s.unlessReset (takeWhere (.step ch) (pulseEnds ch)))

/-- MIN_DARK_END (R90). -/
def execMinDarkEnd (ch : Chan) (s : State) : Host.Outcome State Fault Refusal :=
  .next (s.unlessReset (takeWhere (.step ch) (holdEnds ch)))

/-- RAMP_COMPLETE (R88). -/
def execRampComplete (ch : Chan) (s : State) : Host.Outcome State Fault Refusal :=
  .next (s.unlessReset (takeWhere (.step ch) (rampEnds ch)))

/-- MONITOR_STALE (R70). -/
def execMonitorStale (ch : Chan) (s : State) : Host.Outcome State Fault Refusal :=
  .next (s.unlessReset (takeWhere (.monitor ch) (channelStales ch)))

/-- DRIVER_LOST (R100). -/
def execDriverLost (ch : Chan) (s : State) : Host.Outcome State Fault Refusal :=
  .next (s.unlessReset (takeWhere (.check ch) (driverFails ch)))

/-- SETTLE_END (R136). -/
def execSettleEnd (s : State) : Host.Outcome State Fault Refusal := .next (s.unlessReset (takeWhere .settle settles))

/-- PROBE_START (R42). -/
def execProbeStart (sp : Span) (s : State) : Host.Outcome State Fault Refusal :=
  .next (s.unlessReset (takeWhere (.slot sp) (probeStarts sp)))

/-- CONFIRM_COMPLETION (R30). -/
def execConfirmCompletion (sp : Span) (s : State) : Host.Outcome State Fault Refusal := .next (s.unlessReset (completionTest sp))

end Sys2Proof.Machine
end

