-- ==== Sys2Proof/Machine/Drivers.lean ====
section
/-!
DEFINITION. The commands of the pump channels and the pump link (spec/04): STATUS_RECORD (R99), RISE, PULSE, DOUSE and SNUFF (R84 to
R87).
-/

namespace Sys2Proof.Machine

/-- A driver's status record (R99): for an UNUSED channel it is ignored; else it answers, the no-reply count returns to 0, and FAULT
takes a channel not yet in FAULTED there. -/
def takeStatus (ch : Chan) (fault : Bool) (s : State) : State :=
  let p := s.pump ch
  if p.role = .unused then s
  else
    let s1 := s.setPump ch { p with answered := true, noReply := 0 }
    if fault ∧ p.state ≠ .faulted then faultChannel .driverFault ch s1 else s1

/-- STATUS_RECORD (R99, R196). -/
def execStatusRecord (b : Byte) (s : State) : Host.Outcome State Fault Refusal :=
  .next (s.unlessReset (takeStatus (statusChan b) (statusFault b)))

/-- RISE (R84): the channel takes it, and its span tests completion (R30). -/
def execRise (ch : Chan) (x : Nat) (s : State) : Host.Outcome State Fault Refusal :=
  .next (s.unlessReset fun s => testCompletion ch (riseChannel ch x s))

/-- PULSE (R85). -/
def execPulse (ch : Chan) (level length : Nat) (s : State) : Host.Outcome State Fault Refusal :=
  .next (s.unlessReset (pulseChannel ch level length))

/-- DOUSE (R86). -/
def execDouse (ch : Chan) (s : State) : Host.Outcome State Fault Refusal := .next (s.unlessReset (douseChannel ch))

/-- SNUFF (R87). -/
def execSnuff (ch : Chan) (s : State) : Host.Outcome State Fault Refusal := .next (s.unlessReset (snuffChannel ch))

end Sys2Proof.Machine
end

