-- ==== Sys2Proof/Machine/Dispatch.lean ====
section
/-! DEFINITION. One arm per command, each one call of its meaning. -/

namespace Sys2Proof.Machine

def exec (i : Instr) (s : State) : Host.Outcome State Fault Refusal :=
  match i with
  | .powerOnReset => Sys2Proof.Machine.execPowerOnReset s
  | .resetAssert w e l => Sys2Proof.Machine.execResetAssert w e l s
  | .resetRelease => Sys2Proof.Machine.execResetRelease s
  | .tick levels order => Sys2Proof.Machine.execTick levels order s
  | .slotStart race eastFirst => Sys2Proof.Machine.execSlotStart race eastFirst s
  | .offExpired sp => Sys2Proof.Machine.execOffExpired sp s
  | .portSilent sp => Sys2Proof.Machine.execPortSilent sp s
  | .darkTimeout sp => Sys2Proof.Machine.execDarkTimeout sp s
  | .confirmTimeout sp => Sys2Proof.Machine.execConfirmTimeout sp s
  | .probeExpiry sp => Sys2Proof.Machine.execProbeExpiry sp s
  | .pulseEnd ch => Sys2Proof.Machine.execPulseEnd ch s
  | .minDarkEnd ch => Sys2Proof.Machine.execMinDarkEnd ch s
  | .rampComplete ch => Sys2Proof.Machine.execRampComplete ch s
  | .monitorStale ch => Sys2Proof.Machine.execMonitorStale ch s
  | .driverLost ch => Sys2Proof.Machine.execDriverLost ch s
  | .settleEnd => Sys2Proof.Machine.execSettleEnd s
  | .probeStart sp => Sys2Proof.Machine.execProbeStart sp s
  | .confirmCompletion sp => Sys2Proof.Machine.execConfirmCompletion sp s
  | .frameReceived port race bytes => Sys2Proof.Machine.execFrameReceived port race bytes s
  | .sampleWord b0 b1 b2 => Sys2Proof.Machine.execSampleWord b0 b1 b2 s
  | .statusRecord b => Sys2Proof.Machine.execStatusRecord b s
  | .supplyGoodFall => Sys2Proof.Machine.execSupplyGoodFall s
  | .supplyGoodRise => Sys2Proof.Machine.execSupplyGoodRise s
  | .rise ch target => Sys2Proof.Machine.execRise ch target s
  | .pulse ch level length => Sys2Proof.Machine.execPulse ch level length s
  | .douse ch => Sys2Proof.Machine.execDouse ch s
  | .snuff ch => Sys2Proof.Machine.execSnuff ch s
  | .eventTaken src => Sys2Proof.Machine.execEventTaken src s
  | .noticeDeparture => Sys2Proof.Machine.execNoticeDeparture s
  | .read r => Sys2Proof.Machine.execRead r s
  | .writeSpan r => Sys2Proof.Machine.execWriteSpan r s
  | .writePump r => Sys2Proof.Machine.execWritePump r s
  | .setSetpoint r => Sys2Proof.Machine.execSetSetpoint r s
  | .clearPump r => Sys2Proof.Machine.execClearPump r s
  | .writeMonitor r => Sys2Proof.Machine.execWriteMonitor r s
  | .writeEvent r => Sys2Proof.Machine.execWriteEvent r s
  | .writeInterlock r => Sys2Proof.Machine.execWriteInterlock r s
  | .clearInterlock r => Sys2Proof.Machine.execClearInterlock r s
  | .spanHold r => Sys2Proof.Machine.execSpanHold r s
  | .spanResume r => Sys2Proof.Machine.execSpanResume r s
  | .spanRelease r => Sys2Proof.Machine.execSpanRelease r s
  | .setLoop r => Sys2Proof.Machine.execSetLoop r s
  | .writePart r => Sys2Proof.Machine.execWritePart r s
  | .start r => Sys2Proof.Machine.execStart r s
  | .halt r => Sys2Proof.Machine.execHalt r s
  | .writeGrants r => Sys2Proof.Machine.execWriteGrants r s
  | .clear r => Sys2Proof.Machine.execClear r s
  | .unknownRequest kind r => Sys2Proof.Machine.execUnknownRequest kind r s
  | .idleFillReceived port => Sys2Proof.Machine.execIdleFillReceived port s

end Sys2Proof.Machine
end

