-- ==== Sys2Proof/Safety.lean ====
section
/-!
DEFINITION. What a safe part looks like: the conditions the spec says always hold, as predicates over the state. None of them is
assumed by the machine.
-/

namespace Sys2Proof.Machine

/-! ### Light -/

/-- The states in which a channel carries no light (R82). -/
def PumpState.isDark : PumpState → Bool
  | .dark | .darkHold | .faulted => true
  | _ => false

/-- The enable lines are asserted exactly in RUN with their span in PROBE, CONFIRM or SERVICE, and the RUN indicator is on exactly in
RUN (R8, R182). -/
def State.LinesFollow (s : State) : Prop :=
  s.pins.spanEn.ws = s.enableOf .ws ∧ s.pins.spanEn.es = s.enableOf .es ∧ s.pins.runLed = s.part.run

/-- Setpoints, level, target and pending rise stay at or below the ceiling, and the ceiling at or below 4000 mW (R77, R79, R81). -/
def Pump.BelowCeiling (p : Pump) : Prop :=
  p.ceiling ≤ Config.maxLevel ∧ p.service ≤ p.ceiling ∧ p.probe ≤ p.ceiling ∧ p.level ≤ p.ceiling
    ∧ (∀ x ∈ p.target, x ≤ p.ceiling) ∧ (∀ x ∈ p.rise, 1 ≤ x ∧ x ≤ p.ceiling)

/-- The working record fits the channel's state: a dark channel has level 0, a target is held in RISING and FALLING only, a pulse in
PULSING only, a pending rise in DARK_HOLD only (R81, R82, R90). -/
def Pump.FitsState (p : Pump) : Prop :=
  (p.state.isDark = true → p.level = 0) ∧ p.target.isSome = p.state.ramping
    ∧ p.pulseLen.isSome = decide (p.state = .pulsing) ∧ (p.state ≠ .pulsing → p.pulseCount = 0)
    ∧ (p.rise.isSome = true → p.state = .darkHold) ∧ p.noReply ≤ 3

/-- Every channel is within its ceiling and its record fits its state. -/
def State.PumpsSound (s : State) : Prop := ∀ ch : Chan, (s.pump ch).BelowCeiling ∧ (s.pump ch).FitsState

/-- In STANDBY both spans are in UNUSED and no channel carries light (R183); a channel whose role is UNUSED never does (R82). -/
def State.StandbyDark (s : State) : Prop :=
  (s.part.run = false → (s.st .ws).state = .unused ∧ (s.st .es).state = .unused ∧ ∀ ch : Chan, (s.pump ch).state.isDark = true)
    ∧ ∀ ch : Chan, (s.pump ch).role = .unused → (s.pump ch).state.isDark = true

/-- The state of a span lets a pump of a role carry light: LAUNCH in CONFIRM and SERVICE, and a pulse in PROBE; COUNTER and STAGE in
CONFIRM and SERVICE (R91). -/
def lightAllowed (role : Role) (p : PumpState) (x : SpanState) : Bool :=
  match role with
  | .unused => false
  | .launch => x.isOpen || (decide (x = .probe) && decide (p = .pulsing))
  | .counter => x.isOpen
  | .stage => x.isOpen

/-- A pump that carries light lights a span whose state lets it (R91). -/
def State.LightInBounds (s : State) : Prop :=
  ∀ ch : Chan, (s.pump ch).state.isDark = false →
    ∃ sp, (s.pump ch).lights = some sp ∧ lightAllowed (s.pump ch).role (s.pump ch).state (s.st sp).state = true

/-- While a span is in PROBE, each of its LAUNCH pumps has a level no greater than its probe setpoint (R91). -/
def State.ProbeBounded (s : State) : Prop :=
  ∀ ch : Chan, (s.pump ch).role = .launch → (s.st (s.pump ch).span).state = .probe → (s.pump ch).level ≤ (s.pump ch).probe

/-! ### Spans -/

/-- A standing cause is held only while its condition stands (R11, R129, R136, R169). -/
def State.CausesStand (s : State) : Prop :=
  ∀ (sp : Span) (e : Event), e ∈ (s.st sp).causes → e.standing = true → s.stands sp e = true

/-- A cause set has no duplicates, and is empty in UNUSED (R5, R9). -/
def State.CauseSets (s : State) : Prop :=
  ∀ sp : Span, (s.st sp).causes.Nodup ∧ ((s.st sp).state = .unused → (s.st sp).causes = [])

/-- A span in PROBE, CONFIRM or SERVICE holds no standing cause, and one in SERVICE no cause at all (R11). -/
def State.LitHoldsNoStanding (s : State) : Prop :=
  ∀ sp : Span,
    ((s.st sp).state.lit = true → ∀ e ∈ (s.st sp).causes, e.standing = false)
      ∧ ((s.st sp).state = .service → (s.st sp).causes = [])

/-- The probe failure count: at most 15, 0 in SERVICE, UNUSED and MAINT, and a span that has reached a nonzero lockout limit is in
LOCKED (R52). -/
def State.FailuresCounted (s : State) : Prop :=
  ∀ sp : Span,
    (s.st sp).failures ≤ 15
      ∧ ((s.st sp).state = .service ∨ (s.st sp).state = .unused ∨ (s.st sp).state = .maint → (s.st sp).failures = 0)
      ∧ ((s.config sp).lockout ≠ 0 → (s.config sp).lockout ≤ (s.st sp).failures → (s.st sp).state = .locked)

/-- The fields of a span's record that belong to one state are clear in the others: off timer and call pending outside WAIT (R20, R21,
R144), ticks in state outside SHUT, PROBE and CONFIRM (R6), the probe length outside PROBE (R5). -/
def State.FieldsFitSpan (s : State) : Prop :=
  ∀ sp : Span,
    ((s.st sp).state ≠ .wait → (s.st sp).callPending = false ∧ (s.st sp).offTicks = 0 ∧ (s.st sp).offExpired = false)
      ∧ ((s.st sp).state ≠ .shut → (s.st sp).state ≠ .probe → (s.st sp).state ≠ .confirm → (s.st sp).ticks = 0)
      ∧ (s.st sp).probeLength.isSome = decide ((s.st sp).state = .probe)
      ∧ (s.st sp).offTicks ≤ 15 ∧ (s.st sp).ticks ≤ 65535

/-- In RUN a span is in MAINT only while its port is in a loop mode, and in WAIT, SHUT, PROBE, CONFIRM or SERVICE only while it is in
NORMAL; in STANDBY both spans are in UNUSED (R34, R183, R189). -/
def State.LoopsFitSpans (s : State) : Prop :=
  ∀ sp : Span,
    (s.part.run = false → (s.st sp).state = .unused)
      ∧ ((s.st sp).state = .maint → (s.line sp).loop ≠ .normal)
      ∧ ((s.line sp).loop ≠ .normal → (s.st sp).state = .maint ∨ (s.st sp).state = .locked ∨ (s.st sp).state = .unused)

/-! ### Tables -/

/-- The ranges of a span configuration record, with T below W and T * C at most Lx (R2, R3). -/
def SpanConfig.InRange (c : SpanConfig) : Prop :=
  1 ≤ c.neighbour.toNat ∧ c.neighbour.toNat ≤ 1022 ∧ 1 ≤ c.duration ∧ c.duration ≤ 255 ∧ 1 ≤ c.ceiling ∧ c.ceiling ≤ 33553408
    ∧ 16 ≤ c.window ∧ c.window ≤ 256 ∧ 1 ≤ c.limit ∧ c.limit ≤ 8589672448 ∧ c.lockout ≤ 15 ∧ c.darkTolerance ≤ 16776704
    ∧ 1 ≤ c.darkTimeout ∧ c.darkTimeout ≤ 1000 ∧ 10 ≤ c.offStage ∧ c.offStage ≤ 16 ∧ 1 ≤ c.offCount ∧ c.offCount ≤ 15
    ∧ c.grace ≤ 255 ∧ 1 ≤ c.confirmTimeout ∧ c.confirmTimeout ≤ 65535 ∧ c.silenceStage ≤ 4 ∧ 2 ≤ c.silenceCount
    ∧ c.silenceCount ≤ 15 ∧ c.duration < c.window ∧ c.ceiling * c.duration ≤ c.limit

/-- The fields of a span configuration record that hold a number (R2, R194): code, width in bytes, least and greatest value, and the record
with the value `v` written to the field. -/
def SpanConfig.numbered (c : SpanConfig) (v : Nat) : List (Nat × Nat × Nat × Nat × SpanConfig) :=
  [(2, 2, 1, 1022, { c with neighbour := BitVec.ofNat 10 v }), (4, 1, 1, 255, { c with duration := v }),
   (5, 4, 1, 33553408, { c with ceiling := v }), (6, 2, 16, 256, { c with window := v }), (7, 5, 1, 8589672448, { c with limit := v }),
   (8, 1, 0, 15, { c with lockout := v }), (9, 3, 0, 16776704, { c with darkTolerance := v }),
   (10, 2, 1, 1000, { c with darkTimeout := v }), (11, 1, 10, 16, { c with offStage := v }), (12, 1, 1, 15, { c with offCount := v }),
   (13, 1, 0, 255, { c with grace := v }), (14, 2, 1, 65535, { c with confirmTimeout := v }),
   (15, 1, 0, 4, { c with silenceStage := v }), (16, 1, 2, 15, { c with silenceCount := v })]

/-- Both span configuration records are within their ranges. -/
def State.ConfigsInRange (s : State) : Prop := ∀ sp : Span, (s.config sp).InRange

/-- The ranges of a monitor channel's common fields (R60, R63). -/
def MonChan.InRange (c : MonChan) : Prop :=
  c.offset ≤ 65535 ∧ 1 ≤ c.gain ∧ c.gain ≤ 65535 ∧ 1 ≤ c.window ∧ c.window ≤ 255 ∧ c.substitute ≤ Config.maxPower
    ∧ c.latest ≤ Config.maxPower ∧ c.fresh ≤ 255

/-- The ranges of an input channel's fields; a run is counted in FADING and RETURNING only (R60, R61, R63). -/
def InputChan.InRange (c : InputChan) : Prop :=
  c.lo ≤ c.hi ∧ c.hi ≤ Config.maxPower ∧ 1 ≤ c.nLoss ∧ c.nLoss ≤ 63 ∧ 1 ≤ c.nRest ∧ c.nRest ≤ 63 ∧ c.run ≤ 63
    ∧ (c.light = .present ∨ c.light = .absent → c.run = 0)

/-- The ranges of a reflection channel's fields (R60, R63). -/
def ReflChan.InRange (c : ReflChan) : Prop :=
  c.floor ≤ Config.maxPower ∧ 1 ≤ c.kRef ∧ c.kRef ≤ 1000 ∧ 1 ≤ c.nRef ∧ c.nRef ≤ 63 ∧ c.run ≤ 63

/-- Monitor table, channel records and exposure rings are within their ranges (R36, R60, R63). -/
def State.PowersInRange (s : State) : Prop :=
  (∀ ch : Chan, (s.chan ch).InRange)
    ∧ ∀ sp : Span, (s.inp sp).InRange ∧ (s.reflection sp).InRange ∧ (s.slots sp).length = Config.ringSlots
        ∧ ∀ x ∈ s.slots sp, x ≤ 33553408

/-- The event table never holds an action below an event's floor, another than the floor for a fixed event, or a clear notify flag for
a notify-forced one (R150, R151, R153). -/
def State.TableFloors (s : State) : Prop :=
  ∀ e : Event,
    e.floor.code ≤ (s.entry e.id).action.code ∧ (e.fixed = true → (s.entry e.id).action = e.floor)
      ∧ (e.forced = true → (s.entry e.id).notify = true)

/-- The ranges of a pump entry's rates and min-dark, and of min-dark remaining (R77, R81). -/
def Pump.RatesInRange (p : Pump) : Prop :=
  1 ≤ p.up ∧ p.up ≤ Config.maxLevel ∧ 1 ≤ p.down ∧ p.down ≤ Config.maxLevel ∧ p.minDark ≤ 65535 ∧ p.darkLeft ≤ 65535

/-- The ranges of the grant record (R168) and of the part identity record (R176). -/
def State.RecordsInRange (s : State) : Prop :=
  s.grants.length ≤ 9 ∧ s.grants.safety ≤ 3 ∧ s.part.site.toNat ≤ 1022 ∧ s.part.headEnd.toNat ≤ 1022 ∧ s.part.classMin ≤ 3
    ∧ 1 ≤ s.part.settleTime ∧ s.part.settleTime ≤ 65535

/-- Pump rates, port counts and silence counts (R103), the records above, the table length (R151), the settle count (R134), and the
prescaler with the slots of a tick (R138) are within their ranges. -/
def State.CountsInRange (s : State) : Prop :=
  (∀ ch : Chan, (s.pump ch).RatesInRange) ∧ s.RecordsInRange ∧ s.tableLen ≤ 32
    ∧ (∀ p : Port, (s.base p).accepted ≤ 65535 ∧ (s.base p).discarded ≤ 65535) ∧ (∀ sp : Span, (s.line sp).silence ≤ 15)
    ∧ s.supply.count ≤ 65535 ∧ (s.supply.state = .settling → s.supply.count < 65535)
    ∧ s.time.prescaler < 16384 ∧ s.time.slotNext ≤ 8

/-- No queue holds more than its room (R118, R161). -/
def State.QueuesWithinRoom (s : State) : Prop :=
  (∀ p : Port, (s.base p).queue.length ≤ Config.queueRoom)
    ∧ (∀ sp : Span, (s.line sp).forward.length ≤ Config.queueRoom)
    ∧ s.notices.length ≤ Config.noticeRoom

/-- No notice waits while the notice port's local queue has room (R163). -/
def State.NoticesMovedUp (s : State) : Prop := s.notices = [] ∨ Config.queueRoom ≤ (s.base s.part.noticePort).queue.length

/-- Both standing conditions of eye safety: nothing is lit in STANDBY, and elsewhere only where the span states allow (R91, R183). -/
def State.EyeSafe (s : State) : Prop := s.StandbyDark ∧ s.LightInBounds

/-- In STANDBY both spans are in UNUSED (R183). -/
def State.StandbyUnused (s : State) : Prop := s.part.run = false → ∀ sp : Span, (s.st sp).state = .unused

/-- No span rests in CONFIRM with every completion condition holding (R30); in STANDBY both spans are in UNUSED (R183). -/
def State.CompletesPromptly (s : State) : Prop := s.StandbyUnused ∧ ∀ sp : Span, completes sp s = false

/-! ### The state the manual gives after a reset -/

/-- A span's records and ring after a reset (R2, R5, R37). -/
def State.SpanAtReset (s : State) (sp : Span) : Prop :=
  s.config sp =
      { present := false, neighbour := 1, mode := .frame, duration := 20, ceiling := 10000, window := 128, limit := 400000,
        lockout := 5, darkTolerance := 100, darkTimeout := 50, offStage := 12, offCount := 3, grace := 10, confirmTimeout := 2000,
        silenceStage := 0, silenceCount := 3 }
    ∧ s.st sp =
      { state := .unused, causes := [], failures := 0, tag := 0, callPending := false, offTicks := 0, offExpired := false,
        ticks := 0, far := none, probeLength := none, overshootRaised := false, exposureRaised := false, darkFailRaised := false,
        confirmRaised := false, entryInterlock := false, entrySupply := false,
        startsNext := false }
    ∧ s.slots sp = List.replicate 256 0 ∧ s.held sp = false
    ∧ s.inp sp = { lo := 10, hi := 20, nLoss := 3, nRest := 3, light := .absent, run := 0 }
    ∧ s.reflection sp = { floor := 100, kRef := 1000, nRef := 3, run := 0 }
    ∧ (s.line sp).live = false ∧ (s.line sp).silence = 0 ∧ (s.line sp).mismatch = false ∧ (s.line sp).loop = .normal
    ∧ (s.line sp).forward = [] ∧ (s.line sp).served = .local_

/-- A pump channel, monitor channel and interlock line after a reset (R60, R63, R77, R81, R125). -/
def State.ChannelAtReset (s : State) (ch : Chan) : Prop :=
  ((s.pump ch).role = .unused ∧ (s.pump ch).span = .ws ∧ (s.pump ch).dir = .eb ∧ (s.pump ch).ceiling = 0
      ∧ (s.pump ch).service = 0 ∧ (s.pump ch).probe = 0 ∧ (s.pump ch).up = 1 ∧ (s.pump ch).down = 1 ∧ (s.pump ch).minDark = 0
      ∧ (s.pump ch).state = .dark ∧ (s.pump ch).level = 0 ∧ (s.pump ch).target = none ∧ (s.pump ch).rise = none
      ∧ (s.pump ch).pulseLen = none ∧ (s.pump ch).pulseCount = 0 ∧ (s.pump ch).darkLeft = 0 ∧ (s.pump ch).noReply = 0)
    ∧ s.chan ch = { offset := 0, gain := 256, window := 10, substitute := 16776704, latest := 0, fresh := 0, stale := true }
    ∧ s.ilLine ch = { assign := .none_, sense := .fall, observed := none, latched := false }

/-- What the part holds once after a reset (R103, R138, R141, R151, R161, R168, R176, R182). -/
def State.PartAtReset (s : State) : Prop :=
  s.part = { run := false, site := 0, headEnd := 0, noticePort := .loc, classMin := 0, settleTime := 100 }
    ∧ s.pins.runLed = false ∧ s.pins.spanEn = ⟨false, false⟩
    ∧ s.time.prescaler = 0 ∧ s.time.tickCount = 0
    ∧ (∀ g < 27, s.grants.map.toList.getD g false = false) ∧ s.grants.length = 0 ∧ s.grants.safety = 0
    ∧ (∀ e : Event, s.entry e.id = { action := e.floor, notify := true })
    ∧ (∀ id, 21 ≤ id → id < 32 → s.entry id = { action := .note, notify := true })
    ∧ s.tableLen = 0 ∧ s.notices = []
    ∧ (∀ p : Port, (s.base p).accepted = 0 ∧ (s.base p).discarded = 0 ∧ (s.base p).queue = [])

/-- Every item the manual gives a reset value holds it. -/
def State.AtReset (s : State) : Prop := s.PartAtReset ∧ (∀ sp : Span, s.SpanAtReset sp) ∧ ∀ ch : Chan, s.ChannelAtReset ch

/-! ### Replies and notices -/

/-- The REPLY to a request (R180, R194): addressed to its source, with the request's tag, its kind code and its outcome. -/
def replyTo (r : Req) (site : Site) (kind outcome : Byte) (extra : List Byte) : Msg where
  dest := r.src
  src := site
  kind := 30
  dir := if r.port = .west then .wb else .eb
  hop := 15
  cls := 0
  tag := r.tag
  body := kind :: outcome :: extra

/-- A state whose only further change is that a reply reached the local queue of the request's port (R180, R181). -/
def State.replied (s : State) (r : Req) (kind outcome : Byte) (extra : List Byte) : State :=
  s.toLocalQueue r.port (replyTo r s.part.site kind outcome extra)

/-- The NOTICE message of an event as it leaves (R163, R195): `span` and `state` are the codes of the span and its state, 255 for none,
and `causes` its cause set in bits. -/
def State.noticeOf (s : State) (ev : Raised) (span state : Byte) (causes : Nat) : Msg where
  dest := s.part.headEnd
  src := s.part.site
  kind := 31
  dir := if s.part.noticePort = .west then .wb else .eb
  hop := 15
  cls := 0
  tag := 0
  body :=
    let subject : Byte × Byte := match ev.subject with
      | .none_ => (0, 0)
      | .pump ch => (1, BitVec.ofNat 8 ch.val)
      | .monitor ch => (2, BitVec.ofNat 8 ch.val)
      | .line n => (3, BitVec.ofNat 8 n.val)
      | .port p => (4, BitVec.ofNat 8 (portCode p))
    [BitVec.ofNat 8 ev.event.id, span, subject.1, subject.2, state] ++ beBytes 3 causes ++ beBytes 4 ev.stamp.toNat ++ [0]

/-- The NOTICE message of an event about a span whose record shows `x` (R159, R195). -/
def State.noticeAbout (s : State) (ev : Raised) (sp : Span) (x : SpanStatus) : Msg :=
  s.noticeOf ev (if sp = .ws then 0 else 1) (BitVec.ofNat 8 x.state.code) (causeBits x.causes)

/-- An action of an event adds its identifier newly to a span's cause set: the span is not in UNUSED and does not hold it, or its entry
report flag for it is set (R10). -/
def State.addsNewly (s : State) (sp : Span) (e : Event) : Bool :=
  decide ((s.st sp).state ≠ .unused) &&
    (decide (e ∉ (s.st sp).causes) || (decide (e = .interlock) && (s.st sp).entryInterlock)
      || (decide (e = .supplyLow) && (s.st sp).entrySupply))

/-- A state in which the given notices have left for the notice port at once, and none waits (R160, R163). -/
def State.HasSent (s t : State) (notices : List Msg) : Prop :=
  let u := s.setBase s.part.noticePort
    { s.base s.part.noticePort with queue := (s.base s.part.noticePort).queue ++ notices }
  t.notices = [] ∧ t.lines = u.lines ∧ t.localPort = u.localPort

/-- The state a command starts from: what the command before put out is gone (log 25). -/
def State.fresh (s : State) : State := { s with out := [] }

/-- The state right after a tick is given, before any consumer takes it (R138, log 2). -/
def State.ticked (s : State) (levels : BitVec 8) : State :=
  { s.fresh with
    time := ⟨0, 0, s.time.tickCount + 1⟩
    pins := { s.pins with interlock := levels }
    owed := Config.allJobs }

end Sys2Proof.Machine
end

