-- ==== Sys2Proof/Certificates/Slice0/Obligations.lean ====
section
/-!
DEFINITION. The statements for the provers. The rules cited in a docstring are those of spec/. `s.fresh` and `owed` are the model's
(log 25, log 2): what a command put out is gone when the next begins, and a consumer of a tick takes it in an order the sender gives.
-/

open Sys2Proof Sys2Proof.Machine

/-! ### The queue, resets and the tick -/

/-- The command at the front of the queue is run with the rest of the queue, and an empty queue idles (log 1, the model's choice). -/
def Obligations.StepRunsFrontCommand : Prop :=
  (∀ (c : Instr) (q : List Instr) (s : State), s.pending = c :: q → step s = exec c { s with pending := q })
    ∧ ∀ s : State, s.pending = [] → step s = .next s

/-- Every command answers a next state, and none touches the queue (log 1, log 29: the model's choices). -/
def Obligations.CommandsCompleteAndKeepQueue : Prop :=
  ∀ (c : Instr) (s : State), ∃ t, exec c s = .next t ∧ t.pending = s.pending

/-- While RESET is held the part takes nothing, and only the level of the supply-good pin is followed; at its release the Supply Monitor
reads its line into SETTLING or LOW, and nothing else changes (R134, R184). -/
def Obligations.HeldResetTakesNothing : Prop :=
  (∀ (c : Instr) (s : State), s.pins.resetLine = true →
       match c with
       | .powerOnReset | .resetAssert _ _ _ | .resetRelease => True
       | .supplyGoodFall => exec c s = .next { s.fresh with pins := { s.pins with supplyGood := false } }
       | .supplyGoodRise => exec c s = .next { s.fresh with pins := { s.pins with supplyGood := true } }
       | _ => exec c s = .next s.fresh)
    ∧ (∀ s : State, s.pins.resetLine = true →
       exec .resetRelease s =
         .next { s.fresh with
           pins := { s.pins with resetLine := false }
           supply := ⟨if s.pins.supplyGood then .settling else .low, 0⟩ })

/-- Power-on reset and assertion of RESET give every item the value the manual states. Power-on reset sends nothing and reads the supply
state from its line; RESET aborts the frames being sent and sends a dark record to every used channel (R105, R134, R184, R196). The
operands of RESET_ASSERT say which frames are still being sent (log 9). The records leave in ascending order of channel, the model's choice
(log 45). -/
def Obligations.ResetsGiveManualValues : Prop :=
  (∀ s : State, ∃ t, exec .powerOnReset s = .next t ∧ t.AtReset ∧ t.out = []
       ∧ t.supply = ⟨if s.pins.supplyGood then .settling else .low, 0⟩)
    ∧ (∀ (west east loc : Bool) (s : State), ∃ t, exec (.resetAssert west east loc) s = .next t ∧ t.AtReset
       ∧ t.pins.resetLine = true
       ∧ t.out =
           (if west ∧ (s.line .ws).base.sending.isSome then [Output.abort .west] else [])
             ++ (if east ∧ (s.line .es).base.sending.isSome then [Output.abort .east] else [])
             ++ (if loc ∧ s.localPort.sending.isSome then [Output.abort .loc] else [])
             ++ (Config.chans.filter fun ch => (s.pump ch).role ≠ .unused).map
                 fun ch => Output.setpoint (BitVec.ofNat 16 (ch.val * 8192)))

/-- A tick: the prescaler returns to 0, the count rises by one and wraps at 2^32, the slots of the tick begin, the interlock lines show
their levels, and every consumer has the tick to take; whatever order they take it in, the count rises once and none named in the
order has it still to take (R138, R141; the field `owed` is the model's, log 2). -/
def Obligations.TickReachesEachConsumerOnce : Prop :=
  (∀ (levels : BitVec 8) (s : State), s.pins.resetLine = false → s.owed = [] →
       exec (.tick levels []) s =
         .next { s.fresh with
           time := ⟨0, 0, s.time.tickCount + 1⟩
           pins := { s.pins with interlock := levels }
           owed := Config.allJobs })
    ∧ (∀ (levels : BitVec 8) (order : List TickJob) (s : State), s.pins.resetLine = false →
       ∃ t, exec (.tick levels order) s = .next t ∧ t.time = ⟨0, 0, s.time.tickCount + 1⟩ ∧ t.pins.interlock = levels
         ∧ (∀ j ∈ order, j ∉ t.owed) ∧ ∀ j ∈ t.owed, j ∈ Config.allJobs)

/-- At a tick the Exposure Unit puts one new slot at the head of a span's ring, drops the oldest, and leaves the other ring: the sum of
WB-OUT and EB-RPL for WS, of EB-OUT and WB-RPL for ES, a stale channel at its substitute (R36).
The slot of a tick that was given before its span entered its state is recorded, and the span counts and tests nothing at it (R146;
the mark `startsNext` is the model's, log 4). A tick still to be taken is taken at the next TICK at the latest, the model's choice (log 5). -/
def Obligations.TickRecordsExposureSlot : Prop :=
  (∀ (levels : BitVec 8) (s : State) (sp : Span), s.pins.resetLine = false → s.owed = [] →
       let power := fun ch : Chan => if (s.chan ch).stale then (s.chan ch).substitute else (s.chan ch).latest
       ∃ t, exec (.tick levels [.slot sp]) s = .next t
         ∧ t.slots sp = (if sp = .ws then power 5 + power 3 else power 1 + power 7) :: (s.slots sp).take 255
         ∧ t.slots sp.other = s.slots sp.other
         ∧ ((s.st sp).startsNext = false →
             (s.st sp).state = .unused ∨ (s.st sp).state = .service ∨ (s.st sp).state = .locked ∨ (s.st sp).state = .maint →
             { t with ring := s.ring, time := s.time, pins := s.pins, owed := s.owed } = s.fresh))
    ∧ (∀ (levels : BitVec 8) (s : State) (sp : Span), s.pins.resetLine = false → s.owed = [.slot sp] → (s.st sp).startsNext = true →
       exec (.tick levels []) s =
         .next { (s.fresh.setSlots sp (s.slotValue sp :: (s.slots sp).take 255)).setSt sp { s.st sp with startsNext := false } with
           time := ⟨0, 0, s.time.tickCount + 1⟩
           pins := { s.pins with interlock := levels }
           owed := Config.allJobs })

/-- The active edge of a line, falling under FALL and FALL_LOW and rising under RISE and RISE_HIGH, latches it at the tick that shows it;
where the line was not active, INTERLOCK is raised for each span the line is assigned, WS first (R126, R127, R128; WS before ES is the
model's order, log 44).
A first sample shows no edge: it latches nothing, and it makes the line active by level alone, LOW under FALL_LOW and HIGH under
RISE_HIGH, with INTERLOCK raised as before (R126, R127, R128).
The other edge of a line that is active by level alone ends its activity: nothing is raised, and INTERLOCK leaves the causes of each
span that no other active line guards (R127, R129). -/
def Obligations.TickLatchesFallingEdge : Prop :=
  ∀ (levels : BitVec 8) (s : State) (n : Chan), s.pins.resetLine = false → s.owed = [] → (s.ilLine n).latched = false →
    let l := s.ilLine n
    let high := levels.getLsbD n.val
    let events : List Raised :=
      (if l.assign = .ws ∨ l.assign = .both then
        [⟨.interlockUnit, .interlock, .one .ws, .line n, s.time.tickCount + 1, false⟩] else [])
      ++ (if l.assign = .es ∨ l.assign = .both then
        [⟨.interlockUnit, .interlock, .one .es, .line n, s.time.tickCount + 1, false⟩] else [])
    (l.observed = some (!high) → (if high then l.sense = .rise ∨ l.sense = .riseHigh else l.sense = .fall ∨ l.sense = .fallLow) →
      ∃ t, exec (.tick levels [.interlock n]) s = .next t
        ∧ t.ilLine n = { l with observed := some high, latched := true }
        ∧ (∀ m, m ≠ n → t.ilLine m = s.ilLine m)
        ∧ t.raised = s.raised ++ events
        ∧ { t with il := s.il, raised := s.raised, time := s.time, pins := s.pins, owed := s.owed } = s.fresh)
    ∧ (l.observed = none →
      ∃ t, exec (.tick levels [.interlock n]) s = .next t
        ∧ t.ilLine n = { l with observed := some high }
        ∧ (∀ m, m ≠ n → t.ilLine m = s.ilLine m)
        ∧ t.raised = s.raised ++ (if l.sense = .fallLow ∧ high = false ∨ l.sense = .riseHigh ∧ high = true then events else [])
        ∧ { t with il := s.il, raised := s.raised, time := s.time, pins := s.pins, owed := s.owed } = s.fresh)
    ∧ (l.observed = some (!high) → (if high then l.sense = .fallLow else l.sense = .riseHigh) →
      ∃ t, exec (.tick levels [.interlock n]) s = .next t
        ∧ t.ilLine n = { l with observed := some high }
        ∧ (∀ m, m ≠ n → t.ilLine m = s.ilLine m)
        ∧ (∀ sp, t.st sp =
            if (l.assign = .both ∨ l.assign = if sp = .ws then .ws else .es) ∧ ∀ m, m ≠ n → (s.ilLine m).guards sp = false then
              { s.st sp with causes := (s.st sp).causes.filter fun e => e ≠ .interlock, entryInterlock := false }
            else s.st sp)
        ∧ { t with il := s.il, status := s.status, time := s.time, pins := s.pins, owed := s.owed } = s.fresh)

/-- At a tick the Pump Link checks every channel for a missing answer before it sends a used channel its one setpoint record, of its level
with the run flag set above 0; here no channel reaches its third missing answer (R97, R100, R196). -/
def Obligations.TickSendsSetpointRecord : Prop :=
  ∀ (levels : BitVec 8) (s : State) (ch : Chan), s.pins.resetLine = false → s.owed = [] → (s.pump ch).role ≠ .unused →
    (∀ c, (s.pump c).sent = false ∨ (s.pump c).answered = true ∨ (s.pump c).noReply < 2 ∨ (s.pump c).state = .faulted) →
    let checked := fun p : Pump =>
      { p with answered := false, noReply := if p.sent = true ∧ p.answered = false then min 3 (p.noReply + 1) else p.noReply }
    ∃ t, exec (.tick levels [.link ch]) s = .next t
      ∧ t.out =
          [.setpoint (BitVec.ofNat 16 (ch.val * 8192 + (if 0 < (s.pump ch).level then 4096 else 0) + (s.pump ch).level))]
      ∧ t.pump ch = { checked (s.pump ch) with sent := true }
      ∧ (∀ c, c ≠ ch → t.pump c = checked (s.pump c))
      ∧ { t with pumps := s.pumps, time := s.time, pins := s.pins, owed := s.owed, out := [] } = s.fresh

/-! ### The frame path -/

/-- The span word of a line port's frame as the state stands: the own site as sender, the span's state in RUN and UNUSED in STANDBY, its tag,
hear while the port is LIVE, light while its input is PRESENT, through-dark while the opposite input is ABSENT, and the far tag as echo with
echo valid exactly while the far word shows PROBE and the input is PRESENT, out of STANDBY, UNUSED and MAINT, else echo tag 0 (R35, R46). In
LOCKED on a port in a loop mode this follows R46 where R190 has the echo clear, the model's choice (log 48). The Local port's word holds the
own site alone, with state UNUSED (R104).
A slot start with no port in a loop and no notice waiting: each of the three ports begins one frame built with these words, the chosen
messages leave their queues, and nothing else changes (R104, R120, R121, R138). -/
def Obligations.SlotStartBeginsThreeFrames : Prop :=
  (∀ (s : State) (sp : Span),
    let echoes := fun w : SpanWord =>
      s.part.run = true ∧ (s.st sp).state ≠ .unused ∧ (s.st sp).state ≠ .maint ∧ w.state = .probe ∧ (s.inp sp).light = .present
    let word := fun (echoTag : BitVec 4) (echoValid : Bool) =>
      ({ sender := s.part.site
         state := if s.part.run = true then (s.st sp).state else .unused
         tag := (s.st sp).tag
         echoTag := echoTag
         echoValid := echoValid
         hear := (s.line sp).live
         light := decide ((s.inp sp).light = .present)
         thruDark := decide ((s.inp sp.other).light = .absent) } : SpanWord)
    (∀ w, (s.st sp).far = some w → s.spanWord sp = if echoes w then word w.tag true else word 0 false)
      ∧ ((s.st sp).far = none → s.spanWord sp = word 0 false)
      ∧ s.localWord =
          { sender := s.part.site, state := .unused, tag := 0, echoTag := 0, echoValid := false, hear := false, light := false
            thruDark := false })
    ∧ (∀ (race : Race) (eastFirst : Bool) (s : State), s.pins.resetLine = false → s.time.slotNext < 8 → s.notices = [] →
      (∀ sp, (s.line sp).loop ≠ .inner ∧ (s.line sp).loopNow ≠ .inner) →
      let frame := fun sp : Span => frameBytes (s.spanWord sp) (s.line sp).arbitrate.1
      let localFrame := frameBytes s.localWord s.localPort.queue.head?
      let line := fun sp : Span =>
        { (s.line sp).arbitrate.2 with
          loopNow := (s.line sp).loop
          base := { (s.line sp).arbitrate.2.base with sending := some (frame sp) } }
      exec (.slotStart race eastFirst) s =
        .next { s with
          time := { s.time with prescaler := 2048 * s.time.slotNext, slotNext := s.time.slotNext + 1 }
          lines := ⟨line .ws, line .es⟩
          localPort := { s.localPort with queue := s.localPort.queue.tail, sending := some localFrame }
          out := [.frame .west (frame .ws), .frame .east (frame .es), .frame .loc localFrame] })

/-- The arbiter of a line port: with messages in both queues the oldest of the queue last served does not name, with messages in one
the oldest of that one, with none no message; last served becomes the queue chosen from (R120). -/
def Obligations.ArbiterAlternatesQueues : Prop :=
  ∀ (l : LinePort) (f q : Msg) (fs qs : List Msg),
    (l.forward = f :: fs → l.base.queue = q :: qs → l.served = .local_ →
      l.arbitrate = (some f, { l with forward := fs, served := .forward }))
    ∧ (l.forward = f :: fs → l.base.queue = q :: qs → l.served = .forward →
      l.arbitrate = (some q, { l with base := { l.base with queue := qs }, served := .local_ }))
    ∧ (l.forward = f :: fs → l.base.queue = [] → l.arbitrate = (some f, { l with forward := fs, served := .forward }))
    ∧ (l.forward = [] → l.base.queue = q :: qs →
      l.arbitrate = (some q, { l with base := { l.base with queue := qs }, served := .local_ }))
    ∧ (l.forward = [] → l.base.queue = [] → l.arbitrate = (none, l))

/-- A healthy inner loop: at each slot start the port takes its own frame, is LIVE with its silence count at 0, counts one kept frame,
holds its own word as the far word, and puts nothing on the line (R122, R190, R191). Where the mode takes effect at this very slot start,
the receiver starts with no frame in progress, which counts nothing as discarded (the model's reading, log 11). -/
def Obligations.InnerLoopKeepsPortLive : Prop :=
  ∀ (race : Race) (eastFirst : Bool) (s : State) (sp : Span), s.pins.resetLine = false → s.time.slotNext < 8 → s.notices = [] →
    (s.line sp).loop = .inner → ((s.line sp).loopNow = .inner → (s.line sp).base.rx = ⟨false, []⟩) →
    (s.line sp).forward = [] → (s.line sp).base.queue = [] →
    (s.st sp).state = .maint ∨ (s.st sp).state = .locked ∨ (s.st sp).state = .unused →
    (s.line sp.other).loop ≠ .inner → (s.line sp.other).loopNow ≠ .inner →
    ∃ t, exec (.slotStart race eastFirst) s = .next t
      ∧ (t.line sp).live = true ∧ (t.line sp).silence = 0 ∧ (t.line sp).base.discarded = (s.line sp).base.discarded
      ∧ (t.line sp).base.accepted = min 65535 ((s.line sp).base.accepted + 1)
      ∧ t.status = s.status.set sp { s.st sp with far := some (s.spanWord sp) }
      ∧ { t with lines := s.lines, localPort := s.localPort, status := s.status, time := s.time, out := [] } = s.fresh
      ∧ t.out = [.frame sp.other.port (s.lineFrame sp.other), .frame .loc s.localFrame]

/-- A whole frame without a message is valid where its sender is the one expected by the loop mode in effect (log 11): the neighbour site in
NORMAL, the own site in OUTER. For a span whose state makes no test at it, silence is then over, the port is LIVE, the far word is replaced,
the frame is counted, and nothing else changes (R23, R106, R107, R108). A port in INNER takes nothing from the line, neither frame bytes
nor idle fill (R122). -/
def Obligations.ValidFrameReplacesFarWord : Prop :=
  (∀ (race : Race) (s : State) (sp : Span) (w : SpanWord), s.pins.resetLine = false → (s.line sp).base.rx = ⟨false, []⟩ →
    ((s.line sp).loopNow = .normal ∧ w.sender = (s.config sp).neighbour) ∨ ((s.line sp).loopNow = .outer ∧ w.sender = s.part.site) →
    (s.st sp).state = .unused ∨ (s.st sp).state = .shut ∨ (s.st sp).state = .locked ∨ (s.st sp).state = .maint →
    exec (.frameReceived sp.port race (frameBytes w none)) s =
      .next ((s.fresh.setLine sp
        { s.line sp with
          silence := 0, live := true, mismatch := false
          base := { (s.line sp).base with accepted := min 65535 ((s.line sp).base.accepted + 1) } }).setSt sp
        { s.st sp with far := some w }))
    ∧ (∀ (race : Race) (s : State) (sp : Span) (bytes : List Byte), s.pins.resetLine = false → (s.line sp).loopNow = .inner →
      exec (.frameReceived sp.port race bytes) s = .next s.fresh ∧ exec (.idleFillReceived sp.port) s = .next s.fresh)

/-- A valid frame in SERVICE raises FAR_SHUT where the far state is neither CONFIRM nor SERVICE, and in CONFIRM where it is none of PROBE,
CONFIRM and SERVICE; in CONFIRM the span goes on to SERVICE where the completion conditions then hold, and stays else (R23, R30). In
WAIT it sets call pending where the far state is PROBE or CONFIRM (R21, R23). The expected sender is that of the loop mode in effect, on a
port that takes the line (R108, R122). -/
def Obligations.FarStateTestsAtValidFrame : Prop :=
  ∀ (race : Race) (s : State) (sp : Span) (w : SpanWord), s.pins.resetLine = false → (s.line sp).loopNow ≠ .inner →
    (s.line sp).base.rx = ⟨false, []⟩ →
    w.sender = (if (s.line sp).loopNow = .normal then (s.config sp).neighbour else s.part.site) →
    ((s.st sp).state = .service →
      ∃ t, exec (.frameReceived sp.port race (frameBytes w none)) s = .next t
        ∧ t.status = s.status.set sp { s.st sp with far := some w } ∧ t.line sp.other = s.line sp.other
        ∧ { t with lines := s.lines, status := s.status, raised := s.raised } = s.fresh
        ∧ t.raised = s.raised ++
            (if w.state = .confirm ∨ w.state = .service then []
             else [⟨.engine sp, .farShut, .one sp, .port sp.port, s.time.tickCount, false⟩]))
    ∧ ((s.st sp).state = .confirm →
      let events : List Raised :=
        if w.state = .probe ∨ w.state = .confirm ∨ w.state = .service then []
        else [⟨.engine sp, .farShut, .one sp, .port sp.port, s.time.tickCount, false⟩]
      let complete :=
        (∀ ch, (s.pump ch).of sp = true → (s.pump ch).service ≠ 0 → (s.pump ch).state = .lit)
          ∧ ((s.config sp).mode = .frame → (w.state = .confirm ∨ w.state = .service) ∧ w.light = true)
          ∧ ((s.config sp).mode = .light → (s.inp sp).light = .present)
      ∃ t, exec (.frameReceived sp.port race (frameBytes w none)) s = .next t
        ∧ (t.st sp).far = some w ∧ t.st sp.other = s.st sp.other ∧ t.line sp.other = s.line sp.other
        ∧ { t with lines := s.lines, status := s.status, pins := s.pins, raised := s.raised } = s.fresh
        ∧ (s.raised ++ events) <+: t.raised
        ∧ (complete → (t.st sp).state = .service)
        ∧ (¬ complete → t.st sp = { s.st sp with far := some w } ∧ t.raised = s.raised ++ events ∧ t.pins = s.pins))
    ∧ ((s.st sp).state = .wait →
      ∃ t, exec (.frameReceived sp.port race (frameBytes w none)) s = .next t
        ∧ { t with lines := s.lines, status := s.status } = s.fresh ∧ t.line sp.other = s.line sp.other
        ∧ t.st sp.other = s.st sp.other
        ∧ t.st sp =
            { s.st sp with
              far := some w
              callPending := (s.st sp).callPending || decide (w.state = .probe) || decide (w.state = .confirm) })

/-- In FRAME mode a valid frame in PROBE proves the probe exactly where it echoes the current tag with echo valid and the light flag
set: the span is then in CONFIRM, or in SERVICE where every completion condition holds at once (log 22), with its line on, and its
LAUNCH and COUNTER pumps and the STAGE pumps that launch into it from a PRESENT input have taken RISE toward their service setpoints,
every other pump being untouched; else it stays in PROBE (R29, R47). That the pumps take RISE in the very step of the proof, with no other
event between the sending and the taking that R83 allows, is the model's choice (log 49). The expected sender is that of the loop mode in
effect (R108, R122). -/
def Obligations.EchoOfTagProvesProbe : Prop :=
  ∀ (race : Race) (s : State) (sp : Span) (w : SpanWord), s.pins.resetLine = false → s.part.run = true →
    (s.line sp).loopNow ≠ .inner → (s.line sp).base.rx = ⟨false, []⟩ →
    w.sender = (if (s.line sp).loopNow = .normal then (s.config sp).neighbour else s.part.site) →
    (s.st sp).state = .probe → (s.config sp).mode = .frame →
    ∃ t, exec (.frameReceived sp.port race (frameBytes w none)) s = .next t
      ∧ (t.st sp).far = some w ∧ (t.st sp).tag = (s.st sp).tag ∧ t.st sp.other = s.st sp.other ∧ t.line sp.other = s.line sp.other
      ∧ { t with
          lines := s.lines, status := s.status, pumps := s.pumps, owed := s.owed, pins := s.pins, raised := s.raised } = s.fresh
      ∧ (if w.echoValid = true ∧ w.echoTag = (s.st sp).tag ∧ w.light = true then
          ((t.st sp).state = .confirm ∨ (t.st sp).state = .service) ∧ (t.st sp).ticks = 0 ∧ t.pins.spanEn.get sp = true
            ∧ ∀ ch, t.pump ch =
                let p := s.pump ch
                if ((p.role = .launch ∨ p.role = .counter) ∧ p.span = sp)
                    ∨ (p.role = .stage ∧ p.dir = (if sp = .es then .eb else .wb) ∧ (s.inp sp.other).light = .present) then
                  p.takeRise p.service
                else p
        else t.st sp = { s.st sp with far := some w } ∧ t.pumps = s.pumps ∧ t.pins = s.pins ∧ t.raised = s.raised)

/-- Frames that are not valid or not whole, on a port that takes the line. On a line port a wrong sender, any but the neighbour site in NORMAL
and any but the own site in OUTER, raises NEIGHBOUR_MISMATCH once for a run of frames and refreshes nothing (R108, R109, R122). On all three
ports: a failed check is counted as discarded and has no other effect; a message length of 1 to 4 or above 56 discards the frame, however
its bytes arrive, with all that follows, and the receiver takes no byte until idle fill; idle fill in the middle of a frame discards it, and
with no frame in progress it counts nothing, whether or not the receiver waited for it (R106). -/
def Obligations.WrongAndDamagedFrames : Prop :=
  (∀ (race : Race) (s : State) (sp : Span) (w : SpanWord), s.pins.resetLine = false → (s.line sp).loopNow ≠ .inner →
      (s.line sp).base.rx = ⟨false, []⟩ →
      w.sender ≠ (if (s.line sp).loopNow = .normal then (s.config sp).neighbour else s.part.site) →
      exec (.frameReceived sp.port race (frameBytes w none)) s =
        .next { s.fresh.setLine sp
            { s.line sp with
              mismatch := true
              base := { (s.line sp).base with accepted := min 65535 ((s.line sp).base.accepted + 1) } } with
          raised := s.raised ++
            (if (s.line sp).mismatch then []
             else [⟨.linePort sp, .neighbourMismatch, .one sp, .port sp.port, s.time.tickCount, false⟩]) })
    ∧ (∀ (race : Race) (s : State) (p : Port), s.pins.resetLine = false → (∀ sp : Span, sp.port = p → (s.line sp).loopNow ≠ .inner) →
      let b := s.base p
      let discarded := min 65535 (b.discarded + 1)
      (∀ (w : SpanWord) (m : Option Msg) (c1 c0 : Byte), b.rx = ⟨false, []⟩ → (∀ x ∈ m, x.body.length ≤ 51) →
        let frame := frameBytes w m
        let n := frame.length - 2
        frame.drop n ≠ [c1, c0] →
        exec (.frameReceived p race (frame.take n ++ [c1, c0])) s = .next (s.fresh.setBase p { b with discarded := discarded }))
      ∧ (∀ (held bytes more : List Byte) (b0 b1 b2 b3 : Byte), b.rx = ⟨false, held⟩ → held ++ bytes = b0 :: b1 :: b2 :: b3 :: more →
        let len := b3.toNat % 64
        (1 ≤ len ∧ len ≤ 4) ∨ 56 < len →
        exec (.frameReceived p race bytes) s = .next (s.fresh.setBase p { b with rx := ⟨true, []⟩, discarded := discarded }))
      ∧ (∀ bytes : List Byte, b.rx.waiting = true → exec (.frameReceived p race bytes) s = .next s.fresh)
      ∧ (b.rx.bytes ≠ [] →
        exec (.idleFillReceived p) s = .next (s.fresh.setBase p { b with rx := ⟨false, []⟩, discarded := discarded }))
      ∧ (b.rx.bytes = [] → exec (.idleFillReceived p) s = .next (s.fresh.setBase p { b with rx := ⟨false, []⟩ })))

/-- A message for another site in a kept frame on a line port goes to the forward queue of the opposite line port with its hop limit
decreased and every other field unchanged; with hop limit 0, or with the queue full, it is discarded (R114, R115, R119). One for site 0
is discarded, a REPLY or NOTICE for the own site goes to the Local port's queue, one for all sites to both queues, and a request for the
own site is taken as the command of its kind, one for all sites besides being forwarded (R114, R115, R166); the word of the frame is
tested before (`msgFirst`, log 14).
On the Local port a message for another site goes to the local queue of the line port its direction names; a request for site 0 or the
own site is taken as the command of its kind, a REPLY or NOTICE for them is discarded; for all sites a REPLY or NOTICE goes to the line
port's queue, and a request is taken besides (R116, R166). -/
def Obligations.MessageForOtherSiteForwarded : Prop :=
  let commands : List (BitVec 5 × (Req → Instr)) :=
    [(1, .read), (2, .writeSpan), (3, .writePump), (4, .setSetpoint), (5, .clearPump), (6, .writeMonitor), (7, .writeEvent),
     (8, .writeInterlock), (9, .clearInterlock), (10, .spanHold), (11, .spanResume), (12, .spanRelease), (13, .setLoop),
     (14, .writePart), (15, .start), (16, .halt), (17, .writeGrants), (18, .clear)]
      ++ ([0, 19, 20, 21, 22, 23, 24, 25, 26, 27, 28, 29] : List (BitVec 5)).map fun k => (k, .unknownRequest k)
  (∀ (race : Race) (s : State) (sp : Span) (w : SpanWord) (m : Msg), s.pins.resetLine = false → (s.line sp).loopNow ≠ .inner →
       (s.line sp).base.rx = ⟨false, []⟩ →
       w.sender ≠ (if (s.line sp).loopNow = .normal then (s.config sp).neighbour else s.part.site) →
       (s.line sp).mismatch = true → m.body.length ≤ 51 →
       let kept := s.fresh.setLine sp
         { s.line sp with base := { (s.line sp).base with accepted := min 65535 ((s.line sp).base.accepted + 1) } }
       let forwarded := kept.setLine sp.other
         { s.line sp.other with
           forward :=
             if m.hop = 0 ∨ 8 ≤ (s.line sp.other).forward.length then (s.line sp.other).forward
             else (s.line sp.other).forward ++ [{ m with hop := m.hop - 1 }] }
       let delivered := fun x : State =>
         { x with localPort := { s.localPort with
             queue := if 8 ≤ s.localPort.queue.length then s.localPort.queue else s.localPort.queue ++ [m] } }
       let out := exec (.frameReceived sp.port race (frameBytes w (some m))) s
       (m.dest ≠ 0 → m.dest ≠ s.part.site → m.dest ≠ 1023 → out = .next forwarded)
       ∧ (m.dest = 0 → out = .next kept)
       ∧ (m.kind = 30 ∨ m.kind = 31 →
         (m.dest ≠ 0 → m.dest = s.part.site → out = .next (delivered kept))
           ∧ (m.dest = 1023 → s.part.site ≠ 1023 → out = .next (delivered forwarded)))
       ∧ (∀ c ∈ commands, m.kind = c.1 → race.msgFirst = false →
         (m.dest ≠ 0 → m.dest = s.part.site → out = exec (c.2 ⟨sp.port, m.src, m.cls, m.tag, m.body, race.replyFirst⟩) kept)
           ∧ (m.dest = 1023 → s.part.site ≠ 1023 → race.fwdFirst = true →
             out = exec (c.2 ⟨sp.port, m.src, m.cls, m.tag, m.body, race.replyFirst⟩) forwarded)))
    ∧ (∀ (race : Race) (s : State) (w : SpanWord) (m : Msg), s.pins.resetLine = false → s.localPort.rx = ⟨false, []⟩ →
       m.body.length ≤ 51 →
       let kept := { s.fresh with localPort := { s.localPort with accepted := min 65535 (s.localPort.accepted + 1) } }
       let side : Span := if m.dir = .wb then .ws else .es
       let base := (s.line side).base
       let out := exec (.frameReceived .loc race (frameBytes w (some m))) s
       let placed := kept.setLine side
         { s.line side with base := { base with queue := if 8 ≤ base.queue.length then base.queue else base.queue ++ [m] } }
       (m.dest ≠ 0 → m.dest ≠ s.part.site → m.dest ≠ 1023 → out = .next placed)
       ∧ (m.kind = 30 ∨ m.kind = 31 →
         (m.dest = 0 ∨ m.dest = s.part.site → out = .next kept) ∧ (m.dest = 1023 → s.part.site ≠ 1023 → out = .next placed))
       ∧ (∀ c ∈ commands, m.kind = c.1 →
         (m.dest = 0 ∨ m.dest = s.part.site →
           out = exec (c.2 ⟨.loc, m.src, m.cls, m.tag, m.body, race.replyFirst⟩) kept)
           ∧ (m.dest = 1023 → s.part.site ≠ 1023 → race.fwdFirst = true →
             out = exec (c.2 ⟨.loc, m.src, m.cls, m.tag, m.body, race.replyFirst⟩) placed)))

/-! ### The Span Engines -/

/-- Off expired becomes set at the edge of the off stage that brings the off timer's count to n_off (R20, R140, R144).
A LIVE port becomes SILENT at the counted edge that brings its silence count to k; FRAMES_LOST is raised, and SPAN_BREAK after it
where the span is in SERVICE or CONFIRM in FRAME mode with its input ABSENT (R25, R27, R111, R143).
At a tick every edge of its off stage raises the count of a span in WAIT by one, up to 15, and leaves off expired as it stood where the count
stays below n_off; every edge of its silence stage that leaves the count of a LIVE port below k raises that count by one. A tick that is no
edge, a span out of WAIT and a SILENT port count nothing (R20, R111, R143, R144). -/
def Obligations.EdgeCountersExpire : Prop :=
  (∀ (s : State) (sp : Span), s.pins.resetLine = false → .offTimer sp ∈ s.owed → (s.st sp).state = .wait →
       (s.st sp).offExpired = false → s.time.tickCount.toNat % 2 ^ (s.config sp).offStage = 0 →
       (s.config sp).offCount ≤ min 15 ((s.st sp).offTicks + 1) →
       exec (.offExpired sp) s =
         .next ((s.fresh.dropJob (.offTimer sp)).setSt sp
           { s.st sp with offTicks := min 15 ((s.st sp).offTicks + 1), offExpired := true }))
    ∧ (∀ (s : State) (sp : Span), s.pins.resetLine = false → .silence sp ∈ s.owed → (s.line sp).live = true →
       s.time.tickCount.toNat % 2 ^ (s.config sp).silenceStage = 0 →
       (s.config sp).silenceCount ≤ min 15 ((s.line sp).silence + 1) →
       exec (.portSilent sp) s =
         .next { (s.fresh.dropJob (.silence sp)).setLine sp
             { s.line sp with silence := min 15 ((s.line sp).silence + 1), live := false } with
           raised := s.raised ++ [⟨.linePort sp, .framesLost, .one sp, .port sp.port, s.time.tickCount, false⟩]
             ++ (if (s.config sp).mode = .frame ∧ ((s.st sp).state = .service ∨ (s.st sp).state = .confirm)
                     ∧ (s.inp sp).light = .absent then
                   [⟨.engine sp, .spanBreak, .one sp, .monitor (if sp = .ws then 0 else 4), s.time.tickCount, false⟩]
                 else []) })
    ∧ (∀ (levels : BitVec 8) (s : State) (sp : Span), s.pins.resetLine = false → s.owed = [] →
       let edge := fun stage : Nat => (s.time.tickCount + 1).toNat % 2 ^ stage = 0
       let x := s.st sp
       let l := s.line sp
       let c := s.config sp
       let off := (s.ticked levels).dropJob (.offTimer sp)
       let silent := (s.ticked levels).dropJob (.silence sp)
       (x.state = .wait → edge c.offStage →
         let n := min 15 (x.offTicks + 1)
         exec (.tick levels [.offTimer sp]) s =
           .next (off.setSt sp { x with offTicks := n, offExpired := if n < c.offCount then x.offExpired else true }))
       ∧ (x.state ≠ .wait ∨ ¬ edge c.offStage → exec (.tick levels [.offTimer sp]) s = .next off)
       ∧ (l.live = true → edge c.silenceStage → min 15 (l.silence + 1) < c.silenceCount →
         exec (.tick levels [.silence sp]) s = .next (silent.setLine sp { l with silence := min 15 (l.silence + 1) }))
       ∧ (l.live = false ∨ ¬ edge c.silenceStage → exec (.tick levels [.silence sp]) s = .next silent))

/-- A dark slot takes a span in SHUT to WAIT with its off timer at 0; slots above the tolerance up to the dark timeout raise DARK_FAIL
once for the stay: with DARK_FAIL raised already, or before the timeout, a further one counts and raises nothing (R19, R20).
CONFIRM_TIMEOUT is raised once for a stay in CONFIRM, at the tick that brings ticks in state to the timeout: with it raised already, or
before the timeout, a tick counts and raises nothing (R31). The span entered its state before the tick (`startsNext`, log 4). -/
def Obligations.DarkAndConfirmTimeouts : Prop :=
  (∀ (s : State) (sp : Span), s.pins.resetLine = false → (s.st sp).state = .shut → (s.st sp).startsNext = false →
       (∀ levels : BitVec 8, s.owed = [] → s.slotValue sp ≤ (s.config sp).darkTolerance →
         ∃ t, exec (.tick levels [.slot sp]) s = .next t ∧ t.st sp.other = s.st sp.other
           ∧ { t with ring := s.ring, status := s.status, time := s.time, pins := s.pins, owed := s.owed } = s.fresh
           ∧ t.st sp =
               { s.st sp with
                 state := .wait, ticks := 0, callPending := false, offTicks := 0, offExpired := false, probeLength := none })
       ∧ (.slot sp ∈ s.owed → (s.config sp).darkTolerance < s.slotValue sp →
         (s.config sp).darkTimeout ≤ min 65535 ((s.st sp).ticks + 1) → (s.st sp).darkFailRaised = false →
         exec (.darkTimeout sp) s =
           .next { ((s.fresh.dropJob (.slot sp)).setSlots sp (s.slotValue sp :: (s.slots sp).take 255)).setSt sp
               { s.st sp with ticks := min 65535 ((s.st sp).ticks + 1), darkFailRaised := true } with
             raised := s.raised ++ [⟨.engine sp, .darkFail, .one sp, .none_, s.time.tickCount, false⟩] })
       ∧ (∀ levels : BitVec 8, s.owed = [] → (s.config sp).darkTolerance < s.slotValue sp →
         (s.st sp).darkFailRaised = true ∨ min 65535 ((s.st sp).ticks + 1) < (s.config sp).darkTimeout →
         ∃ t, exec (.tick levels [.slot sp]) s = .next t ∧ t.st sp.other = s.st sp.other
           ∧ { t with ring := s.ring, status := s.status, time := s.time, pins := s.pins, owed := s.owed } = s.fresh
           ∧ t.st sp = { s.st sp with ticks := min 65535 ((s.st sp).ticks + 1) }))
    ∧ (∀ (s : State) (sp : Span), s.pins.resetLine = false → (s.st sp).state = .confirm → (s.st sp).startsNext = false →
       (.slot sp ∈ s.owed → (s.config sp).confirmTimeout ≤ min 65535 ((s.st sp).ticks + 1) → (s.st sp).confirmRaised = false →
         exec (.confirmTimeout sp) s =
           .next { ((s.fresh.dropJob (.slot sp)).setSlots sp (s.slotValue sp :: (s.slots sp).take 255)).setSt sp
               { s.st sp with ticks := min 65535 ((s.st sp).ticks + 1), confirmRaised := true } with
             raised := s.raised ++ [⟨.engine sp, .confirmTimeout, .one sp, .none_, s.time.tickCount, false⟩] })
       ∧ (∀ levels : BitVec 8, s.owed = [] →
         (s.st sp).confirmRaised = true ∨ min 65535 ((s.st sp).ticks + 1) < (s.config sp).confirmTimeout →
         ∃ t, exec (.tick levels [.slot sp]) s = .next t ∧ t.st sp.other = s.st sp.other
           ∧ { t with ring := s.ring, status := s.status, time := s.time, pins := s.pins, owed := s.owed } = s.fresh
           ∧ t.st sp = { s.st sp with ticks := min 65535 ((s.st sp).ticks + 1) }))

/-- A probe starts where the six conditions of the start test hold on the ring with the tick's slot recorded: the tag advances, the span
is in PROBE with the length fixed and its line on, and exactly its LAUNCH pumps in DARK enter PULSING at their probe setpoint (R40,
R42, R85). That they take PULSE in the very step of the start test, with no FAULT or SNUFF between the test and the PULSE as R85 allows, is
the model's choice (log 49).
Where any of the six fails, the tick is a deferral: the slot is recorded and nothing else changes, the span staying in WAIT (R40, R41).
The span entered WAIT before the tick (`startsNext`, log 4), and the conditions are those of the moment of the hand-over (log 47). -/
def Obligations.ProbeStartsWhenConditionsHold : Prop :=
  ∀ (s : State) (sp : Span), s.pins.resetLine = false → (s.st sp).state = .wait → (s.st sp).startsNext = false →
    let ring := s.slotValue sp :: (s.slots sp).take 255
    let passes :=
      ((s.st sp).offExpired = true ∨ (s.st sp).callPending = true)
        ∧ (∀ e ∈ (s.st sp).causes, e ≠ .interlock ∧ e ≠ .supplyLow ∧ e ≠ .manualHold) ∧ s.part.run = true
        ∧ (∃ ch, (s.pump ch).launches sp = true ∧ (s.pump ch).state = .dark)
        ∧ (∀ ch, (s.pump ch).launches sp = true → (s.pump ch).state.isDark = true)
        ∧ ((s.config sp).mode = .frame → (s.line sp).live = true ∧ ∃ w, (s.st sp).far = some w
            ∧ (w.state = .wait ∨ w.state = .probe ∨ w.state = .confirm ∨ w.state = .service))
        ∧ (ring.take ((s.config sp).window - 1)).sum + (s.config sp).duration * (s.config sp).ceiling ≤ (s.config sp).limit
    (.slot sp ∈ s.owed → (∀ ch, TickJob.link ch ∉ s.owed) → passes →
      ∃ t, exec (.probeStart sp) s = .next t
        ∧ t.st sp =
            { s.st sp with
              state := .probe, tag := (s.st sp).tag + 1, ticks := 0, callPending := false, offTicks := 0, offExpired := false
              probeLength := some ((s.config sp).duration + (s.config sp).grace), overshootRaised := false
              exposureRaised := false }
        ∧ t.pins.spanEn.get sp = true ∧ t.st sp.other = s.st sp.other
        ∧ { t with ring := s.ring, status := s.status, pumps := s.pumps, pins := s.pins, owed := s.owed } = s.fresh
        ∧ ∀ ch, t.pump ch =
            if (s.pump ch).launches sp = true ∧ (s.pump ch).state = .dark then
              { s.pump ch with
                state := .pulsing, level := min (s.pump ch).probe (s.pump ch).ceiling
                pulseLen := some (s.config sp).duration, pulseCount := 0 }
            else s.pump ch)
    ∧ (∀ levels : BitVec 8, s.owed = [] → ¬ passes →
      ∃ t, exec (.tick levels [.slot sp]) s = .next t ∧ t.slots sp = ring ∧ t.slots sp.other = s.slots sp.other
        ∧ { t with ring := s.ring, time := s.time, pins := s.pins, owed := s.owed } = s.fresh)

/-- A probe started where the projected sum does not exceed Lx cannot take the window sum above Lx while its pulse slots stay at or
below C: at the j-th pulse tick, j from 1 to T, S is at most Lx (R39, R40, R44). -/
def Obligations.AdmittedProbeStaysBelowLimit : Prop :=
  ∀ (s : State) (sp : Span) (pulse : List Nat), (s.config sp).duration < (s.config sp).window →
    s.projectedSum sp ≤ (s.config sp).limit → 1 ≤ pulse.length → pulse.length ≤ (s.config sp).duration →
    (∀ x ∈ pulse, x ≤ (s.config sp).ceiling) →
    (s.setSlots sp (pulse ++ s.slots sp)).windowSum sp ≤ (s.config sp).limit

/-- A probe that reaches its length without proof: its pulses are snuffed, the failure count rises by one up to 15, the span goes to
LOCKED where a nonzero lockout limit is reached and to WAIT else, its line goes off, and PROBE_FAILED is raised, LOCKOUT after it in
LOCKED (R51, R52).
At every tick in PROBE ticks in state rises by one; a slot above C at a pulse tick raises PROBE_OVERSHOOT, and a window sum above Lx raises
EXPOSURE after it, each once for a probe. Before its length the span then stays in PROBE with nothing else changed; in LIGHT mode an
input PRESENT proves the probe, at the last tick too (R43, R44, R45, R48): the span is in CONFIRM, or in SERVICE where every completion
condition holds at once (log 22). The span entered PROBE before the tick (`startsNext`, log 4). -/
def Obligations.ProbeExpiryCountsFailure : Prop :=
  (∀ (s : State) (sp : Span) (n : Nat), s.pins.resetLine = false → .slot sp ∈ s.owed → (s.st sp).state = .probe →
       (s.st sp).startsNext = false → (s.st sp).probeLength = some n → n ≤ min 65535 ((s.st sp).ticks + 1) →
       ¬ ((s.config sp).mode = .light ∧ (s.inp sp).light = .present) →
       let count := min 15 ((s.st sp).failures + 1)
       let locks := (s.config sp).lockout ≠ 0 ∧ (s.config sp).lockout ≤ count
       ∃ t, exec (.probeExpiry sp) s = .next t
         ∧ (t.st sp).state = (if locks then .locked else .wait) ∧ (t.st sp).failures = count ∧ (t.st sp).ticks = 0
         ∧ (t.st sp).offExpired = false ∧ (t.st sp).causes = (s.st sp).causes ∧ t.pins.spanEn.get sp = false
         ∧ (∀ ch, (s.pump ch).launches sp = true → (s.pump ch).state = .pulsing →
             (t.pump ch).state = .darkHold ∧ (t.pump ch).level = 0 ∧ (t.pump ch).darkLeft = (s.pump ch).minDark)
         ∧ (∀ ch, ¬ ((s.pump ch).launches sp = true ∧ (s.pump ch).state = .pulsing) → t.pump ch = s.pump ch)
         ∧ t.st sp.other = s.st sp.other
         ∧ { t with
             ring := s.ring, status := s.status, pumps := s.pumps, pins := s.pins, owed := s.owed, raised := s.raised, out := [] }
           = s.fresh
         ∧ ([⟨.engine sp, .probeFailed, .one sp, .none_, s.time.tickCount, false⟩]
             ++ if locks then [⟨.engine sp, .lockout, .one sp, .none_, s.time.tickCount, false⟩] else []) <:+ t.raised)
    ∧ (∀ (s : State) (sp : Span) (n : Nat) (levels : BitVec 8), s.pins.resetLine = false → s.owed = [] → s.part.run = true →
       (s.st sp).state = .probe → (s.st sp).startsNext = false → (s.st sp).probeLength = some n →
       let slot := s.slotValue sp
       let ring := slot :: (s.slots sp).take 255
       let k := min 65535 ((s.st sp).ticks + 1)
       let tooHigh := 1 ≤ k ∧ k ≤ (s.config sp).duration ∧ (s.config sp).ceiling < slot ∧ (s.st sp).overshootRaised = false
       let expo := (s.config sp).limit < (ring.take (s.config sp).window).sum ∧ (s.st sp).exposureRaised = false
       let proved := (s.config sp).mode = .light ∧ (s.inp sp).light = .present
       let events : List Raised :=
         (if tooHigh then [⟨.engine sp, .probeOvershoot, .one sp, .none_, s.time.tickCount + 1, false⟩] else [])
           ++ (if expo then [⟨.engine sp, .exposure, .one sp, .none_, s.time.tickCount + 1, false⟩] else [])
       (¬ proved → k < n →
         ∃ t, exec (.tick levels [.slot sp]) s = .next t ∧ t.slots sp = ring ∧ t.slots sp.other = s.slots sp.other
           ∧ t.st sp =
               { s.st sp with
                 ticks := k, overshootRaised := (s.st sp).overshootRaised || decide tooHigh
                 exposureRaised := (s.st sp).exposureRaised || decide expo }
           ∧ t.st sp.other = s.st sp.other ∧ t.raised = s.raised ++ events
           ∧ { t with
               ring := s.ring, status := s.status, raised := s.raised, time := s.time, pins := s.pins, owed := s.owed } = s.fresh)
       ∧ (proved →
         ∃ t, exec (.tick levels [.slot sp]) s = .next t ∧ t.slots sp = ring
           ∧ ((t.st sp).state = .confirm ∨ (t.st sp).state = .service) ∧ (t.st sp).ticks = 0 ∧ t.pins.spanEn.get sp = true
           ∧ t.st sp.other = s.st sp.other ∧ (s.raised ++ events) <+: t.raised
           ∧ { t with
               ring := s.ring, status := s.status, pumps := s.pumps, raised := s.raised, time := s.time, pins := s.pins
               owed := s.owed } = s.fresh))

/-- A span in CONFIRM whose pumps with a nonzero service setpoint are all LIT, with a far end in CONFIRM or SERVICE that reports light
(FRAME) or light on its own input (LIGHT), enters SERVICE: spent causes go, the failure count and ticks in state are 0, and
SERVICE_RESTORED is raised (R30, R32), ahead of a SPAN_BREAK that the same entry may raise (the model's order, log 21). A tick's slot
still to be handed over counts nothing for the new state (`startsNext`, log 4). -/
def Obligations.ConfirmCompletionEntersService : Prop :=
  ∀ (s : State) (sp : Span), s.pins.resetLine = false → (s.st sp).state = .confirm →
    (∀ ch, (s.pump ch).of sp = true → (s.pump ch).service ≠ 0 → (s.pump ch).state = .lit) →
    ((s.config sp).mode = .frame → ∃ w, (s.st sp).far = some w ∧ (w.state = .confirm ∨ w.state = .service) ∧ w.light = true) →
    ((s.config sp).mode = .light → (s.inp sp).light = .present) →
    ∃ t, exec (.confirmCompletion sp) s = .next t
      ∧ t.st sp =
          { s.st sp with
            state := .service, ticks := 0, callPending := false, offTicks := 0, offExpired := false, probeLength := none
            failures := 0, startsNext := false
            causes := (s.st sp).causes.filter fun e => e = .interlock ∨ e = .supplyLow ∨ e = .manualHold }
      ∧ t.st sp.other = s.st sp.other
      ∧ { t with status := s.status, pins := s.pins, raised := s.raised } = s.fresh
      ∧ (s.raised ++ [⟨.engine sp, .serviceRestored, .one sp, .none_, s.time.tickCount, false⟩]) <+: t.raised

/-! ### Pump channels and the pump link -/

/-- The steps of a tick that end a pulse, a min-dark without a pending rise, and a min-dark with one: DARK_HOLD with min-dark
restarted; DARK; RISING toward the pending rise where the span is in CONFIRM or SERVICE in RUN, else DARK. The records of the tick have
gone out before (R88, R89, R90).
A ramp whose next step reaches its target ends: LIT at the target, or DARK_HOLD with min-dark restarted for a target of 0; a ramp
that does not moves by its rate, after every used channel has been sent its record, of the level before (R88, R97, R100; the records go
in the order of the channels, log 45).
A step that ends a pulse, a min-dark or a ramp of a pump whose span is in CONFIRM does the same to the channel, and the span enters SERVICE
where every completion condition then holds (R30).
The steps that end nothing, of a channel of any role and span: a pulse below its length counts one tick, a min-dark above 1 loses one, a ramp
short of its target moves by its rate, and a channel in DARK, LIT or FAULTED takes no step; no span changes, since none in CONFIRM waits with
its completion conditions holding (R30, R88, R89, R90). In the clauses over a whole TICK no channel reaches its third missing answer. -/
def Obligations.ChannelStepsAtTick : Prop :=
  (∀ (s : State) (ch : Chan), s.pins.resetLine = false → .step ch ∈ s.owed → (∀ c, TickJob.link c ∉ s.owed) →
       (∀ sp, (s.pump ch).lights = some sp → (s.st sp).state ≠ .confirm) →
       (∀ len, (s.pump ch).state = .pulsing → (s.pump ch).pulseLen = some len → len ≤ (s.pump ch).pulseCount + 1 →
         exec (.pulseEnd ch) s =
           .next ((s.fresh.dropJob (.step ch)).setPump ch
             { s.pump ch with
               state := .darkHold, level := 0, target := none, rise := none, pulseLen := none, pulseCount := 0
               darkLeft := (s.pump ch).minDark }))
       ∧ ((s.pump ch).state = .darkHold → (s.pump ch).darkLeft ≤ 1 → (s.pump ch).rise = none →
         exec (.minDarkEnd ch) s =
           .next ((s.fresh.dropJob (.step ch)).setPump ch { s.pump ch with state := .dark, darkLeft := 0 }))
       ∧ (∀ x sp, (s.pump ch).state = .darkHold → (s.pump ch).darkLeft ≤ 1 → (s.pump ch).rise = some x →
         (s.pump ch).lights = some sp →
         exec (.minDarkEnd ch) s =
           .next ((s.fresh.dropJob (.step ch)).setPump ch
             (if s.part.run = true ∧ (s.st sp).state = .service then
               { s.pump ch with state := .rising, target := some x, rise := none, darkLeft := 0 }
             else { s.pump ch with state := .dark, rise := none, darkLeft := 0 }))))
    ∧ (∀ (s : State) (ch : Chan) (x : Nat), s.pins.resetLine = false → (∀ c, TickJob.link c ∉ s.owed) →
       (∀ sp, (s.pump ch).lights = some sp → (s.st sp).state ≠ .confirm) → (s.pump ch).target = some x →
       (.step ch ∈ s.owed → (s.pump ch).state = .rising → x ≤ (s.pump ch).level + (s.pump ch).up →
         exec (.rampComplete ch) s =
           .next ((s.fresh.dropJob (.step ch)).setPump ch { s.pump ch with state := .lit, level := x, target := none }))
       ∧ (.step ch ∈ s.owed → (s.pump ch).state = .falling → (s.pump ch).level - (s.pump ch).down ≤ x →
         exec (.rampComplete ch) s =
           .next ((s.fresh.dropJob (.step ch)).setPump ch
             (if x = 0 then
               { s.pump ch with
                 state := .darkHold, level := 0, target := none, rise := none, pulseLen := none, pulseCount := 0
                 darkLeft := (s.pump ch).minDark }
             else { s.pump ch with state := .lit, level := x, target := none })))
       ∧ (∀ levels : BitVec 8, s.owed = [] → (s.pump ch).role ≠ .unused →
         (∀ c, (s.pump c).sent = false ∨ (s.pump c).answered = true ∨ (s.pump c).noReply < 2 ∨ (s.pump c).state = .faulted) →
         (s.pump ch).state = .rising ∧ (s.pump ch).level + (s.pump ch).up < x
           ∨ (s.pump ch).state = .falling ∧ x < (s.pump ch).level - (s.pump ch).down →
         ∃ t, exec (.tick levels [.step ch]) s = .next t
           ∧ (t.pump ch).level =
               (if (s.pump ch).state = .rising then (s.pump ch).level + (s.pump ch).up else (s.pump ch).level - (s.pump ch).down)
           ∧ (t.pump ch).state = (s.pump ch).state ∧ (t.pump ch).target = some x
           ∧ t.out = (Config.chans.filter fun c => (s.pump c).role ≠ .unused).map
               (fun c => Output.setpoint (setpointRecord c (s.pump c).level))
           ∧ (∀ c, c ≠ ch → t.pump c =
               let p := s.pump c
               { p with
                 sent := decide (p.role ≠ .unused), answered := false
                 noReply := if p.sent = true ∧ p.answered = false then min 3 (p.noReply + 1) else p.noReply })
           ∧ { t with pumps := s.pumps, time := s.time, pins := s.pins, owed := s.owed, out := [] } = s.fresh))
    ∧ (∀ (s : State) (ch : Chan) (sp : Span), s.pins.resetLine = false → .step ch ∈ s.owed → (∀ c, TickJob.link c ∉ s.owed) →
       (s.pump ch).lights = some sp → (s.st sp).state = .confirm →
       let taken := fun (p : Pump) (t : State) =>
         t.pump ch = p ∧ (∀ c, c ≠ ch → t.pump c = s.pump c) ∧ t.st sp.other = s.st sp.other
           ∧ (let complete :=
                (∀ c, (t.pump c).of sp = true → (t.pump c).service ≠ 0 → (t.pump c).state = .lit)
                  ∧ ((s.config sp).mode = .frame →
                      ∃ w, (s.st sp).far = some w ∧ (w.state = .confirm ∨ w.state = .service) ∧ w.light = true)
                  ∧ ((s.config sp).mode = .light → (s.inp sp).light = .present)
              (complete → (t.st sp).state = .service)
                ∧ (¬ complete → t.st sp = s.st sp ∧ t.raised = s.raised ∧ t.pins = s.pins))
           ∧ { t with pumps := s.pumps, owed := s.owed, status := s.status, pins := s.pins, raised := s.raised } = s.fresh
       (∀ x, (s.pump ch).state = .darkHold → (s.pump ch).darkLeft ≤ 1 → (s.pump ch).rise = some x →
         ∃ t, exec (.minDarkEnd ch) s = .next t
           ∧ taken
               (if s.part.run = true then
                 { s.pump ch with state := .rising, target := some x, rise := none, darkLeft := 0 }
               else { s.pump ch with state := .dark, rise := none, darkLeft := 0 }) t)
       ∧ (∀ x, (s.pump ch).state = .rising → (s.pump ch).target = some x → x ≤ (s.pump ch).level + (s.pump ch).up →
         ∃ t, exec (.rampComplete ch) s = .next t ∧ taken { s.pump ch with state := .lit, level := x, target := none } t)
       ∧ (let hold : Pump :=
            { s.pump ch with
              state := .darkHold, level := 0, target := none, rise := none, pulseLen := none, pulseCount := 0
              darkLeft := (s.pump ch).minDark }
          (∀ x, (s.pump ch).state = .falling → (s.pump ch).target = some x → (s.pump ch).level - (s.pump ch).down ≤ x →
            ∃ t, exec (.rampComplete ch) s = .next t
              ∧ taken (if x = 0 then hold else { s.pump ch with state := .lit, level := x, target := none }) t)
          ∧ (∀ len, (s.pump ch).state = .pulsing → (s.pump ch).pulseLen = some len → len ≤ (s.pump ch).pulseCount + 1 →
            ∃ t, exec (.pulseEnd ch) s = .next t ∧ taken hold t))
       ∧ ((s.pump ch).state = .darkHold → (s.pump ch).darkLeft ≤ 1 → (s.pump ch).rise = none →
         ∃ t, exec (.minDarkEnd ch) s = .next t ∧ taken { s.pump ch with state := .dark, darkLeft := 0 } t))
    ∧ (∀ (levels : BitVec 8) (s : State) (ch : Chan), s.pins.resetLine = false → s.owed = [] → s.CompletesPromptly →
       (∀ c, (s.pump c).sent = false ∨ (s.pump c).answered = true ∨ (s.pump c).noReply < 2 ∨ (s.pump c).state = .faulted) →
       let linked := fun p : Pump =>
         { p with
           sent := decide (p.role ≠ .unused), answered := false
           noReply := if p.sent = true ∧ p.answered = false then min 3 (p.noReply + 1) else p.noReply }
       let stepped := fun q : Pump =>
         ∃ t, exec (.tick levels [.step ch]) s = .next t ∧ t.pump ch = linked q ∧ (∀ c, c ≠ ch → t.pump c = linked (s.pump c))
           ∧ t.out = (Config.chans.filter fun c => (s.pump c).role ≠ .unused).map
               (fun c => Output.setpoint (setpointRecord c (s.pump c).level))
           ∧ { t with pumps := s.pumps, time := s.time, pins := s.pins, owed := s.owed, out := [] } = s.fresh
       let p := s.pump ch
       (∀ len, p.state = .pulsing → p.pulseLen = some len → p.pulseCount + 1 < len → stepped { p with pulseCount := p.pulseCount + 1 })
       ∧ (p.state = .darkHold → 2 ≤ p.darkLeft → stepped { p with darkLeft := p.darkLeft - 1 })
       ∧ (∀ x, p.state = .rising → p.target = some x → p.level + p.up < x → stepped { p with level := p.level + p.up })
       ∧ (∀ x, p.state = .falling → p.target = some x → x < p.level - p.down → stepped { p with level := p.level - p.down })
       ∧ (p.state = .dark ∨ p.state = .lit ∨ p.state = .faulted → stepped p))

/-- The third missing answer in a row takes a channel to FAULTED: level 0, target, pulse and pending rise cleared, an extra record with
level 0, and DRIVER_LOST for the span of a LAUNCH or COUNTER pump, for none for a STAGE pump (R98, R100, R101). Min-dark remaining is
kept (log 23) and the step of the tick in progress is dropped (log 4), which are the model's readings. -/
def Obligations.ThirdMissingAnswerFaults : Prop :=
  ∀ (s : State) (ch : Chan), s.pins.resetLine = false → .check ch ∈ s.owed → (s.pump ch).role ≠ .unused →
    (s.pump ch).sent = true → (s.pump ch).answered = false → 2 ≤ (s.pump ch).noReply → (s.pump ch).state ≠ .faulted →
    exec (.driverLost ch) s =
      .next { ((s.fresh.dropJob (.check ch)).setPump ch
          { s.pump ch with
            state := .faulted, level := 0, target := none, rise := none, pulseLen := none, pulseCount := 0, noReply := 3
            answered := false }).dropJob (.step ch) with
        out := [.setpoint (BitVec.ofNat 16 (ch.val * 8192))]
        raised := s.raised ++
          [⟨.pumpLink, .driverLost, if (s.pump ch).role = .stage then .none_ else .one (s.pump ch).span, .pump ch,
            s.time.tickCount, false⟩] }

/-- A status record of a used channel: it answers and the no-reply count returns to 0; FAULT takes a channel not in FAULTED there, with
an extra record and DRIVER_FAULT. For an UNUSED channel it is ignored (R98, R99, R101, R196). Min-dark remaining is kept (log 23) and
the step of the tick in progress is dropped (log 4), which are the model's readings. -/
def Obligations.StatusRecordTaken : Prop :=
  ∀ (s : State) (b : Byte) (ch : Chan), s.pins.resetLine = false → b.toNat / 32 = ch.val →
    ((s.pump ch).role = .unused → exec (.statusRecord b) s = .next s.fresh)
    ∧ ((s.pump ch).role ≠ .unused → b.toNat % 2 = 0 ∨ (s.pump ch).state = .faulted →
      exec (.statusRecord b) s = .next (s.fresh.setPump ch { s.pump ch with answered := true, noReply := 0 }))
    ∧ ((s.pump ch).role ≠ .unused → b.toNat % 2 = 1 → (s.pump ch).state ≠ .faulted →
      exec (.statusRecord b) s =
        .next { (s.fresh.setPump ch
            { s.pump ch with
              state := .faulted, level := 0, target := none, rise := none, pulseLen := none, pulseCount := 0, noReply := 0
              answered := true }).dropJob (.step ch) with
          out := [.setpoint (BitVec.ofNat 16 (ch.val * 8192))]
          raised := s.raised ++
            [⟨.pumpLink, .driverFault, if (s.pump ch).role = .stage then .none_ else .one (s.pump ch).span, .pump ch,
              s.time.tickCount, false⟩] })

/-- RISE by the state of a channel whose span is in CONFIRM or SERVICE in RUN, toward the target clamped to the ceiling; every other
channel keeps its record, and in SERVICE nothing else changes. A RISE whose span is in another state, or whose channel is UNUSED,
changes nothing (R83, R84). -/
def Obligations.RiseByChannelState : Prop :=
  ∀ (s : State) (ch : Chan) (x : Nat), s.pins.resetLine = false →
    (∀ sp, s.part.run = true → (s.pump ch).lights = some sp → (s.st sp).state = .confirm ∨ (s.st sp).state = .service →
      ∃ t, exec (.rise ch x) s = .next t
        ∧ ((s.st sp).state = .service → { t with pumps := s.pumps, owed := s.owed } = s.fresh)
        ∧ (∀ c, c ≠ ch → t.pump c = s.pump c)
        ∧ t.pump ch =
            (let p := s.pump ch
             let y := min x p.ceiling
             match p.state with
             | .dark => if 0 < y then { p with state := .rising, target := some y } else p
             | .darkHold => { p with rise := if 0 < y then some y else none }
             | .faulted => p
             | .rising | .lit | .falling | .pulsing =>
               if p.level < y then { p with state := .rising, target := some y, pulseLen := none, pulseCount := 0 }
               else if y < p.level then { p with state := .falling, target := some y, pulseLen := none, pulseCount := 0 }
               else if p.level = 0 then
                 { p with
                   state := .darkHold, level := 0, target := none, rise := none, pulseLen := none, pulseCount := 0
                   darkLeft := p.minDark }
               else { p with state := .lit, target := none, pulseLen := none, pulseCount := 0 }))
    ∧ (s.StandbyUnused →
      (∀ sp, (s.pump ch).lights = some sp → (s.st sp).state ≠ .confirm ∧ (s.st sp).state ≠ .service) →
      exec (.rise ch x) s = .next s.fresh)

/-- PULSE, DOUSE and SNUFF by the state of the channel. PULSE is taken by a LAUNCH pump in DARK whose span is in PROBE in RUN and
refused otherwise; DOUSE ramps down, or holds a channel already at level 0; SNUFF darkens at once and restarts min-dark, with an
extra record for a used channel (R83, R85, R86, R87, R98). That PULSE drops the step of the tick in progress (log 4) and that DOUSE of a
pulse at level 0 leaves FALLING until the next step (log 36) are the model's readings. -/
def Obligations.PulseDouseSnuffByChannelState : Prop :=
  ∀ (s : State) (ch : Chan), s.pins.resetLine = false →
    let p := s.pump ch
    let hold : Pump :=
      { p with
        state := .darkHold, level := 0, target := none, rise := none, pulseLen := none, pulseCount := 0, darkLeft := p.minDark }
    (∀ level len : Nat, TickJob.link ch ∉ s.owed →
      if p.role = .launch ∧ s.part.run = true ∧ (s.st p.span).state = .probe ∧ p.state = .dark then
        exec (.pulse ch level len) s =
          .next ((s.fresh.setPump ch
            { p with state := .pulsing, level := min level p.ceiling, pulseLen := some len, pulseCount := 0 }).dropJob (.step ch))
      else exec (.pulse ch level len) s = .next s.fresh)
    ∧ (∃ t, exec (.douse ch) s = .next t ∧ { t with pumps := s.pumps, owed := s.owed } = s.fresh
        ∧ (∀ c, c ≠ ch → t.pump c = s.pump c)
        ∧ t.pump ch =
            match p.state with
            | .dark | .faulted => p
            | .darkHold => { p with rise := none }
            | .rising | .lit | .falling => if p.level = 0 then hold else { p with state := .falling, target := some 0 }
            | .pulsing => { p with state := .falling, target := some 0, pulseLen := none, pulseCount := 0 })
    ∧ (∃ t, exec (.snuff ch) s = .next t
        ∧ { t with pumps := s.pumps, owed := s.owed, out := [] } = s.fresh
        ∧ (∀ c, c ≠ ch → t.pump c = s.pump c) ∧ (t.pump ch = if p.state = .dark ∨ p.state = .faulted then p else hold)
        ∧ t.out = if p.role = .unused then [] else [.setpoint (setpointRecord ch (t.pump ch).level)])

/-! ### Monitor Unit -/

/-- A sample of any channel: its code is converted with the channel's offset and gain as they stand, exactly and rounded down, and the
power replaces the latest value; the channel is no longer stale and every other channel keeps its record. For a launch channel nothing
else changes (R58, R64, R65).
The converted power of any code, offset and gain lies between 0 and 16,776,704 (R64). -/
def Obligations.SampleConvertedExactly : Prop :=
  (∀ (s : State) (b0 b1 b2 : Byte) (ch : Chan), s.pins.resetLine = false → b0.toNat % 8 = ch.val →
       let code := b1.toNat * 256 + b2.toNat
       let net := if (s.chan ch).offset < code then code - (s.chan ch).offset else 0
       let taken := { s.chan ch with latest := net * (s.chan ch).gain / 256, fresh := 0, stale := false }
       (∃ t, exec (.sampleWord b0 b1 b2) s = .next t ∧ t.chan ch = taken ∧ ∀ m, m ≠ ch → t.chan m = s.chan m)
       ∧ (ch = 1 ∨ ch = 3 ∨ ch = 5 ∨ ch = 7 → exec (.sampleWord b0 b1 b2) s = .next (s.fresh.setChan ch taken)))
    ∧ ((∀ code offset gain : Nat, code ≤ 65535 → gain ≤ 65535 → convert code offset gain ≤ 16776704)
       ∧ convert 65535 0 65535 = 16776704)

/-- A sample of an input channel moves its light state and run by the tables of R66 and R67. The change is handed on (R68). In FRAME mode
a loss in SERVICE or CONFIRM raises SPAN_BREAK with the port SILENT, and SIGNAL_LOSS with it LIVE unless the far word has through-dark set
(R25, R26); in LIGHT mode a loss in SERVICE, CONFIRM or PROBE raises LIGHT_LOST and moves no span (R28), a return sets call pending in WAIT
(R49) and PRESENT proves a probe (R48), which ends in CONFIRM, or in SERVICE where every completion condition holds at once (log 22). In
RUN a loss sends DOUSE to the STAGE pumps of the input's direction, and a return sends them RISE where the span they launch into is in
CONFIRM or SERVICE (R92). That they take it in the very step of the sample, where R93 has a RISE sent and taken later, is the model's choice
(log 49), and so is that a change from FADING to PRESENT sends nothing, as R92 has it, where R29 reads otherwise (log 52). -/
def Obligations.LightStateMovesBySample : Prop :=
  ∀ (s : State) (b0 b1 b2 : Byte) (sp : Span), s.pins.resetLine = false → b0.toNat % 8 = (if sp = .ws then 0 else 4) →
    let ch : Chan := if sp = .ws then 0 else 4
    let power := (b1.toNat * 256 + b2.toNat - (s.chan ch).offset) * (s.chan ch).gain / 256
    let c := s.inp sp
    ∃ t, exec (.sampleWord b0 b1 b2) s = .next t
      ∧ t.chan ch = { s.chan ch with latest := power, fresh := 0, stale := false } ∧ (∀ m, m ≠ ch → t.chan m = s.chan m)
      ∧ t.inp sp.other = s.inp sp.other
      ∧ ((t.inp sp).light = c.light → { t with mon := s.mon, input := s.input } = s.fresh)
      ∧ t.inp sp =
          (match c.light with
          | .present =>
            if power < c.lo then
              (if c.nLoss ≤ 1 then { c with light := .absent, run := 0 } else { c with light := .fading, run := 1 })
            else c
          | .fading =>
            if power < c.lo then
              (if c.nLoss ≤ c.run + 1 then { c with light := .absent, run := 0 } else { c with run := c.run + 1 })
            else { c with light := .present, run := 0 }
          | .absent =>
            if c.hi ≤ power then
              (if c.nRest ≤ 1 then { c with light := .present, run := 0 } else { c with light := .returning, run := 1 })
            else c
          | .returning =>
            if c.hi ≤ power then
              (if c.nRest ≤ c.run + 1 then { c with light := .present, run := 0 } else { c with run := c.run + 1 })
            else { c with light := .absent, run := 0 })
      ∧ (let loss := (c.light = .present ∨ c.light = .fading) ∧ (t.inp sp).light = .absent
         let ret := (c.light = .absent ∨ c.light = .returning) ∧ (t.inp sp).light = .present
         let event := fun e : Event => s.raised ++ [⟨.engine sp, e, .one sp, .monitor ch, s.time.tickCount, false⟩]
         ((s.config sp).mode = .frame → (s.st sp).state = .service ∨ (s.st sp).state = .confirm → loss →
           if (s.line sp).live = false then event .spanBreak <+: t.raised
           else if ∃ w, (s.st sp).far = some w ∧ w.thruDark = true then ((s.st sp).state = .service → t.raised = s.raised)
           else event .signalLoss <+: t.raised)
         ∧ ((s.config sp).mode = .light →
           (s.st sp).state = .service ∨ (s.st sp).state = .confirm ∨ (s.st sp).state = .probe → loss →
           event .lightLost <+: t.raised ∧ t.st sp = s.st sp)
         ∧ ((s.config sp).mode = .light → (s.st sp).state = .probe → c.light ≠ .present → (t.inp sp).light = .present →
           (t.st sp).state = .confirm ∨ (t.st sp).state = .service)
         ∧ ((s.st sp).state = .wait →
           t.st sp =
             if (s.config sp).mode = .light ∧ ret then { s.st sp with callPending := true } else s.st sp)
         ∧ ∀ p, (s.pump p).role = .stage → (s.pump p).dir = (if sp = .ws then .eb else .wb) →
           t.pump p =
             if s.part.run = true ∧ ret ∧ ((s.st sp.other).state = .confirm ∨ (s.st sp.other).state = .service) then
               (s.pump p).takeRise (s.pump p).service
             else if s.part.run = true ∧ loss then (s.pump p).takeDouse
             else s.pump p)

/-- A sample of a reflection channel: one at or above the floor with REF * 1000 above OUT * k_ref raises the run; at n_ref REFLECT is
raised for the channel's span and the run returns to 0; any other sample sets the run to 0 (R74, R75). -/
def Obligations.ReflectionRunRaisesReflect : Prop :=
  ∀ (s : State) (b0 b1 b2 : Byte) (sp : Span), s.pins.resetLine = false → b0.toNat % 8 = (if sp = .ws then 6 else 2) →
    1 ≤ (s.reflection sp).nRef →
    let ch : Chan := if sp = .ws then 6 else 2
    let outCh : Chan := if sp = .ws then 5 else 1
    let ref := (b1.toNat * 256 + b2.toNat - (s.chan ch).offset) * (s.chan ch).gain / 256
    let out := if (s.chan outCh).stale then (s.chan outCh).substitute else (s.chan outCh).latest
    let c := s.reflection sp
    let counts := c.floor ≤ ref ∧ out * c.kRef < ref * 1000
    let alarm := counts ∧ c.nRef ≤ c.run + 1
    exec (.sampleWord b0 b1 b2) s =
      .next { (s.fresh.setChan ch { s.chan ch with latest := ref, fresh := 0, stale := false }).setReflection sp
          { c with run := if alarm then 0 else if counts then c.run + 1 else 0 } with
        raised := if alarm then s.raised ++ [⟨.monitorUnit, .reflect, .one sp, .monitor ch, s.time.tickCount, false⟩] else s.raised }

/-- A channel whose freshness count reaches its stale window becomes stale and raises MONITOR_STALE for its span; a launch channel
keeps its latest value, and a reflection channel's run is set to 0 (R69, R70, R73).
At each tick at which an input channel is stale, the one at which it becomes stale included, its light state advances as by a sample
below Lo and below Hi, the latest value being kept. A change is handed on: a loss in SERVICE or CONFIRM in FRAME mode with the port
SILENT raises SPAN_BREAK, and in RUN a loss sends DOUSE to the STAGE pumps of the input's direction (R71, R25, R68, R92). -/
def Obligations.SilentMonitorGoesStale : Prop :=
  (∀ (s : State) (ch : Chan), s.pins.resetLine = false → .monitor ch ∈ s.owed → (s.chan ch).stale = false →
       (s.chan ch).window ≤ min 255 ((s.chan ch).fresh + 1) →
       ∃ t, exec (.monitorStale ch) s = .next t
         ∧ t.chan ch = { s.chan ch with fresh := min 255 ((s.chan ch).fresh + 1), stale := true }
         ∧ (∀ c, c ≠ ch → t.chan c = s.chan c) ∧ .monitor ch ∉ t.owed
         ∧ (s.raised ++ [⟨.monitorUnit, .monitorStale, .one (if ch ∈ [0, 3, 5, 6] then .ws else .es), .monitor ch, s.time.tickCount, false⟩])
             <+: t.raised
         ∧ (ch = 6 → (t.reflection .ws).run = 0) ∧ (ch = 2 → (t.reflection .es).run = 0))
    ∧ (∀ (s : State) (sp : Span) (levels : BitVec 8), s.pins.resetLine = false → s.owed = [] →
       let ch : Chan := if sp = .ws then 0 else 4
       let n := min 255 ((s.chan ch).fresh + 1)
       (s.chan ch).stale = true ∨ (s.chan ch).window ≤ n →
       let c := s.inp sp
       ∃ t, exec (.tick levels [.monitor ch]) s = .next t
         ∧ t.chan ch = { s.chan ch with fresh := n, stale := true } ∧ (∀ m, m ≠ ch → t.chan m = s.chan m)
         ∧ t.inp sp.other = s.inp sp.other
         ∧ t.inp sp =
             (match c.light with
             | .present => if c.nLoss ≤ 1 then { c with light := .absent, run := 0 } else { c with light := .fading, run := 1 }
             | .fading => if c.nLoss ≤ c.run + 1 then { c with light := .absent, run := 0 } else { c with run := c.run + 1 }
             | .absent => c
             | .returning => { c with light := .absent, run := 0 })
         ∧ (let stales := s.raised
              ++ (if (s.chan ch).stale = true then []
                else [⟨.monitorUnit, .monitorStale, .one sp, .monitor ch, s.time.tickCount + 1, false⟩])
            let loss := (c.light = .present ∨ c.light = .fading) ∧ (t.inp sp).light = .absent
            stales <+: t.raised
              ∧ ((t.inp sp).light = c.light →
                  t.raised = stales
                    ∧ { t with mon := s.mon, input := s.input, raised := s.raised, time := s.time, pins := s.pins, owed := s.owed }
                      = s.fresh)
              ∧ ((s.config sp).mode = .frame → (s.st sp).state = .service ∨ (s.st sp).state = .confirm → (s.line sp).live = false →
                  loss → (stales ++ [⟨.engine sp, .spanBreak, .one sp, .monitor ch, s.time.tickCount + 1, false⟩]) <+: t.raised)
              ∧ (s.part.run = true → loss → ∀ p, (s.pump p).role = .stage → (s.pump p).dir = (if sp = .ws then .eb else .wb) →
                  t.pump p = (s.pump p).takeDouse)))

/-! ### Supply Monitor -/

/-- A fall of the supply-good line outside LOW darkens every channel, enters LOW with the count at 0 and raises SUPPLY_LOW for both
spans; a rise in LOW enters SETTLING with the count at 0, which a tick given before it does not raise (R135, R136, R146).
The settle count that reaches the settle time enters GOOD, and SUPPLY_LOW leaves both cause sets with no event; a tick in SETTLING that leaves
the count below the settle time raises it by one and nothing else changes, and out of SETTLING a tick counts nothing (R136). -/
def Obligations.SupplyStatesFollowLine : Prop :=
  (∀ s : State, s.pins.resetLine = false →
       (s.supply.state ≠ .low →
         ∃ t, exec .supplyGoodFall s = .next t ∧ t.supply = ⟨.low, 0⟩ ∧ t.pins = { s.pins with supplyGood := false }
           ∧ (∀ ch, (t.pump ch).state.isDark = true ∧ (t.pump ch).rise = if (s.pump ch).state.isDark = true
                 ∧ (s.pump ch).state ≠ .darkHold then (s.pump ch).rise else none)
           ∧ t.raised = s.raised ++ [⟨.supplyMonitor, .supplyLow, .both, .none_, s.time.tickCount, false⟩]
           ∧ { t with
               pumps := s.pumps, supply := s.supply, pins := s.pins, raised := s.raised, owed := s.owed, out := [] } = s.fresh)
       ∧ (s.supply.state = .low →
         exec .supplyGoodRise s =
           .next ({ s.fresh with pins := { s.pins with supplyGood := true }, supply := ⟨.settling, 0⟩ }.dropJob .settle)))
    ∧ (∀ s : State, s.pins.resetLine = false → .settle ∈ s.owed → s.supply.state = .settling →
       s.part.settleTime ≤ s.supply.count + 1 →
       let released := fun sp : Span =>
         { s.st sp with causes := (s.st sp).causes.filter fun e => e ≠ .supplyLow, entrySupply := false }
       exec .settleEnd s =
         .next { s.fresh.dropJob .settle with
           supply := ⟨.good, s.supply.count + 1⟩
           status := ⟨released .ws, released .es⟩ })
    ∧ (∀ (levels : BitVec 8) (s : State), s.pins.resetLine = false → s.owed = [] →
       let taken := (s.ticked levels).dropJob .settle
       (s.supply.state = .settling → s.supply.count + 1 < s.part.settleTime →
         exec (.tick levels [.settle]) s = .next { taken with supply := ⟨.settling, s.supply.count + 1⟩ })
       ∧ (s.supply.state ≠ .settling → exec (.tick levels [.settle]) s = .next taken))

/-! ### Event Unit -/

/-- A SHUT_SPAN action in RUN trips a span in PROBE, CONFIRM or SERVICE to SHUT (LIGHT_LOST does not trip PROBE): the cause is in the
set, unless it is a standing one whose condition has ended, the line goes off, ticks in state restarts, every pump that lights the
span is dark, and the other span and its pumps are untouched (R10, R14, R15, R18, R152). A span in WAIT, SHUT, LOCKED or MAINT, and one
in PROBE for LIGHT_LOST, takes the cause, with which the entry report of that cause ends (R10), and keeps every other field of its record;
a span in UNUSED ignores the action and keeps all of it (R14).
A LOCK_SPAN action takes a span that is not in UNUSED to LOCKED with the cause added: from another state its line goes off and LOCKOUT is raised,
and from PROBE, CONFIRM and SERVICE every pump that lights it is dark (R16).
A span in UNUSED ignores it (R16). A SHUT_SPAN or LOCK_SPAN action of an event raised for both spans reaches each span so, WS first
(R156), with LOCKOUT for WS and then ES where both are locked (R158); that the second waits for the first is kept in `second` (log 12).
With the notify flag set, each span that adds the identifier newly, or has its entry report flag for it set, gets one notice with its
state and cause set after the action, WS first, and no other span gets one (R10, R160). A notice built while 32 wait is lost, which marks
the newest (R162). -/
def Obligations.ShutSpanTripsLitSpan : Prop :=
  (∀ (s : State) (sp : Span) (ev : Raised) (rest : List Raised), s.pins.resetLine = false → s.part.run = true →
       s.raised = ev :: rest → ev.span = .one sp → s.actionOf ev.event = .shutSpan → (s.st sp).state.lit = true →
       ¬ ((s.st sp).state = .probe ∧ ev.event = .lightLost) →
       ∃ t, exec (.eventTaken ev.src) s = .next t
         ∧ (t.st sp).state = .shut ∧ (t.st sp).ticks = 0 ∧ (t.st sp).darkFailRaised = false ∧ t.pins.spanEn.get sp = false
         ∧ (∀ e, e ∈ (t.st sp).causes ↔
             if e = ev.event then s.stands sp e = true else e ∈ (s.st sp).causes)
         ∧ t.raised = rest ∧ t.st sp.other = s.st sp.other
         ∧ (∀ ch, (s.pump ch).lights = some sp → (t.pump ch).state.isDark = true)
         ∧ (∀ ch, (s.pump ch).lights ≠ some sp → t.pump ch = s.pump ch)
         ∧ { t with
             status := s.status, pumps := s.pumps, pins := s.pins, raised := s.raised, notices := s.notices, lines := s.lines
             localPort := s.localPort, owed := s.owed, out := [] } = s.fresh)
    ∧ (∀ (s : State) (sp : Span) (ev : Raised) (rest : List Raised), s.pins.resetLine = false → s.part.run = true →
       s.raised = ev :: rest → ev.span = .one sp → s.actionOf ev.event = .shutSpan →
       (s.st sp).state.lit = false ∨ ((s.st sp).state = .probe ∧ ev.event = .lightLost) →
       ∃ t, exec (.eventTaken ev.src) s = .next t
         ∧ t.st sp =
             (if (s.st sp).state = .unused then s.st sp
             else
               { s.st sp with
                 causes := (t.st sp).causes, entryInterlock := (s.st sp).entryInterlock && decide (ev.event ≠ .interlock)
                 entrySupply := (s.st sp).entrySupply && decide (ev.event ≠ .supplyLow) })
         ∧ (∀ e, e ∈ (t.st sp).causes ↔
             if e = ev.event ∧ (s.st sp).state ≠ .unused then s.stands sp e = true else e ∈ (s.st sp).causes)
         ∧ t.raised = rest ∧ t.st sp.other = s.st sp.other
         ∧ { t with
             status := s.status, raised := s.raised, notices := s.notices, lines := s.lines, localPort := s.localPort } = s.fresh)
    ∧ (∀ (s : State) (sp : Span) (ev : Raised) (rest : List Raised), s.pins.resetLine = false → s.part.run = true →
       s.raised = ev :: rest → ev.span = .one sp → s.actionOf ev.event = .lockSpan → (s.st sp).state ≠ .unused →
       ∃ t, exec (.eventTaken ev.src) s = .next t
         ∧ (t.st sp).state = .locked ∧ (t.st sp).failures = (s.st sp).failures
         ∧ (∀ e, e ∈ (t.st sp).causes ↔ if e = ev.event then s.stands sp e = true else e ∈ (s.st sp).causes)
         ∧ ((s.st sp).state ≠ .locked → t.pins.spanEn.get sp = false)
         ∧ t.raised = rest ++ (if (s.st sp).state = .locked then []
             else [⟨.engine sp, .lockout, .one sp, .none_, s.time.tickCount, false⟩])
         ∧ t.st sp.other = s.st sp.other
         ∧ ((s.st sp).state.lit = true → ∀ ch, (s.pump ch).lights = some sp → (t.pump ch).state.isDark = true)
         ∧ (∀ ch, (s.pump ch).lights ≠ some sp ∨ (s.st sp).state.lit = false → t.pump ch = s.pump ch)
         ∧ { t with
             status := s.status, pumps := s.pumps, pins := s.pins, raised := s.raised, notices := s.notices, lines := s.lines
             localPort := s.localPort, owed := s.owed, out := [] } = s.fresh)
    ∧ (∀ (s : State) (ev : Raised) (rest : List Raised), s.pins.resetLine = false → s.part.run = true →
       s.raised = ev :: rest → ev.span = .both → s.actionOf ev.event = .shutSpan → ev.event ≠ .lightLost →
       ∃ t, exec (.eventTaken ev.src) s = .next t ∧ t.raised = rest
         ∧ (∀ sp, (t.st sp).state = (if (s.st sp).state.lit = true then .shut else (s.st sp).state)
             ∧ ((s.st sp).state.lit = false → (s.st sp).state ≠ .unused → t.st sp =
                 { s.st sp with
                   causes := (t.st sp).causes, entryInterlock := (s.st sp).entryInterlock && decide (ev.event ≠ .interlock)
                   entrySupply := (s.st sp).entrySupply && decide (ev.event ≠ .supplyLow) })
             ∧ ((s.st sp).state = .unused → t.st sp = s.st sp)
             ∧ (∀ e, e ∈ (t.st sp).causes ↔
                 if e = ev.event ∧ (s.st sp).state ≠ .unused then s.stands sp e = true else e ∈ (s.st sp).causes)
             ∧ ((s.st sp).state.lit = true → t.pins.spanEn.get sp = false
                 ∧ ∀ ch, (s.pump ch).lights = some sp → (t.pump ch).state.isDark = true))
         ∧ { t with
             status := s.status, pumps := s.pumps, pins := s.pins, raised := s.raised, notices := s.notices, lines := s.lines
             localPort := s.localPort, owed := s.owed, out := [] } = s.fresh)
    ∧ (∀ (s : State) (sp : Span) (ev : Raised) (rest : List Raised), s.pins.resetLine = false → s.part.run = true →
       s.raised = ev :: rest → ev.span = .one sp → s.actionOf ev.event = .lockSpan → (s.st sp).state = .unused →
       exec (.eventTaken ev.src) s = .next { s.fresh with raised := rest })
    ∧ (∀ (s : State) (ev : Raised) (rest : List Raised), s.pins.resetLine = false → s.part.run = true →
       s.raised = ev :: rest → ev.span = .both → s.actionOf ev.event = .lockSpan →
       let locks := fun x : Span => (s.st x).state ≠ .unused ∧ (s.st x).state ≠ .locked
       ∃ t, exec (.eventTaken ev.src) s = .next t
         ∧ t.raised = rest
             ++ (if locks .ws then [⟨.engine .ws, .lockout, .one .ws, .none_, s.time.tickCount, false⟩] else [])
             ++ (if locks .es then [⟨.engine .es, .lockout, .one .es, .none_, s.time.tickCount, decide (locks .ws)⟩] else [])
         ∧ (∀ sp, (t.st sp).state = (if (s.st sp).state = .unused then .unused else .locked)
             ∧ (t.st sp).failures = (s.st sp).failures
             ∧ ((s.st sp).state = .unused → t.st sp = s.st sp)
             ∧ (∀ e, e ∈ (t.st sp).causes ↔
                 if e = ev.event ∧ (s.st sp).state ≠ .unused then s.stands sp e = true else e ∈ (s.st sp).causes)
             ∧ (locks sp → t.pins.spanEn.get sp = false)
             ∧ ((s.st sp).state.lit = true → ∀ ch, (s.pump ch).lights = some sp → (t.pump ch).state.isDark = true))
         ∧ (∀ ch, (∀ sp, (s.pump ch).lights = some sp → (s.st sp).state.lit = false) → t.pump ch = s.pump ch)
         ∧ { t with
             status := s.status, pumps := s.pumps, pins := s.pins, raised := s.raised, notices := s.notices, lines := s.lines
             localPort := s.localPort, owed := s.owed, out := [] } = s.fresh)
    ∧ (∀ (s : State) (ev : Raised) (rest : List Raised), s.pins.resetLine = false → s.part.run = true →
       s.raised = ev :: rest → ev.span ≠ .none_ → s.actionOf ev.event = .shutSpan ∨ s.actionOf ev.event = .lockSpan →
       let spans : List Span := match ev.span with
         | .one sp => [sp]
         | .both => [.ws, .es]
         | .none_ => []
       let told := if s.notifyOf ev.event = true then spans.filter fun sp => s.addsNewly sp ev.event else []
       let waiting := (s.base s.part.noticePort).queue.length
       ∃ t, exec (.eventTaken ev.src) s = .next t
         ∧ (s.notices = [] → waiting + told.length ≤ 8 → s.HasSent t (told.map fun sp => s.noticeAbout ev sp (t.st sp)))
         ∧ (s.notices.length = 32 → 8 ≤ waiting →
           t.notices =
               (if told = [] then s.notices
                else s.notices.take 31 ++ (s.notices.drop 31).map fun n => { n with moreLost := true })
             ∧ t.lines = s.lines ∧ t.localPort = s.localPort))

/-- A SNUFF_ALL action in RUN darkens every channel and takes every span that is not in UNUSED to LOCKED with the identifier in its cause
set, unless it is a standing cause whose condition does not stand for that span (log 43), with both lines off; LOCKOUT is raised for each
span that enters LOCKED, first for the span the action reaches first (R17, R156, R157, R158). That the second of two such LOCKOUT events
waits for the first is kept in the field `second` (log 12). With the notify flag set, each span that adds the identifier newly, or has its
entry report flag for it set, gets one notice with its state and cause set after the action, the span reached first before the other, and
no other span gets one (R10, R17, R160). -/
def Obligations.SnuffAllLocksEverySpan : Prop :=
  ∀ (s : State) (sp : Span) (ev : Raised) (rest : List Raised), s.pins.resetLine = false → s.part.run = true → s.LinesFollow →
    s.raised = ev :: rest → ev.span = .one sp ∨ (ev.span = .both ∧ sp = .ws) → s.actionOf ev.event = .snuffAll →
    let locks := fun x : Span => (s.st x).state ≠ .unused ∧ (s.st x).state ≠ .locked
    let told := if s.notifyOf ev.event = true then [sp, sp.other].filter fun x => s.addsNewly x ev.event else []
    ∃ t, exec (.eventTaken ev.src) s = .next t ∧ (∀ ch, (t.pump ch).state.isDark = true)
      ∧ t.pins = { s.pins with spanEn := ⟨false, false⟩ }
      ∧ (∀ x, (t.st x).state = if (s.st x).state = .unused then .unused else .locked)
      ∧ (∀ x e, e ∈ (t.st x).causes ↔
          if e = ev.event ∧ (s.st x).state ≠ .unused then s.stands x e = true else e ∈ (s.st x).causes)
      ∧ t.raised = rest
          ++ (if locks sp then [⟨.engine sp, .lockout, .one sp, .none_, s.time.tickCount, false⟩] else [])
          ++ (if locks sp.other then
                [⟨.engine sp.other, .lockout, .one sp.other, .none_, s.time.tickCount, decide (locks sp)⟩] else [])
      ∧ (s.notices = [] → (s.base s.part.noticePort).queue.length + told.length ≤ 8 →
          s.HasSent t (told.map fun x => s.noticeAbout ev x (t.st x)))
      ∧ { t with
          status := s.status, pumps := s.pumps, pins := s.pins, raised := s.raised, notices := s.notices, lines := s.lines
          localPort := s.localPort, owed := s.owed, out := [] } = s.fresh

/-- The Event Unit takes the oldest raised event of the block that EVENT_TAKEN names, wherever it stands behind events of other blocks: it is
taken as if it stood first, and the events before and after it keep their order (R149). A block with no event raised has none taken, and nothing
changes (R149). The second LOCKOUT of one action waits: while a LOCKOUT of another block stands before it, a taking of its block's oldest event
changes nothing (R158; the mark `second` is the model's, log 12).
The action and notify flag of an event are those of its table entry where its identifier is below the table length, and else its floor
with notify set (R150, R152).
A NOTE action, an event raised for no span, and any event taken in STANDBY, changes no span: the event is gone, and where its notify
flag is set notices of 13 bytes leave for the head-end site: one with the span's state and cause set for each span the event is raised
for, WS first, or one with span none (R13, R154, R159, R160, R163, R195). -/
def Obligations.NoteActionOnlyNotifies : Prop :=
  (∀ s : State, s.pins.resetLine = false →
    (∀ b : Block, (∀ e ∈ s.raised, e.src ≠ b) → exec (.eventTaken b) s = .next s.fresh)
      ∧ (∀ (ev : Raised) (before rest : List Raised), s.raised = before ++ ev :: rest → (∀ e ∈ before, e.src ≠ ev.src) →
        (ev.second = true → ∀ e ∈ before, e.event ≠ .lockout) →
        exec (.eventTaken ev.src) s = exec (.eventTaken ev.src) { s with raised := ev :: (before ++ rest) })
      ∧ (∀ (ev first : Raised) (before rest : List Raised), s.raised = before ++ ev :: rest → (∀ e ∈ before, e.src ≠ ev.src) →
        ev.second = true → first ∈ before → first.event = .lockout → exec (.eventTaken ev.src) s = .next s.fresh))
    ∧ (∀ (s : State) (e : Event),
    (e.id < s.tableLen → s.table[e.id]? = some ⟨s.actionOf e, s.notifyOf e⟩)
      ∧ (s.tableLen ≤ e.id → s.notifyOf e = true ∧ s.actionOf e =
          match e with
          | .darkFail => .snuffAll
          | .signalLoss | .framesLost | .driverFault | .neighbourMismatch | .monitorStale | .probeFailed | .lockout | .serviceRestored
          | .partState => .note
          | .lightLost | .spanBreak | .farShut | .reflect | .interlock | .supplyLow | .manualHold | .exposure | .probeOvershoot
          | .confirmTimeout | .driverLost => .shutSpan))
    ∧ (∀ (s : State) (ev : Raised) (rest : List Raised), s.pins.resetLine = false → s.raised = ev :: rest → s.notices = [] →
       let about := fun sp : Span => s.noticeAbout ev sp (s.st sp)
       let port := s.part.noticePort
       let waiting := (s.base port).queue.length
       let taken := { s.fresh with raised := rest }
       let only := s.actionOf ev.event = .note ∨ s.part.run = false
       (∀ sp, ev.span = .one sp → only → waiting + 1 ≤ 8 →
         exec (.eventTaken ev.src) s = .next (if s.notifyOf ev.event then taken.toLocalQueue port (about sp) else taken))
       ∧ (ev.span = .both → only → waiting + 2 ≤ 8 →
         exec (.eventTaken ev.src) s =
           .next (if s.notifyOf ev.event then (taken.toLocalQueue port (about .ws)).toLocalQueue port (about .es) else taken))
       ∧ (ev.span = .none_ → waiting + 1 ≤ 8 →
         exec (.eventTaken ev.src) s = .next (if s.notifyOf ev.event then taken.toLocalQueue port (s.noticeOf ev 255 255 0) else taken)))

/-- As many notices as the notice port's local queue has room for leave the notice queue, oldest first, each as the NOTICE message of
that moment; nothing else changes (R163).
While that local queue is full, an event that only notifies puts its notices at the newest end of the notice queue, with more lost clear,
as far as it holds fewer than 32 (R159, R161). A notice built while it holds 32 is discarded, and the newest notice that waits, be it the
notice of the same event for WS, is marked more lost; nothing else keeps a trace of it (R162). -/
def Obligations.NoticesDepartOldestFirst : Prop :=
  (∀ s : State, s.pins.resetLine = false →
    let p := s.part.noticePort
    let k := min (8 - (s.base p).queue.length) s.notices.length
    exec .noticeDeparture s =
      .next ({ s.fresh with notices := s.notices.drop k }.setBase p
        { s.base p with queue := (s.base p).queue ++ (s.notices.take k).map (noticeMsg s) }))
    ∧ (∀ (s : State) (ev : Raised) (rest : List Raised), s.pins.resetLine = false → s.raised = ev :: rest →
       8 ≤ (s.base s.part.noticePort).queue.length → s.notifyOf ev.event = true →
       s.actionOf ev.event = .note ∨ s.part.run = false ∨ ev.span = .none_ →
       let about := fun sp : Span =>
         (⟨ev.event, ev.subject, some (sp, (s.st sp).state, (s.st sp).causes), ev.stamp, false⟩ : Notice)
       let built : List Notice := match ev.span with
         | .one sp => [about sp]
         | .both => [about .ws, about .es]
         | .none_ => [⟨ev.event, ev.subject, none, ev.stamp, false⟩]
       let waits := fun notices : List Notice => Host.Outcome.next (φ := Fault) (ρ := Refusal) { s.fresh with raised := rest, notices := notices }
       (s.notices.length + built.length ≤ 32 → exec (.eventTaken ev.src) s = waits (s.notices ++ built))
       ∧ (s.notices.length = 31 → ev.span = .both →
         exec (.eventTaken ev.src) s = waits (s.notices ++ [{ about .ws with moreLost := true }]))
       ∧ (s.notices.length = 32 →
         exec (.eventTaken ev.src) s =
           waits (s.notices.take 31 ++ (s.notices.drop 31).map fun n => { n with moreLost := true })))

/-! ### Management requests -/

/-- A READ of a record is answered DONE with the record's kind, target and items, one outside the lists RANGE, and changes nothing but
the local queue of its port (R172, R179, R180). The items of every record carry its fields by code, width and value, an absent field
being left out (R2, R5, R76, R96, R123, R133, R165, R194). An unknown kind is answered UNKNOWN (R172). The order of the items (log 18) and
RANGE for a target of a record kind that has none (log 19) are the model's choices. -/
def Obligations.ReadAnswersAndChangesNothing : Prop :=
  ∀ (s : State) (r : Req) (k n : Byte), s.pins.resetLine = false →
    let fields := fun l : List (Nat × Nat × Nat) => l.flatMap fun f => BitVec.ofNat 8 f.1 :: beBytes f.2.1 f.2.2
    let yes := fun b : Bool => if b then 1 else 0
    let opt := fun (code width : Nat) (v : Option Nat) => match v with
      | some x => [(code, width, x)]
      | none => []
    (r.body = [k, n] →
      exec (.read r) s =
        .next (match recordItems k.toNat n.toNat s with
          | some items => s.fresh.replied r 1 0 (k :: n :: items)
          | none => s.fresh.replied r 1 5 []))
    ∧ (9 < k.toNat ∨ (k.toNat ≤ 1 ∧ 1 < n.toNat) ∨ ((k = 2 ∨ k = 3 ∨ k = 6) ∧ 7 < n.toNat) ∨ (k = 4 ∧ 31 < n.toNat)
        ∨ (k = 7 ∧ 2 < n.toNat) ∨ ((k = 5 ∨ k = 8 ∨ k = 9) ∧ 0 < n.toNat) → recordItems k.toNat n.toNat s = none)
    ∧ (∀ sp : Span,
      let target := if sp = .ws then 0 else 1
      let c := s.config sp
      let x := s.st sp
      let l := s.line sp
      recordItems 0 target s =
          some (fields [(1, 1, yes c.present), (2, 2, c.neighbour.toNat), (3, 1, if c.mode = .frame then 0 else 1), (4, 1, c.duration),
            (5, 4, c.ceiling), (6, 2, c.window), (7, 5, c.limit), (8, 1, c.lockout), (9, 3, c.darkTolerance), (10, 2, c.darkTimeout),
            (11, 1, c.offStage), (12, 1, c.offCount), (13, 1, c.grace), (14, 2, c.confirmTimeout), (15, 1, c.silenceStage),
            (16, 1, c.silenceCount)])
        ∧ recordItems 1 target s =
          some (fields ([(1, 1, x.state.code), (2, 3, (x.causes.map fun e => 2 ^ e.id).sum), (3, 1, x.failures), (4, 1, x.tag.toNat),
              (5, 1, yes x.callPending), (6, 1, x.offTicks), (7, 1, yes x.offExpired), (8, 2, x.ticks)]
            ++ opt 9 4 (x.far.map fun w => headNat w 0)
            ++ [(10, 5, ((s.slots sp).take c.window).sum), (11, 4, (s.slots sp).getD (c.window - 1) 0)]))
        ∧ recordItems 7 target s =
          some (fields [(1, 1, yes (!l.live)), (2, 1, l.silence), (3, 1, yes l.mismatch), (4, 1, l.loop.code), (5, 2, l.base.accepted),
            (6, 2, l.base.discarded), (7, 1, l.forward.length), (8, 1, l.base.queue.length),
            (9, 1, if l.served = .forward then 0 else 1)]))
    ∧ recordItems 7 2 s =
        some (fields [(5, 2, s.localPort.accepted), (6, 2, s.localPort.discarded), (8, 1, s.localPort.queue.length)])
    ∧ (∀ ch : Chan,
      let p := s.pump ch
      let c := s.chan ch
      let table := [(1, 2, c.offset), (2, 2, c.gain), (3, 1, c.window), (4, 3, c.substitute)]
      let record := [(12, 3, c.latest), (13, 1, c.fresh), (14, 1, yes c.stale)]
      recordItems 2 ch.val s =
          some (fields ([(1, 1, p.role.code), (2, 1, if p.span = .ws then 0 else 1), (3, 1, if p.dir = .eb then 0 else 1),
              (4, 2, p.ceiling), (5, 2, p.service), (6, 2, p.probe), (7, 2, p.up), (8, 2, p.down), (9, 2, p.minDark),
              (10, 1, p.state.code), (11, 2, p.level)] ++ opt 12 2 p.target ++ opt 13 2 p.rise ++ opt 14 1 p.pulseLen
            ++ [(15, 1, p.pulseCount), (16, 2, p.darkLeft), (17, 1, p.noReply)]))
        ∧ recordItems 3 ch.val s =
          some (fields
            (if ch = 0 ∨ ch = 4 then
              let i := s.inp (if ch = 0 then .ws else .es)
              table ++ [(5, 3, i.lo), (6, 3, i.hi), (7, 1, i.nLoss), (8, 1, i.nRest)] ++ record
                ++ [(15, 1, i.light.code), (16, 1, i.run)]
            else if ch = 2 ∨ ch = 6 then
              let f := s.reflection (if ch = 6 then .ws else .es)
              table ++ [(9, 3, f.floor), (10, 2, f.kRef), (11, 1, f.nRef)] ++ record ++ [(17, 1, f.run)]
            else table ++ record)))
    ∧ (∀ e : Event,
      let entry := s.entry e.id
      recordItems 4 e.id s =
        some (fields [(1, 1, entry.action.code), (2, 1, yes entry.notify), (3, 1, e.floor.code), (4, 1, yes e.fixed),
          (5, 1, yes e.forced), (6, 1, yes (decide (e.id < s.tableLen)))]))
    ∧ (∀ id, 21 ≤ id → id < 32 →
      recordItems 4 id s =
        some (fields [(1, 1, (s.entry id).action.code), (2, 1, yes (s.entry id).notify), (3, 1, 0), (4, 1, 0), (5, 1, 0),
          (6, 1, yes (decide (id < s.tableLen)))]))
    ∧ recordItems 5 0 s = some (fields [(1, 1, s.notices.length), (2, 1, s.tableLen)])
    ∧ (∀ ch : Chan,
      let l := s.ilLine ch
      recordItems 6 ch.val s =
        some (match l.observed with
          | some high =>
            [1, BitVec.ofNat 8 l.assign.code, 2, BitVec.ofNat 8 l.sense.code, 3, if high then 1 else 0, 4, if l.latched then 1 else 0,
             5, if l.active then 1 else 0]
          | none =>
            [1, BitVec.ofNat 8 l.assign.code, 2, BitVec.ofNat 8 l.sense.code, 4, if l.latched then 1 else 0, 5,
             if l.active then 1 else 0]))
    ∧ recordItems 8 0 s =
        some (fields [(1, 1, yes s.part.run), (2, 2, s.part.site.toNat), (3, 2, s.part.headEnd.toNat), (4, 1, portCode s.part.noticePort),
          (5, 1, s.part.classMin), (6, 2, s.part.settleTime), (7, 1, s.supply.state.code), (8, 2, s.supply.count),
          (9, 4, s.time.tickCount.toNat), (10, 1, yes s.hold.ws), (11, 1, yes s.hold.es)])
    ∧ recordItems 9 0 s =
        some (fields [(1, 4, ((List.range 27).map fun i => if s.grants.map.toList.getD i false then 2 ^ i else 0).sum),
          (2, 1, s.grants.length), (3, 1, s.grants.safety)])
    ∧ (∀ kind : BitVec 5, kind = 0 ∨ (18 < kind.toNat ∧ kind.toNat < 30) →
      exec (.unknownRequest kind r) s = .next (s.fresh.replied r (BitVec.ofNat 8 kind.toNat) 7 []))

/-- WRITE_SPAN of one field, of a class with every right, by the checks of R3 on the record as it would stand. It is refused with RANGE where the
value lies outside its range, where T would reach W and where C * T would exceed Lx. Else it is refused with STATE where it changes T, C, W,
Lx or restart mode in PROBE or CONFIRM, where it changes present in PROBE, CONFIRM or SERVICE or to no in SHUT, and where it carries a
nonzero lockout limit at or below the failure count for a span that is not in LOCKED, also the limit held (the model's reading, log 39).
Else the value is stored and answered DONE, and nothing else changes but this (R3, R4): a changed neighbour site makes the far word absent
and mismatch reported no (R109, R110); a changed off stage sets the off-timer count to 0 and a changed silence stage the port's silence
count, off expired and the receiver state standing (R20, R145); a changed restart mode of a span in SERVICE whose input is ABSENT raises
SPAN_BREAK at the write where the mode is now FRAME and the port SILENT, and LIGHT_LOST where it is now LIGHT (R4, R25, R28). Present is
only stored in STANDBY (R4).
A write of present to yes in RUN takes a span out of UNUSED: to WAIT with off expired clear, or to MAINT where its port is in a loop
mode, with the standing conditions that stand in its cause set and the entry report flag of each set; INTERLOCK is raised for the span with
the lowest-numbered active line that guards it as the subject, and SUPPLY_LOW for the span (R5, R132, R137). A write to no takes a span
in WAIT, LOCKED or MAINT back, and raises nothing (R4, R9, R20). -/
def Obligations.WriteSpanTakesEffect : Prop :=
  (∀ (s : State) (r : Req) (sp : Span) (code width lo hi : Nat) (c' : SpanConfig) (bytes : List Byte), s.pins.resetLine = false →
       s.classUsed r = 0 →
       let c := s.config sp
       let x := s.st sp
       let v := beNat bytes
       (code, width, lo, hi, c') ∈ c.numbered v →
       bytes.length = width → r.body = (if sp = .ws then 0 else 1) :: BitVec.ofNat 8 code :: bytes →
       let stored := s.fresh.setConfig sp c'
       exec (.writeSpan r) s =
         .next
           (if v < lo ∨ hi < v ∨ c'.window ≤ c'.duration ∨ c'.limit < c'.ceiling * c'.duration then s.fresh.replied r 2 5 []
            else if (code ∈ [4, 5, 6, 7] ∧ c' ≠ c ∧ (x.state = .probe ∨ x.state = .confirm))
                ∨ (code = 8 ∧ 0 < v ∧ v ≤ x.failures ∧ x.state ≠ .locked) then s.fresh.replied r 2 4 []
            else
              (if code = 2 ∧ c' ≠ c then (stored.setSt sp { x with far := none }).setLine sp { s.line sp with mismatch := false }
               else if code = 11 ∧ c' ≠ c then stored.setSt sp { x with offTicks := 0 }
               else if code = 15 ∧ c' ≠ c then stored.setLine sp { s.line sp with silence := 0 }
               else stored).replied r 2 0 []))
    ∧ (∀ (s : State) (r : Req) (sp : Span) (v : Byte), s.pins.resetLine = false → s.classUsed r = 0 →
       let t : Byte := if sp = .ws then 0 else 1
       let c := s.config sp
       let x := s.st sp
       (1 < v.toNat → r.body = [t, 1, v] ∨ r.body = [t, 3, v] → exec (.writeSpan r) s = .next (s.fresh.replied r 2 5 []))
       ∧ (v.toNat ≤ 1 → c.duration < c.window → c.ceiling * c.duration ≤ c.limit →
         let now := decide (v = 1)
         let mode : RestartMode := if v = 1 then .light else .frame
         let lost : List Raised :=
           if x.state = .service ∧ (s.inp sp).light = .absent ∧ (mode = .frame → (s.line sp).live = false) then
             [⟨.engine sp, if mode = .frame then .spanBreak else .lightLost, .one sp, .monitor (if sp = .ws then 0 else 4), s.time.tickCount,
               false⟩]
           else []
         let barred := x.state = .probe ∨ x.state = .confirm
         (r.body = [t, 3, v] →
           exec (.writeSpan r) s =
             .next
               (if mode = c.mode then s.fresh.replied r 2 0 []
                else if barred then s.fresh.replied r 2 4 []
                else State.replied { s.fresh.setConfig sp { c with mode := mode } with raised := s.raised ++ lost } r 2 0 []))
         ∧ (r.body = [t, 1, v] →
           (now = c.present → exec (.writeSpan r) s = .next (s.fresh.replied r 2 0 []))
           ∧ (now ≠ c.present → barred ∨ x.state = .service ∨ (now = false ∧ x.state = .shut) →
             exec (.writeSpan r) s = .next (s.fresh.replied r 2 4 []))
           ∧ (now ≠ c.present → ¬ barred → x.state ≠ .service → now = true ∨ x.state ≠ .shut → s.part.run = false →
             exec (.writeSpan r) s = .next ((s.fresh.setConfig sp { c with present := now }).replied r 2 0 [])))))
    ∧ (∀ (s : State) (r : Req) (sp : Span), s.pins.resetLine = false → s.classUsed r = 0 → s.part.run = true →
       (s.config sp).duration < (s.config sp).window → (s.config sp).ceiling * (s.config sp).duration ≤ (s.config sp).limit →
       let t0 : Byte := if sp = .ws then 0 else 1
       (r.body = [t0, 1, 1] → (s.config sp).present = false → (s.st sp).state = .unused →
         ∃ t, exec (.writeSpan r) s = .next t ∧ (t.config sp).present = true
           ∧ (t.st sp).state = (if (s.line sp).loop = .normal then .wait else .maint) ∧ (t.st sp).offExpired = false
           ∧ (t.st sp).entryInterlock = ((s.st sp).entryInterlock || s.interlocked sp)
           ∧ (t.st sp).entrySupply = ((s.st sp).entrySupply || decide (s.supply.state ≠ .good))
           ∧ t.raised = s.raised
               ++ (match ([0, 1, 2, 3, 4, 5, 6, 7] : List Chan).find? fun n => (s.ilLine n).guards sp with
                | some n => [⟨.interlockUnit, .interlock, .one sp, .line n, s.time.tickCount, false⟩]
                | none => [])
               ++ (if s.supply.state ≠ .good then [⟨.supplyMonitor, .supplyLow, .one sp, .none_, s.time.tickCount, false⟩] else [])
           ∧ (∀ e : Event, e ∈ (t.st sp).causes ↔
               e ∈ (s.st sp).causes ∨ (e = .interlock ∧ s.interlocked sp = true) ∨ (e = .supplyLow ∧ s.supply.state ≠ .good))
           ∧ t.st sp.other = s.st sp.other
           ∧ { t with
               cfg := s.cfg, status := s.status, hold := s.hold, raised := s.raised, pins := s.pins, lines := s.lines
               localPort := s.localPort } = s.fresh)
       ∧ (r.body = [t0, 1, 0] → (s.config sp).present = true →
         (s.st sp).state = .wait ∨ (s.st sp).state = .locked ∨ (s.st sp).state = .maint →
         ∃ t, exec (.writeSpan r) s = .next t ∧ (t.config sp).present = false
           ∧ (t.st sp).state = .unused ∧ (t.st sp).causes = [] ∧ (t.st sp).failures = 0 ∧ t.held sp = false
           ∧ t.st sp.other = s.st sp.other ∧ t.raised = s.raised
           ∧ { t with
               cfg := s.cfg, status := s.status, hold := s.hold, raised := s.raised, pins := s.pins, lines := s.lines
               localPort := s.localPort } = s.fresh))

/-- A WRITE_PUMP of the role, span or direction that changes it in RUN is refused with STATE where the level is above 0, the channel is in
a state other than DARK or DARK_HOLD, or the span of the pump as it stands or would stand is in PROBE, CONFIRM or SERVICE; else it is
stored, with the pending rise cleared and the no-reply count at 0. One that changes the probe setpoint in PULSING is refused with STATE.
The value held is no change (R78, R80). A setpoint carried above the ceiling is stored equal to it, answered ADJUSTED with its code
(R79). A changed service setpoint acts as SET_SETPOINT does (R80). A ceiling below the setpoints of a DARK pump lowers them, and one below
the level of a LIT pump in SERVICE clamps the level at once, with an extra record (R79, R98): the reply is ADJUSTED, and that it names no
setpoint then is the model's reading, as is that a setpoint changes where the value carried differs from the one held (log 17). A ramp or
min-dark that starts drops the step of the tick in progress (log 4).
SET_SETPOINT stores the value at or below the ceiling; for a pump whose span is in neither SERVICE nor CONFIRM nothing else
changes; a LIT pump of a span in SERVICE is retargeted (R94). CLEAR_PUMP takes a FAULTED channel to DARK_HOLD with its no-reply count
at 0 and is refused with STATE elsewhere (R95). -/
def Obligations.PumpRequestsTaken : Prop :=
  (∀ (s : State) (r : Req) (ch : Chan) (b1 b0 : Byte) (sp : Span), s.pins.resetLine = false → s.classUsed r = 0 →
       let v := b1.toNat * 256 + b0.toNat
       r.body = [BitVec.ofNat 8 ch.val, 4, b1, b0] → 1 ≤ v → v < (s.pump ch).level → v ≤ 4000 →
       (s.pump ch).state = .lit → (s.pump ch).target = none → (s.pump ch).rise = none →
       (s.pump ch).service ≤ v → (s.pump ch).probe ≤ v → (s.pump ch).lights = some sp → (s.st sp).state = .service →
       exec (.writePump r) s =
         .next ({ s.fresh.setPump ch { s.pump ch with ceiling := v, level := v } with
           out := [.setpoint (setpointRecord ch v)] }.replied r 3 1 []))
    ∧ (∀ (s : State) (r : Req) (ch : Chan) (b1 b0 : Byte), s.pins.resetLine = false → s.classUsed r = 0 →
       let p := s.pump ch
       let v := b1.toNat * 256 + b0.toNat
       let stored := min v p.ceiling
       (r.body = [BitVec.ofNat 8 ch.val, b1, b0] → v ≤ 4000 →
         (∀ sp, p.lights = some sp → (s.st sp).state ≠ .service ∧ (s.st sp).state ≠ .confirm) →
         exec (.setSetpoint r) s =
           .next ((s.fresh.setPump ch { p with service := stored }).replied r 4 (if p.ceiling < v then 1 else 0)
             (if p.ceiling < v then [5] else [])))
       ∧ (r.body = [BitVec.ofNat 8 ch.val, b1, b0] → v ≤ 4000 → s.part.run = true → p.role = .launch ∨ p.role = .counter →
         (s.st p.span).state = .service → p.state = .lit → p.level ≠ stored →
         exec (.setSetpoint r) s =
           .next (((s.fresh.setPump ch
             { p with
               service := stored, state := if p.level < stored then .rising else .falling, target := some stored, pulseLen := none
               pulseCount := 0 }).dropJob (.step ch)).replied r 4 (if p.ceiling < v then 1 else 0) (if p.ceiling < v then [5] else [])))
       ∧ (r.body = [BitVec.ofNat 8 ch.val] → p.state = .faulted →
         exec (.clearPump r) s =
           .next (((s.fresh.setPump ch
             { p with
               state := .darkHold, level := 0, target := none, rise := none, pulseLen := none, pulseCount := 0
               darkLeft := p.minDark, noReply := 0 }).dropJob (.step ch)).replied r 5 0 []))
       ∧ (r.body = [BitVec.ofNat 8 ch.val] → p.state ≠ .faulted → exec (.clearPump r) s = .next (s.fresh.replied r 5 4 [])))
    ∧ (∀ (s : State) (r : Req) (ch : Chan) (code v : Byte), s.pins.resetLine = false → s.classUsed r = 0 →
       let p := s.pump ch
       r.body = [BitVec.ofNat 8 ch.val, code, v] → p.BelowCeiling → s.CompletesPromptly →
       (code = 1 ∧ v.toNat ≤ 3) ∨ (code = 2 ∧ v.toNat ≤ 1) ∨ (code = 3 ∧ v.toNat ≤ 1) →
       let q : Pump :=
         if code = 1 then { p with role := if v = 0 then .unused else if v = 1 then .launch else if v = 2 then .counter else .stage }
         else if code = 2 then { p with span := if v = 0 then .ws else .es }
         else { p with dir := if v = 0 then .eb else .wb }
       let inLit := fun x : Pump => ∃ sp, x.lights = some sp ∧
         ((s.st sp).state = .probe ∨ (s.st sp).state = .confirm ∨ (s.st sp).state = .service)
       let barred := s.part.run = true ∧ (0 < p.level ∨ (p.state ≠ .dark ∧ p.state ≠ .darkHold) ∨ inLit p ∨ inLit q)
       (q ≠ p → barred → exec (.writePump r) s = .next (s.fresh.replied r 3 4 []))
       ∧ (q ≠ p → ¬ barred →
         exec (.writePump r) s = .next ((s.fresh.setPump ch { q with rise := none, noReply := 0 }).replied r 3 0 []))
       ∧ (q = p → exec (.writePump r) s = .next (s.fresh.replied r 3 0 [])))
    ∧ (∀ (s : State) (r : Req) (ch : Chan) (b1 b0 : Byte), s.pins.resetLine = false → s.classUsed r = 0 →
       let p := s.pump ch
       let v := b1.toNat * 256 + b0.toNat
       let stored := min v p.ceiling
       let adjusted := fun code : Byte => if p.ceiling < v then [code] else []
       let reply : Byte := if p.ceiling < v then 1 else 0
       let dim := ∀ sp, p.lights = some sp → (s.st sp).state ≠ .service ∧ (s.st sp).state ≠ .confirm
       (r.body = [BitVec.ofNat 8 ch.val, 6, b1, b0] → v ≤ 4000 → p.BelowCeiling → s.CompletesPromptly →
         exec (.writePump r) s =
           .next (if p.state = .pulsing ∧ v ≠ p.probe then s.fresh.replied r 3 4 []
             else (s.fresh.setPump ch { p with probe := stored }).replied r 3 reply (adjusted 6)))
       ∧ (r.body = [BitVec.ofNat 8 ch.val, 5, b1, b0] → v ≤ 4000 → p.BelowCeiling → dim →
         exec (.writePump r) s = .next ((s.fresh.setPump ch { p with service := stored }).replied r 3 reply (adjusted 5)))
       ∧ (r.body = [BitVec.ofNat 8 ch.val, 5, b1, b0] → v ≤ 4000 → p.BelowCeiling → s.part.run = true →
         p.role = .launch ∨ p.role = .counter → (s.st p.span).state = .service → p.state = .lit → p.level ≠ stored →
         p.service ≠ stored →
         exec (.writePump r) s =
           .next (((s.fresh.setPump ch
             { p with
               service := stored, state := if p.level < stored then .rising else .falling, target := some stored, pulseLen := none
               pulseCount := 0 }).dropJob (.step ch)).replied r 3 reply (adjusted 5)))
       ∧ (r.body = [BitVec.ofNat 8 ch.val, 4, b1, b0] → v ≤ 4000 → p.state = .dark → p.level = 0 → p.target = none → p.rise = none →
         dim →
         exec (.writePump r) s =
           .next ((s.fresh.setPump ch { p with ceiling := v, service := min p.service v, probe := min p.probe v }).replied r 3
             (if v < p.service ∨ v < p.probe then 1 else 0) [])))

/-- WRITE_MONITOR of a loss threshold, of a restore threshold or of both is stored where the restore threshold then stands at or above the loss
threshold and at most at 16,776,704, and refused with RANGE where it does not; a threshold for a channel that is no input is refused with
RANGE (R61). WRITE_EVENT stores an action never weaker than the floor, and the floor for a fixed event, and a notify flag as carried, but set for
DARK_FAIL and LOCKOUT; it answers ADJUSTED with the codes of the values stored otherwise than carried, action before notify flag (the model's
order, log 18), and DONE where there is none. An identifier above 20, an action or notify flag outside its list and a length above 32 are
refused with RANGE (R153). -/
def Obligations.MonitorAndEventTablesWritten : Prop :=
  ∀ (s : State) (r : Req), s.pins.resetLine = false → s.classUsed r = 0 →
    let refused := fun kind : Byte => Host.Outcome.next (φ := Fault) (ρ := Refusal) (s.fresh.replied r kind 5 [])
    (∀ (sp : Span) (b2 b1 b0 : Byte),
      let ch : Byte := if sp = .ws then 0 else 4
      let v := b2.toNat * 65536 + b1.toNat * 256 + b0.toNat
      let stored := fun c : InputChan => Host.Outcome.next (φ := Fault) (ρ := Refusal) ((s.fresh.setInp sp c).replied r 6 0 [])
      (r.body = [ch, 5, b2, b1, b0] → (s.inp sp).hi ≤ 16776704 →
        exec (.writeMonitor r) s = if v ≤ (s.inp sp).hi then stored { s.inp sp with lo := v } else refused 6)
      ∧ (r.body = [ch, 6, b2, b1, b0] →
        exec (.writeMonitor r) s = if (s.inp sp).lo ≤ v ∧ v ≤ 16776704 then stored { s.inp sp with hi := v } else refused 6)
      ∧ (∀ c2 c1 c0 : Byte,
        let u := c2.toNat * 65536 + c1.toNat * 256 + c0.toNat
        r.body = [ch, 5, b2, b1, b0, 6, c2, c1, c0] →
        exec (.writeMonitor r) s = if v ≤ u ∧ u ≤ 16776704 then stored { s.inp sp with lo := v, hi := u } else refused 6))
    ∧ (∀ (ch : Chan) (code b2 b1 b0 : Byte), ch ≠ 0 → ch ≠ 4 → code = 5 ∨ code = 6 →
      r.body = [BitVec.ofNat 8 ch.val, code, b2, b1, b0] → exec (.writeMonitor r) s = refused 6)
    ∧ (∀ (e : Event) (a n : Byte), a.toNat ≤ 3 → n.toNat ≤ 1 →
      let action := if e.fixed = true ∨ a.toNat < e.floor.code then e.floor else Action.ofCode a.toNat
      let notify := decide (n = 1 ∨ e = .darkFail ∨ e = .lockout)
      let action' : List Byte := if action.code = a.toNat then [] else [2]
      let notify' : List Byte := if notify = decide (n = 1) then [] else [3]
      let written := fun (entry : EvEntry → EvEntry) (named : List Byte) =>
        ∃ t, exec (.writeEvent r) s = .next t
          ∧ { t with table := s.table } = s.fresh.replied r 7 (if named = [] then 0 else 1) named
          ∧ ∀ i, i < 32 → t.entry i = if i = e.id then entry (s.entry i) else s.entry i
      (r.body = [1, BitVec.ofNat 8 e.id, 2, a] → written (fun x => ⟨action, x.notify⟩) action')
      ∧ (r.body = [1, BitVec.ofNat 8 e.id, 3, n] → written (fun x => ⟨x.action, notify⟩) notify')
      ∧ (r.body = [1, BitVec.ofNat 8 e.id, 2, a, 3, n] → written (fun _ => ⟨action, notify⟩) (action' ++ notify')))
    ∧ (∀ i a n : Byte, 20 < i.toNat ∨ 3 < a.toNat ∨ 1 < n.toNat → r.body = [1, i, 2, a, 3, n] → exec (.writeEvent r) s = refused 7)
    ∧ (∀ v : Byte, 32 < v.toNat → r.body = [4, v] → exec (.writeEvent r) s = refused 7)

/-- A WRITE_INTERLOCK stores the assignment, the sensitivity or both, keeps the observed level and the latched flag, and is answered DONE.
The line's activity under the new entry is evaluated at once: INTERLOCK is raised for each span it names where the line passes into active,
and for each span whose condition passes to standing, WS first (the model's choice, log 44); it leaves the causes of each span whose
condition passes to not standing, with no event (R127, R128, R129, R131). So one that moves an active line from WS to ES, where no other
active line guards either span, raises INTERLOCK for ES and removes it from the causes of WS (R131). A CLEAR_INTERLOCK clears the latched
flag and removes INTERLOCK from exactly the spans whose condition thereby ends, with no event (R129, R130). Which write raises INTERLOCK is the model's
reading of R128 with R131: one event for a span where the line passes into active or its condition passes to standing, one where both hold,
none for a line already active that is assigned to a span whose condition stood (log 16). -/
def Obligations.InterlockRequestsTaken : Prop :=
  ∀ (s : State) (r : Req) (n : Chan), s.pins.resetLine = false → s.classUsed r = 0 →
    (r.body = [BitVec.ofNat 8 n.val, 1, 2] → (s.ilLine n).active = true → (s.ilLine n).assign = .ws →
      (∀ m sp, m ≠ n → (s.ilLine m).guards sp = false) →
      exec (.writeInterlock r) s =
        .next (State.replied
          { (s.fresh.setIlLine n { s.ilLine n with assign := .es }).setSt .ws
              { s.st .ws with causes := (s.st .ws).causes.filter fun e => e ≠ .interlock, entryInterlock := false } with
            raised := s.raised ++ [⟨.interlockUnit, .interlock, .one .es, .line n, s.time.tickCount, false⟩] } r 8 0 []))
    ∧ (∀ a b : Byte, a.toNat ≤ 3 → b.toNat ≤ 3 →
      let l := s.ilLine n
      let assign : Assign := if a = 0 then .none_ else if a = 1 then .ws else if a = 2 then .es else .both
      let sense : Sense := if b = 0 then .fall else if b = 1 then .fallLow else if b = 2 then .rise else .riseHigh
      let active := fun x : IlLine =>
        x.latched = true ∨ (x.sense = .fallLow ∧ x.observed = some false) ∨ (x.sense = .riseHigh ∧ x.observed = some true)
      let guards := fun (x : IlLine) (sp : Span) =>
        active x ∧ (x.assign = .both ∨ (x.assign = .ws ∧ sp = .ws) ∨ (x.assign = .es ∧ sp = .es))
      let written := fun q : IlLine =>
        let stood := fun sp : Span => ∃ m, guards (s.ilLine m) sp
        let stands := fun sp : Span => guards q sp ∨ ∃ m, m ≠ n ∧ guards (s.ilLine m) sp
        let event := fun sp : Span =>
          if (¬ active l ∧ guards q sp) ∨ (¬ stood sp ∧ stands sp) then
            [(⟨.interlockUnit, .interlock, .one sp, .line n, s.time.tickCount, false⟩ : Raised)]
          else []
        let status := fun sp : Span =>
          if stood sp ∧ ¬ stands sp then
            { s.st sp with causes := (s.st sp).causes.filter fun e => e ≠ .interlock, entryInterlock := false }
          else s.st sp
        Host.Outcome.next (φ := Fault) (ρ := Refusal)
          (State.replied
            { s.fresh.setIlLine n q with
              raised := s.raised ++ event .ws ++ event .es, status := ⟨status .ws, status .es⟩ } r 8 0 [])
      (r.body = [BitVec.ofNat 8 n.val, 1, a] → exec (.writeInterlock r) s = written { l with assign := assign })
      ∧ (r.body = [BitVec.ofNat 8 n.val, 2, b] → exec (.writeInterlock r) s = written { l with sense := sense })
      ∧ (r.body = [BitVec.ofNat 8 n.val, 1, a, 2, b] →
        exec (.writeInterlock r) s = written { l with assign := assign, sense := sense }))
    ∧ (r.body = [BitVec.ofNat 8 n.val] →
      ∃ t, exec (.clearInterlock r) s = .next t ∧ t.ilLine n = { s.ilLine n with latched := false }
        ∧ (∀ m, m ≠ n → t.ilLine m = s.ilLine m)
        ∧ { t with il := s.il, status := s.status, lines := s.lines, localPort := s.localPort } = s.fresh
        ∧ (∀ sp, (t.st sp).state = (s.st sp).state
            ∧ (t.st sp).causes =
                if s.interlocked sp = true ∧ t.interlocked sp = false then (s.st sp).causes.filter fun e => e ≠ .interlock
                else (s.st sp).causes))

/-- SPAN_HOLD of any class sets the hold flag and raises MANUAL_HOLD in RUN out of UNUSED and is refused with STATE elsewhere;
SPAN_RESUME clears a set flag and removes MANUAL_HOLD; SPAN_RELEASE takes a LOCKED span to WAIT, or to MAINT in a loop mode, with its
failure count at 0 and its causes kept, and is refused with STATE elsewhere (R33, R169, R173, R174). In neither state is a tick's
hand-over counted (`startsNext`, log 4). -/
def Obligations.HoldResumeReleaseTaken : Prop :=
  ∀ (s : State) (r : Req) (sp : Span), s.pins.resetLine = false → r.body = [if sp = .ws then 0 else 1] →
    exec (.spanHold r) s =
        .next (if s.part.run = true ∧ (s.st sp).state ≠ .unused then
            State.replied
              { s.fresh.setHeld sp true with
                raised := s.raised ++ [⟨.requestHandler, .manualHold, .one sp, .none_, s.time.tickCount, false⟩] } r 10 0 []
          else s.fresh.replied r 10 4 [])
    ∧ (s.classUsed r = 0 → s.held sp = true →
      exec (.spanResume r) s =
        .next (((s.fresh.setHeld sp false).setSt sp
          { s.st sp with causes := (s.st sp).causes.filter fun e => e ≠ .manualHold }).replied r 11 0 []))
    ∧ (s.classUsed r = 0 → (s.st sp).state = .locked →
      ∃ t, exec (.spanRelease r) s = .next t
        ∧ t.st sp =
            { s.st sp with
              state := if (s.line sp).loop = .normal then .wait else .maint
              failures := 0, ticks := 0, callPending := false, offTicks := 0, offExpired := false, probeLength := none
              startsNext := false }
        ∧ t.st sp.other = s.st sp.other
        ∧ { t with status := s.status, pins := s.pins, lines := s.lines, localPort := s.localPort } = s.fresh)
    ∧ (s.classUsed r = 0 → (s.st sp).state ≠ .locked → exec (.spanRelease r) s = .next (s.fresh.replied r 12 4 []))

/-- SET_LOOP from NORMAL to a loop mode stores the mode and takes a span in WAIT or LOCKED to MAINT with its failure count at 0; in
RUN it is refused with STATE for a span in SHUT, PROBE, CONFIRM or SERVICE (R175, R189), also where it names the mode held (the model's
reading, log 35). Back to NORMAL it takes a span in MAINT to WAIT with its off timer at 0 and its causes kept, and leaves one in LOCKED;
between INNER and OUTER it moves no span, and neither does any change for a span in UNUSED, as both are in STANDBY (R183). Elsewhere the
mode held is DONE with nothing changed (R175, R189). In neither WAIT nor MAINT is a tick's hand-over counted (`startsNext`, log 4).
A WRITE_PART that changes the own site number clears mismatch reported on both line ports, and its reply already carries the new
number (R109, R110, R176, R180). -/
def Obligations.LoopAndSiteWritten : Prop :=
  (∀ (s : State) (r : Req) (sp : Span) (m : Byte), s.pins.resetLine = false → s.classUsed r = 0 → s.part.run = true →
       r.body = [if sp = .ws then 0 else 1, m] →
       (m = 1 ∨ m = 2 → (s.line sp).loop = .normal → (s.st sp).state = .wait ∨ (s.st sp).state = .locked →
         ∃ t, exec (.setLoop r) s = .next t
           ∧ (t.line sp).loop = (if m = 1 then .inner else .outer) ∧ (t.line sp).mismatch = false
           ∧ (t.line sp).live = (s.line sp).live ∧ (t.line sp).silence = (s.line sp).silence
           ∧ t.st sp =
               { s.st sp with
                 state := .maint, failures := 0, ticks := 0, callPending := false, offTicks := 0, offExpired := false
                 probeLength := none, startsNext := false }
           ∧ t.st sp.other = s.st sp.other
           ∧ { t with status := s.status, pins := s.pins, lines := s.lines, localPort := s.localPort } = s.fresh)
       ∧ (m.toNat ≤ 2 → (s.st sp).state = .shut ∨ (s.st sp).state = .probe ∨ (s.st sp).state = .confirm ∨ (s.st sp).state = .service →
         exec (.setLoop r) s = .next (s.fresh.replied r 13 4 [])))
    ∧ (∀ (s : State) (r : Req) (sp : Span) (m : Byte), s.pins.resetLine = false → s.classUsed r = 0 → m.toNat ≤ 2 →
       r.body = [if sp = .ws then 0 else 1, m] →
       let mode : Loop := if m = 0 then .normal else if m = 1 then .inner else .outer
       let held := (s.line sp).loop
       let stored := s.fresh.setLine sp { s.line sp with loop := mode, mismatch := false }
       (mode ≠ held →
         (s.st sp).state = .unused ∨ ((s.st sp).state = .locked ∧ held ≠ .normal) ∨ ((s.st sp).state = .maint ∧ mode ≠ .normal) →
         exec (.setLoop r) s = .next (stored.replied r 13 0 []))
       ∧ (mode = held →
         (s.st sp).state = .unused ∨ (s.st sp).state = .wait ∨ (s.st sp).state = .locked ∨ (s.st sp).state = .maint →
         exec (.setLoop r) s = .next (s.fresh.replied r 13 0 []))
       ∧ (s.part.run = true → mode = .normal → held ≠ .normal → (s.st sp).state = .maint →
         ∃ t, exec (.setLoop r) s = .next t ∧ t.line sp.other = (stored.replied r 13 0 []).line sp.other
           ∧ t.line sp = (stored.replied r 13 0 []).line sp ∧ t.localPort = (stored.replied r 13 0 []).localPort
           ∧ t.st sp =
               { s.st sp with
                 state := .wait, ticks := 0, callPending := false, offTicks := 0, offExpired := false, probeLength := none
                 startsNext := false }
           ∧ t.st sp.other = s.st sp.other
           ∧ { t with status := s.status, pins := s.pins, lines := s.lines, localPort := s.localPort } = s.fresh))
    ∧ (∀ (s : State) (r : Req) (b1 b0 : Byte), s.pins.resetLine = false → s.classUsed r = 0 →
       let site := b1.toNat * 256 + b0.toNat
       r.body = [1, b1, b0] → site ≤ 1022 → s.part.site ≠ BitVec.ofNat 10 site →
       exec (.writePart r) s =
         .next ({ s.fresh with
           part := { s.part with site := BitVec.ofNat 10 site }
           lines := ⟨{ s.line .ws with mismatch := false }, { s.line .es with mismatch := false }⟩ }.replied r 14 0 []))

/-- START in STANDBY: RUN with its indicator on; each present span to WAIT with off expired set, or to MAINT in a loop mode, with the
standing conditions that stand in its cause set and the entry report flag of each set, the other fields of its record kept; both lines off,
pumps and rings kept, mismatch reported no. INTERLOCK is raised for each such span, with the lowest-numbered active line that guards it as
the subject, WS before ES (the model's choice, log 44), SUPPLY_LOW once for both spans where one is present (log 15), and PART_STATE
(R5, R9, R132, R137, R185). That they stand in the list in this order is the model's (log 12). The mark `startsNext` is clear for each such span, so
the next hand-over of a slot leaves out no start test (R186, log 4). In RUN START is refused with STATE.
HALT in RUN: every channel dark, both spans in UNUSED with empty cause sets and no hold, lines and indicator off, STANDBY,
PART_STATE raised, rings, tags and far words kept (R187). In STANDBY it is refused with STATE. -/
def Obligations.StartAndHaltMovePart : Prop :=
  (∀ (s : State) (r : Req), s.pins.resetLine = false → s.classUsed r = 0 → r.body = [] →
       (s.part.run = false → s.StandbyUnused →
         ∃ t, exec (.start r) s = .next t ∧ t.part = { s.part with run := true } ∧ t.pins.runLed = true
           ∧ t.pins.spanEn = ⟨false, false⟩
           ∧ { t with
               part := s.part, pins := s.pins, status := s.status, lines := s.lines, localPort := s.localPort
               raised := s.raised } = s.fresh
           ∧ (∀ sp, (t.line sp).mismatch = false)
           ∧ (∀ sp, (s.config sp).present = false → t.st sp = s.st sp)
           ∧ (∀ sp, (s.config sp).present = true →
               (t.st sp).state = (if (s.line sp).loop = .normal then .wait else .maint)
                 ∧ (t.st sp).offExpired = decide ((s.line sp).loop = .normal)
                 ∧ t.st sp =
                     { s.st sp with
                       state := (t.st sp).state, causes := (t.st sp).causes, ticks := 0, callPending := false, offTicks := 0
                       offExpired := (t.st sp).offExpired, probeLength := none, startsNext := false
                       failures := if (s.line sp).loop = .normal then (s.st sp).failures else 0
                       entryInterlock := (s.st sp).entryInterlock || s.interlocked sp
                       entrySupply := (s.st sp).entrySupply || decide (s.supply.state ≠ .good) }
                 ∧ ∀ e : Event, e ∈ (t.st sp).causes ↔
                     e ∈ (s.st sp).causes ∨ (e = .interlock ∧ s.interlocked sp = true) ∨ (e = .supplyLow ∧ s.supply.state ≠ .good))
           ∧ (let interlock := fun sp : Span =>
                match ([0, 1, 2, 3, 4, 5, 6, 7] : List Chan).find? fun n => (s.ilLine n).guards sp with
                | some n =>
                  if (s.config sp).present = true then
                    [(⟨.interlockUnit, .interlock, .one sp, .line n, s.time.tickCount, false⟩ : Raised)]
                  else []
                | none => []
              t.raised = s.raised ++ interlock .ws ++ interlock .es
                ++ (if s.supply.state ≠ .good ∧ ((s.config .ws).present = true ∨ (s.config .es).present = true) then
                      [⟨.supplyMonitor, .supplyLow, .both, .none_, s.time.tickCount, false⟩] else [])
                ++ [⟨.partControl, .partState, .none_, .none_, s.time.tickCount, false⟩]))
       ∧ (s.part.run = true → exec (.start r) s = .next (s.fresh.replied r 15 4 [])))
    ∧ (∀ (s : State) (r : Req), s.pins.resetLine = false → s.classUsed r = 0 → r.body = [] →
       (s.part.run = true →
         ∃ t, exec (.halt r) s = .next t ∧ t.part = { s.part with run := false } ∧ t.pins.runLed = false
           ∧ t.pins.spanEn = ⟨false, false⟩ ∧ (∀ ch, (t.pump ch).state.isDark = true)
           ∧ { t with
               part := s.part, pins := s.pins, status := s.status, hold := s.hold, pumps := s.pumps, lines := s.lines
               localPort := s.localPort, raised := s.raised, owed := s.owed, out := [] } = s.fresh
           ∧ (∀ sp, (t.st sp).state = .unused ∧ (t.st sp).tag = (s.st sp).tag ∧ (t.st sp).far = (s.st sp).far)
           ∧ (∀ sp, (s.st sp).state ≠ .unused → (t.st sp).causes = [] ∧ (t.st sp).failures = 0 ∧ t.held sp = false)
           ∧ t.raised = s.raised ++ [⟨.partControl, .partState, .none_, .none_, s.time.tickCount, false⟩])
       ∧ (s.part.run = false → exec (.halt r) s = .next (s.fresh.replied r 16 4 [])))

/-- CLEAR of class 0 leaves what HALT leaves: STANDBY, lines and RUN indicator off, every channel dark, both spans in UNUSED, one that was
not there with an empty cause set, no failures and no hold. Besides, every queue is empty but for its own reply, the notice queue empty,
rings at 0, port counts and silence counts at 0, far words absent and tags at 0, no-reply counts at 0. Each input keeps its thresholds and
run lengths, FADING going to PRESENT and RETURNING to ABSENT with the run at 0, each reflection channel its fields but the run, and each pump
channel its table entry (R60, R63, R77, R87); the other tables, grants, loop modes, receiver
states, interlock entries, supply state and Time Base are kept; PART_STATE is raised (R187, R188), as the last event, the model's choice
(log 32). Its notice follows the reply, since the event is taken in a later step (the model's order, log 46). -/
def Obligations.ClearForgetsTraffic : Prop :=
  ∀ (s : State) (r : Req), s.pins.resetLine = false → s.classUsed r = 0 → r.body = [] → s.StandbyUnused → s.LinesFollow →
    ∃ t, exec (.clear r) s = .next t ∧ t.part = { s.part with run := false }
      ∧ t.pins = { s.pins with spanEn := ⟨false, false⟩, runLed := false }
      ∧ (∀ ch, (t.pump ch).state.isDark = true ∧ (t.pump ch).noReply = 0)
      ∧ (∀ sp, (s.st sp).state ≠ .unused → (t.st sp).causes = [] ∧ (t.st sp).failures = 0 ∧ t.held sp = false)
      ∧ (∀ sp, (s.st sp).state = .unused → t.st sp = { s.st sp with far := none, tag := 0 } ∧ t.held sp = s.held sp)
      ∧ (∀ sp, (t.st sp).state = .unused ∧ (t.st sp).far = none ∧ (t.st sp).tag = 0 ∧ t.slots sp = List.replicate 256 0
          ∧ (t.line sp).silence = 0 ∧ (t.line sp).forward = [] ∧ (t.line sp).served = .local_ ∧ (t.line sp).mismatch = false
          ∧ (t.line sp).loop = (s.line sp).loop ∧ (t.line sp).live = (s.line sp).live
          ∧ t.inp sp =
              { s.inp sp with
                light := if (s.inp sp).light = .present ∨ (s.inp sp).light = .fading then .present else .absent
                run := 0 }
          ∧ t.reflection sp = { s.reflection sp with run := 0 })
      ∧ (∀ ch, t.pump ch =
          if (s.pump ch).state = .dark ∨ (s.pump ch).state = .faulted then { s.pump ch with noReply := 0 }
          else
            { s.pump ch with
              state := .darkHold, level := 0, target := none, rise := none, pulseLen := none, pulseCount := 0
              darkLeft := (s.pump ch).minDark, noReply := 0 })
      ∧ (∀ p, (t.base p).accepted = 0 ∧ (t.base p).discarded = 0
          ∧ (t.base p).queue = if p = r.port then [replyTo r s.part.site 18 0 []] else [])
      ∧ t.notices = [] ∧ t.cfg = s.cfg ∧ t.mon = s.mon ∧ t.table = s.table ∧ t.tableLen = s.tableLen ∧ t.grants = s.grants
      ∧ t.il = s.il ∧ t.supply = s.supply ∧ t.time = s.time
      ∧ ([⟨.partControl, .partState, .none_, .none_, s.time.tickCount, false⟩] : List Raised) <:+ t.raised

/-- The class used is the class carried on a line port, and the greater of the class carried and the local class minimum on the Local port
(R167). A class has the right to a group where it is 0, or where the group lies below the map length and the map says yes for the class; it has
the safety level at or below it (R168, R170). With the right a request is taken as one of class 0; without it, or without the safety level
where the request needs it, it is answered DENIED and changes nothing: so for every kind that needs a grant, and for WRITE_GRANTS and
CLEAR of another class than 0 (R170, R172). A WRITE_SPAN with its grant and above the safety level is applied without its safety fields
and answered PARTIAL with their codes, and one that carries nothing else is DENIED (R171). A SET_SETPOINT without its grant is
DENIED whatever value it carries, above 4000 too, the model's reading (log 20). -/
def Obligations.GrantsDecideRights : Prop :=
  ∀ (s : State) (r : Req), s.pins.resetLine = false →
    let cls := s.classUsed r
    let yes := fun g : Nat => cls = 0 ∨ (g < s.grants.length ∧ s.grants.map.toList.getD (3 * g + cls - 1) false = true)
    let safe := cls ≤ s.grants.safety
    let answers := fun kind outcome : Byte => Host.Outcome.next (φ := Fault) (ρ := Refusal) (s.fresh.replied r kind outcome [])
    (cls = if r.port = .loc then (if r.cls.toNat < s.part.classMin then s.part.classMin else r.cls.toNat) else r.cls.toNat)
    ∧ (∀ n : Byte, cls ≠ 0 → (r.body = [2, n] → exec (.writeGrants r) s = answers 17 3) ∧ (r.body = [] → exec (.clear r) s = answers 18 3))
    ∧ (r.body = [] →
      (s.part.run = true → exec (.start r) s = if yes 0 then answers 15 4 else answers 15 3)
        ∧ (s.part.run = false → exec (.halt r) s = if yes 0 then answers 16 4 else answers 16 3)
        ∧ (¬ yes 0 → exec (.start r) s = answers 15 3 ∧ exec (.halt r) s = answers 16 3))
    ∧ (∀ v : Byte, r.body = [4, v] →
      (v.toNat ≤ 3 → exec (.writePart r) s =
        if yes 0 ∧ safe then .next ({ s.fresh with part := { s.part with classMin := v.toNat } }.replied r 14 0 []) else answers 14 3)
      ∧ (v.toNat ≤ 32 → exec (.writeEvent r) s =
        if yes 6 ∧ safe then .next ({ s.fresh with tableLen := v.toNat }.replied r 7 0 []) else answers 7 3))
    ∧ (∀ sp : Span,
      let t : Byte := if sp = .ws then 0 else 1
      let g := if sp = .ws then 1 else 2
      (r.body = [t] → exec (.spanResume r) s =
        if yes g then
          .next ((if s.held sp = true then
              (s.fresh.setHeld sp false).setSt sp { s.st sp with causes := (s.st sp).causes.filter fun e => e ≠ .manualHold }
            else s.fresh).replied r 11 0 [])
        else answers 11 3)
      ∧ (r.body = [t] → (s.st sp).state ≠ .locked → exec (.spanRelease r) s = if yes g ∧ safe then answers 12 4 else answers 12 3)
      ∧ (r.body = [t] → ¬ (yes g ∧ safe) → exec (.spanRelease r) s = answers 12 3)
      ∧ (∀ m : Byte, r.body = [t, m] → m.toNat ≤ 2 → ¬ yes 8 → exec (.setLoop r) s = answers 13 3)
      ∧ (∀ v w : Byte, 1 ≤ v.toNat → v.toNat ≤ 15 → (s.config sp).duration < (s.config sp).window →
        (s.config sp).ceiling * (s.config sp).duration ≤ (s.config sp).limit →
        (r.body = [t, 12, v] → exec (.writeSpan r) s =
          if yes g then .next ((s.fresh.setConfig sp { s.config sp with offCount := v.toNat }).replied r 2 0 []) else answers 2 3)
        ∧ (r.body = [t, 12, v, 4, w] → yes g → ¬ safe → exec (.writeSpan r) s =
          .next ((s.fresh.setConfig sp { s.config sp with offCount := v.toNat }).replied r 2 2 [4]))
        ∧ (r.body = [t, 4, w] → ¬ (yes g ∧ safe) → exec (.writeSpan r) s = answers 2 3)))
    ∧ (∀ (ch : Chan) (b1 b0 : Byte),
      let c : Byte := BitVec.ofNat 8 ch.val
      let g := if ch.val < 4 then 3 else 4
      (r.body = [c] → (s.pump ch).state ≠ .faulted → exec (.clearPump r) s = if yes g then answers 5 4 else answers 5 3)
      ∧ (r.body = [c] → ¬ yes g → exec (.clearPump r) s = answers 5 3)
      ∧ (r.body = [c, b1, b0] → ¬ yes g → exec (.setSetpoint r) s = answers 4 3)
      ∧ (r.body = [c, 7, b1, b0] → ¬ yes g → exec (.writePump r) s = answers 3 3)
      ∧ (r.body = [c, 4, b1, b0] → ¬ (yes g ∧ safe) → exec (.writePump r) s = answers 3 3)
      ∧ (r.body = [c] → ¬ yes 7 → exec (.clearInterlock r) s = answers 9 3)
      ∧ (r.body = [c, 1, b0] → ¬ (yes 7 ∧ safe) → exec (.writeInterlock r) s = answers 8 3)
      ∧ (r.body = [c, 3, b0] → 1 ≤ b0.toNat → (∀ sp, (s.inp sp).lo ≤ (s.inp sp).hi) → exec (.writeMonitor r) s =
        if yes 5 ∧ safe then .next ((s.fresh.setChan ch { s.chan ch with window := b0.toNat }).replied r 6 0 []) else answers 6 3))
    ∧ (∀ c0 : BitVec 2,
      let r0 := { r with cls := c0 }
      s.classUsed r0 = 0 →
      (yes 0 → exec (.start r) s = exec (.start r0) s ∧ exec (.halt r) s = exec (.halt r0) s)
      ∧ (yes 0 ∧ safe → exec (.writePart r) s = exec (.writePart r0) s)
      ∧ (yes 5 ∧ safe → exec (.writeMonitor r) s = exec (.writeMonitor r0) s)
      ∧ (yes 6 ∧ safe → exec (.writeEvent r) s = exec (.writeEvent r0) s)
      ∧ (yes 7 → exec (.clearInterlock r) s = exec (.clearInterlock r0) s)
      ∧ (yes 7 ∧ safe → exec (.writeInterlock r) s = exec (.writeInterlock r0) s)
      ∧ (yes 8 → exec (.setLoop r) s = exec (.setLoop r0) s)
      ∧ (∀ sp : Span, r.body.head? = some (if sp = .ws then 0 else 1) → yes (if sp = .ws then 1 else 2) →
        exec (.spanResume r) s = exec (.spanResume r0) s
          ∧ (safe → exec (.spanRelease r) s = exec (.spanRelease r0) s ∧ exec (.writeSpan r) s = exec (.writeSpan r0) s))
      ∧ (∀ ch : Chan, r.body.head? = some (BitVec.ofNat 8 ch.val) → yes (if ch.val < 4 then 3 else 4) →
        exec (.setSetpoint r) s = exec (.setSetpoint r0) s ∧ exec (.clearPump r) s = exec (.clearPump r0) s
          ∧ (safe → exec (.writePump r) s = exec (.writePump r0) s)))

/-! ### What every step keeps -/

/-- The enable lines are asserted exactly in RUN with their span in PROBE, CONFIRM or SERVICE, and the RUN indicator follows the part
state: so at reset, and kept by every step from every state where it holds (R8, R182). -/
def Obligations.EnableLinesFollowSpans : Prop :=
  State.reset.LinesFollow ∧ ∀ s t : State, s.LinesFollow → step s = .next t → t.LinesFollow

/-- No step leaves a pump above its ceiling or in a record that does not fit its state (R79, R81, R82, R90). -/
def Obligations.PumpsStayWithinCeilings : Prop := ∀ s t : State, s.PumpsSound → step s = .next t → t.PumpsSound

/-- Eye safety: no step lights a pump whose span's state forbids light, or any pump in STANDBY. The one command left out is a DOUSE
from outside of a channel in PULSING, which the manual never sends (R86, R91, R183; log 30). While a span is in PROBE, no step leaves one
of its LAUNCH pumps above its probe setpoint (R91); the one command left out there is a PULSE from outside above that setpoint, where the
manual sends the setpoint itself (R42, R85; log 30). -/
def Obligations.LightOnlyWhereSpanAllows : Prop :=
  (∀ s t : State, s.EyeSafe → s.PumpsSound →
    (∀ ch, s.pending.head? = some (.douse ch) → (s.pump ch).state ≠ .pulsing) → step s = .next t → t.EyeSafe)
    ∧ ∀ s t : State, s.EyeSafe → s.PumpsSound → s.ProbeBounded →
      (∀ ch level len, s.pending.head? = some (.pulse ch level len) → level ≤ (s.pump ch).probe) → step s = .next t → t.ProbeBounded

/-- A standing cause is held only while its condition stands, cause sets have no duplicates and are empty in UNUSED, through every step
(R9, R10, R11, R129, R136, R169). For INTERLOCK on a span that a SNUFF_ALL raised for the other span reaches, this is the model's choice
(log 43). -/
def Obligations.StandingCausesFollowConditions : Prop :=
  ∀ s t : State, s.CausesStand → s.CauseSets → step s = .next t → t.CausesStand ∧ t.CauseSets

/-- A span in PROBE, CONFIRM or SERVICE never comes to hold INTERLOCK, SUPPLY_LOW or MANUAL_HOLD, and one in SERVICE holds no cause,
through every step (R11, R12, R32). -/
def Obligations.LitSpansHoldNoStandingCause : Prop :=
  ∀ s t : State, s.LitHoldsNoStanding → step s = .next t → t.LitHoldsNoStanding

/-- Through every step: the failure count is at most 15, 0 in SERVICE, UNUSED and MAINT, and a span whose nonzero lockout limit is reached
is in LOCKED, both spans being in UNUSED in STANDBY (R52, R183); the fields of a record that belong to one state stay clear in the others (R5, R6, R20, R21, R144); and a span is in
MAINT only with its port in a loop mode, and out of MAINT, LOCKED and UNUSED only with it in NORMAL (R34, R189). -/
def Obligations.SpanRecordsFitStates : Prop :=
  (∀ s t : State, s.StandbyUnused → s.FailuresCounted → step s = .next t → t.FailuresCounted)
    ∧ (∀ s t : State, s.FieldsFitSpan → step s = .next t → t.FieldsFitSpan)
    ∧ ∀ s t : State, s.LoopsFitSpans → step s = .next t → t.LoopsFitSpans

/-- These tables, records and counts stay within the ranges of the manual, and the event table at or above its floors, through every
step: span configurations, monitor tables, channel records and rings (R2, R3, R36, R60, R61, R63), the event table and its length (R151,
R153), and pump rates and min-dark, port counts, silence counts, grant record, part identity, settle count and the place within a tick
(R77, R103, R134, R138, R168, R176). Pump setpoints and levels are those of PumpsStayWithinCeilings. -/
def Obligations.TablesStayInRange : Prop :=
  (∀ s t : State, s.ConfigsInRange → s.PowersInRange → s.TableFloors → step s = .next t →
       t.ConfigsInRange ∧ t.PowersInRange ∧ t.TableFloors)
    ∧ ∀ s t : State, s.CountsInRange → step s = .next t → t.CountsInRange

/-- No queue overflows its room, and no notice waits while the notice port's local queue has room, through every step (R118, R119, R161,
R163). -/
def Obligations.QueuesBoundedAndNoticesMoveUp : Prop :=
  ∀ s t : State, s.QueuesWithinRoom → s.NoticesMovedUp → step s = .next t → t.QueuesWithinRoom ∧ t.NoticesMovedUp

/-- No step leaves a span in CONFIRM with every completion condition holding: it enters SERVICE at the first event after which they
hold (R30), which may be the event of proof itself (the model's reading, log 22; where the test is made, log 37). -/
def Obligations.ServiceEnteredAtFirstEvent : Prop := ∀ s t : State, s.CompletesPromptly → step s = .next t → t.CompletesPromptly

/-- No single step takes a span from LOCKED to a state in which it may be lit, whatever the command: it stays in LOCKED, or goes to
WAIT, MAINT or UNUSED (R16, R33). -/
def Obligations.LockedSpanStaysDark : Prop :=
  ∀ (s t : State) (sp : Span), (s.st sp).state = .locked → step s = .next t →
    (t.st sp).state = .locked ∨ (t.st sp).state = .wait ∨ (t.st sp).state = .maint ∨ (t.st sp).state = .unused

/-- The part right after reset meets every one of these conditions (R184, R2, R5, R60, R63, R77, R81, R103, R125, R138, R151, R176). -/
def Obligations.ResetMeetsEveryInvariant : Prop :=
  State.reset.AtReset ∧ State.reset.LinesFollow ∧ State.reset.PumpsSound ∧ State.reset.EyeSafe ∧ State.reset.CausesStand
    ∧ State.reset.CauseSets ∧ State.reset.LitHoldsNoStanding ∧ State.reset.FailuresCounted ∧ State.reset.FieldsFitSpan ∧ State.reset.LoopsFitSpans
    ∧ State.reset.ConfigsInRange ∧ State.reset.PowersInRange ∧ State.reset.TableFloors ∧ State.reset.CountsInRange ∧ State.reset.QueuesWithinRoom
    ∧ State.reset.NoticesMovedUp ∧ State.reset.CompletesPromptly ∧ State.reset.ProbeBounded

/-! ### Layouts -/

/-- What a frame is built from is what a receiver reads from it, whatever bytes follow: the span word with every field, and the message
with every header field and its body (R104, R106, R192, R193). -/
def Obligations.FrameReadsAsBuilt : Prop :=
  ∀ (w : SpanWord) (m : Option Msg) (rest : List Byte), (∀ x ∈ m, x.body.length ≤ 51) →
    parseFrame (frameBytes w m ++ rest) = .kept w m rest

/-- The frame check tells two runs of bytes apart that differ in exactly one byte, and has the two values the manual works out (R192). -/
def Obligations.FrameCheckDetectsOneByte : Prop :=
  frameCheck [] = 65535 ∧ frameCheck [49, 50, 51, 52, 53, 54, 55, 56, 57] = 10673
    ∧ ∀ (before after : List Byte) (a b : Byte), a ≠ b → frameCheck (before ++ a :: after) ≠ frameCheck (before ++ b :: after)

/-! ### Grants -/

/-- WRITE_GRANTS of class 0 writes one entry of the map and leaves every other, or writes map length and safety level, and refuses a
length above 9 with RANGE; of another class it is DENIED and writes nothing (R168, R170, R178, R194). -/
def Obligations.GrantTableWritten : Prop :=
  ∀ (s : State) (r : Req), s.pins.resetLine = false →
    (∀ g b : Byte, s.classUsed r = 0 → r.body = [1, 1, g, b] → g.toNat ≤ 8 → b.toNat / 2 % 4 ≠ 0 →
      ∃ t, exec (.writeGrants r) s = .next t ∧ { t with grants := s.grants } = s.fresh.replied r 17 0 []
        ∧ t.grants.length = s.grants.length ∧ t.grants.safety = s.grants.safety
        ∧ ∀ i, i < 27 → t.grants.map.toList.getD i false =
            if i = 3 * g.toNat + (b.toNat / 2 % 4 - 1) then decide (b.toNat % 2 = 1) else s.grants.map.toList.getD i false)
    ∧ (∀ n m : Byte, s.classUsed r = 0 → r.body = [2, n, 3, m] → m.toNat ≤ 3 →
      exec (.writeGrants r) s =
        if n.toNat ≤ 9 then .next ({ s.fresh with grants := ⟨s.grants.map, n.toNat, m.toNat⟩ }.replied r 17 0 [])
        else .next (s.fresh.replied r 17 5 []))
    ∧ (∀ n : Byte, s.classUsed r ≠ 0 → r.body = [2, n] → exec (.writeGrants r) s = .next (s.fresh.replied r 17 3 []))
end

