-- ==== Sys2Proof/Laws/State.lean ====
section
/-!
SUPPORT. What each update of the state leaves and gives: one lemma per field per update, true by `rfl`, and the same for the records
read by a span, a channel, a line or a port. No proof needs to unfold an update.
-/

namespace Sys2Proof.Machine

/-! ### Things held once per span -/

@[simp] theorem PerSpan.get_set_self {α : Type} (x : PerSpan α) (sp : Span) (a : α) : (x.set sp a).get sp = a := by
  cases sp <;> rfl

@[simp] theorem PerSpan.get_set_other {α : Type} (x : PerSpan α) (sp : Span) (a : α) : (x.set sp a).get sp.other = x.get sp.other := by
  cases sp <;> rfl

@[simp] theorem PerSpan.get_other_set {α : Type} (x : PerSpan α) (sp : Span) (a : α) : (x.set sp.other a).get sp = x.get sp := by
  cases sp <;> rfl

theorem PerSpan.get_set {α : Type} (x : PerSpan α) (sp sp' : Span) (a : α) :
    (x.set sp a).get sp' = if sp' = sp then a else x.get sp' := by cases sp <;> cases sp' <;> rfl

@[simp] theorem PerSpan.set_set {α : Type} (x : PerSpan α) (sp : Span) (a b : α) : (x.set sp a).set sp b = x.set sp b := by
  cases sp <;> rfl

@[simp] theorem PerSpan.set_get {α : Type} (x : PerSpan α) (sp : Span) : x.set sp (x.get sp) = x := by cases sp <;> rfl

theorem PerSpan.ext_get {α : Type} {x y : PerSpan α} (h : ∀ sp, x.get sp = y.get sp) : x = y := by
  cases x; cases y; exact congr (congrArg PerSpan.mk (h .ws)) (h .es)

@[simp] theorem PerSpan.get_mk_ws {α : Type} (a b : α) : (PerSpan.mk a b).get .ws = a := rfl

@[simp] theorem PerSpan.get_mk_es {α : Type} (a b : α) : (PerSpan.mk a b).get .es = b := rfl

@[simp] theorem Span.other_other (sp : Span) : sp.other.other = sp := by cases sp <;> rfl

@[simp] theorem Span.other_ne (sp : Span) : sp.other ≠ sp := by cases sp <;> decide

@[simp] theorem Span.ne_other (sp : Span) : sp ≠ sp.other := by cases sp <;> decide

/-! ### Fields after an update -/

@[simp] theorem State.setConfig_time (s : State) (sp : Span) (c : SpanConfig) : (s.setConfig sp c).time = s.time := rfl
@[simp] theorem State.setConfig_part (s : State) (sp : Span) (c : SpanConfig) : (s.setConfig sp c).part = s.part := rfl
@[simp] theorem State.setConfig_grants (s : State) (sp : Span) (c : SpanConfig) : (s.setConfig sp c).grants = s.grants := rfl
@[simp] theorem State.setConfig_hold (s : State) (sp : Span) (c : SpanConfig) : (s.setConfig sp c).hold = s.hold := rfl
@[simp] theorem State.setConfig_cfg (s : State) (sp : Span) (c : SpanConfig) : (s.setConfig sp c).cfg = s.cfg.set sp c := rfl
@[simp] theorem State.setConfig_status (s : State) (sp : Span) (c : SpanConfig) : (s.setConfig sp c).status = s.status := rfl
@[simp] theorem State.setConfig_ring (s : State) (sp : Span) (c : SpanConfig) : (s.setConfig sp c).ring = s.ring := rfl
@[simp] theorem State.setConfig_mon (s : State) (sp : Span) (c : SpanConfig) : (s.setConfig sp c).mon = s.mon := rfl
@[simp] theorem State.setConfig_input (s : State) (sp : Span) (c : SpanConfig) : (s.setConfig sp c).input = s.input := rfl
@[simp] theorem State.setConfig_refl (s : State) (sp : Span) (c : SpanConfig) : (s.setConfig sp c).refl = s.refl := rfl
@[simp] theorem State.setConfig_pumps (s : State) (sp : Span) (c : SpanConfig) : (s.setConfig sp c).pumps = s.pumps := rfl
@[simp] theorem State.setConfig_lines (s : State) (sp : Span) (c : SpanConfig) : (s.setConfig sp c).lines = s.lines := rfl
@[simp] theorem State.setConfig_localPort (s : State) (sp : Span) (c : SpanConfig) : (s.setConfig sp c).localPort = s.localPort := rfl
@[simp] theorem State.setConfig_table (s : State) (sp : Span) (c : SpanConfig) : (s.setConfig sp c).table = s.table := rfl
@[simp] theorem State.setConfig_tableLen (s : State) (sp : Span) (c : SpanConfig) : (s.setConfig sp c).tableLen = s.tableLen := rfl
@[simp] theorem State.setConfig_notices (s : State) (sp : Span) (c : SpanConfig) : (s.setConfig sp c).notices = s.notices := rfl
@[simp] theorem State.setConfig_raised (s : State) (sp : Span) (c : SpanConfig) : (s.setConfig sp c).raised = s.raised := rfl
@[simp] theorem State.setConfig_il (s : State) (sp : Span) (c : SpanConfig) : (s.setConfig sp c).il = s.il := rfl
@[simp] theorem State.setConfig_supply (s : State) (sp : Span) (c : SpanConfig) : (s.setConfig sp c).supply = s.supply := rfl
@[simp] theorem State.setConfig_pins (s : State) (sp : Span) (c : SpanConfig) : (s.setConfig sp c).pins = s.pins := rfl
@[simp] theorem State.setConfig_owed (s : State) (sp : Span) (c : SpanConfig) : (s.setConfig sp c).owed = s.owed := rfl
@[simp] theorem State.setConfig_out (s : State) (sp : Span) (c : SpanConfig) : (s.setConfig sp c).out = s.out := rfl
@[simp] theorem State.setConfig_pending (s : State) (sp : Span) (c : SpanConfig) : (s.setConfig sp c).pending = s.pending := rfl

@[simp] theorem State.setSt_time (s : State) (sp : Span) (x : SpanStatus) : (s.setSt sp x).time = s.time := rfl
@[simp] theorem State.setSt_part (s : State) (sp : Span) (x : SpanStatus) : (s.setSt sp x).part = s.part := rfl
@[simp] theorem State.setSt_grants (s : State) (sp : Span) (x : SpanStatus) : (s.setSt sp x).grants = s.grants := rfl
@[simp] theorem State.setSt_hold (s : State) (sp : Span) (x : SpanStatus) : (s.setSt sp x).hold = s.hold := rfl
@[simp] theorem State.setSt_cfg (s : State) (sp : Span) (x : SpanStatus) : (s.setSt sp x).cfg = s.cfg := rfl
@[simp] theorem State.setSt_status (s : State) (sp : Span) (x : SpanStatus) : (s.setSt sp x).status = s.status.set sp x := rfl
@[simp] theorem State.setSt_ring (s : State) (sp : Span) (x : SpanStatus) : (s.setSt sp x).ring = s.ring := rfl
@[simp] theorem State.setSt_mon (s : State) (sp : Span) (x : SpanStatus) : (s.setSt sp x).mon = s.mon := rfl
@[simp] theorem State.setSt_input (s : State) (sp : Span) (x : SpanStatus) : (s.setSt sp x).input = s.input := rfl
@[simp] theorem State.setSt_refl (s : State) (sp : Span) (x : SpanStatus) : (s.setSt sp x).refl = s.refl := rfl
@[simp] theorem State.setSt_pumps (s : State) (sp : Span) (x : SpanStatus) : (s.setSt sp x).pumps = s.pumps := rfl
@[simp] theorem State.setSt_lines (s : State) (sp : Span) (x : SpanStatus) : (s.setSt sp x).lines = s.lines := rfl
@[simp] theorem State.setSt_localPort (s : State) (sp : Span) (x : SpanStatus) : (s.setSt sp x).localPort = s.localPort := rfl
@[simp] theorem State.setSt_table (s : State) (sp : Span) (x : SpanStatus) : (s.setSt sp x).table = s.table := rfl
@[simp] theorem State.setSt_tableLen (s : State) (sp : Span) (x : SpanStatus) : (s.setSt sp x).tableLen = s.tableLen := rfl
@[simp] theorem State.setSt_notices (s : State) (sp : Span) (x : SpanStatus) : (s.setSt sp x).notices = s.notices := rfl
@[simp] theorem State.setSt_raised (s : State) (sp : Span) (x : SpanStatus) : (s.setSt sp x).raised = s.raised := rfl
@[simp] theorem State.setSt_il (s : State) (sp : Span) (x : SpanStatus) : (s.setSt sp x).il = s.il := rfl
@[simp] theorem State.setSt_supply (s : State) (sp : Span) (x : SpanStatus) : (s.setSt sp x).supply = s.supply := rfl
@[simp] theorem State.setSt_pins (s : State) (sp : Span) (x : SpanStatus) : (s.setSt sp x).pins = s.pins := rfl
@[simp] theorem State.setSt_owed (s : State) (sp : Span) (x : SpanStatus) : (s.setSt sp x).owed = s.owed := rfl
@[simp] theorem State.setSt_out (s : State) (sp : Span) (x : SpanStatus) : (s.setSt sp x).out = s.out := rfl
@[simp] theorem State.setSt_pending (s : State) (sp : Span) (x : SpanStatus) : (s.setSt sp x).pending = s.pending := rfl

@[simp] theorem State.setSlots_time (s : State) (sp : Span) (r : List Nat) : (s.setSlots sp r).time = s.time := rfl
@[simp] theorem State.setSlots_part (s : State) (sp : Span) (r : List Nat) : (s.setSlots sp r).part = s.part := rfl
@[simp] theorem State.setSlots_grants (s : State) (sp : Span) (r : List Nat) : (s.setSlots sp r).grants = s.grants := rfl
@[simp] theorem State.setSlots_hold (s : State) (sp : Span) (r : List Nat) : (s.setSlots sp r).hold = s.hold := rfl
@[simp] theorem State.setSlots_cfg (s : State) (sp : Span) (r : List Nat) : (s.setSlots sp r).cfg = s.cfg := rfl
@[simp] theorem State.setSlots_status (s : State) (sp : Span) (r : List Nat) : (s.setSlots sp r).status = s.status := rfl
@[simp] theorem State.setSlots_ring (s : State) (sp : Span) (r : List Nat) : (s.setSlots sp r).ring = s.ring.set sp r := rfl
@[simp] theorem State.setSlots_mon (s : State) (sp : Span) (r : List Nat) : (s.setSlots sp r).mon = s.mon := rfl
@[simp] theorem State.setSlots_input (s : State) (sp : Span) (r : List Nat) : (s.setSlots sp r).input = s.input := rfl
@[simp] theorem State.setSlots_refl (s : State) (sp : Span) (r : List Nat) : (s.setSlots sp r).refl = s.refl := rfl
@[simp] theorem State.setSlots_pumps (s : State) (sp : Span) (r : List Nat) : (s.setSlots sp r).pumps = s.pumps := rfl
@[simp] theorem State.setSlots_lines (s : State) (sp : Span) (r : List Nat) : (s.setSlots sp r).lines = s.lines := rfl
@[simp] theorem State.setSlots_localPort (s : State) (sp : Span) (r : List Nat) : (s.setSlots sp r).localPort = s.localPort := rfl
@[simp] theorem State.setSlots_table (s : State) (sp : Span) (r : List Nat) : (s.setSlots sp r).table = s.table := rfl
@[simp] theorem State.setSlots_tableLen (s : State) (sp : Span) (r : List Nat) : (s.setSlots sp r).tableLen = s.tableLen := rfl
@[simp] theorem State.setSlots_notices (s : State) (sp : Span) (r : List Nat) : (s.setSlots sp r).notices = s.notices := rfl
@[simp] theorem State.setSlots_raised (s : State) (sp : Span) (r : List Nat) : (s.setSlots sp r).raised = s.raised := rfl
@[simp] theorem State.setSlots_il (s : State) (sp : Span) (r : List Nat) : (s.setSlots sp r).il = s.il := rfl
@[simp] theorem State.setSlots_supply (s : State) (sp : Span) (r : List Nat) : (s.setSlots sp r).supply = s.supply := rfl
@[simp] theorem State.setSlots_pins (s : State) (sp : Span) (r : List Nat) : (s.setSlots sp r).pins = s.pins := rfl
@[simp] theorem State.setSlots_owed (s : State) (sp : Span) (r : List Nat) : (s.setSlots sp r).owed = s.owed := rfl
@[simp] theorem State.setSlots_out (s : State) (sp : Span) (r : List Nat) : (s.setSlots sp r).out = s.out := rfl
@[simp] theorem State.setSlots_pending (s : State) (sp : Span) (r : List Nat) : (s.setSlots sp r).pending = s.pending := rfl

@[simp] theorem State.setChan_time (s : State) (ch : Chan) (c : MonChan) : (s.setChan ch c).time = s.time := rfl
@[simp] theorem State.setChan_part (s : State) (ch : Chan) (c : MonChan) : (s.setChan ch c).part = s.part := rfl
@[simp] theorem State.setChan_grants (s : State) (ch : Chan) (c : MonChan) : (s.setChan ch c).grants = s.grants := rfl
@[simp] theorem State.setChan_hold (s : State) (ch : Chan) (c : MonChan) : (s.setChan ch c).hold = s.hold := rfl
@[simp] theorem State.setChan_cfg (s : State) (ch : Chan) (c : MonChan) : (s.setChan ch c).cfg = s.cfg := rfl
@[simp] theorem State.setChan_status (s : State) (ch : Chan) (c : MonChan) : (s.setChan ch c).status = s.status := rfl
@[simp] theorem State.setChan_ring (s : State) (ch : Chan) (c : MonChan) : (s.setChan ch c).ring = s.ring := rfl
@[simp] theorem State.setChan_mon (s : State) (ch : Chan) (c : MonChan) : (s.setChan ch c).mon = s.mon.set ch c := rfl
@[simp] theorem State.setChan_input (s : State) (ch : Chan) (c : MonChan) : (s.setChan ch c).input = s.input := rfl
@[simp] theorem State.setChan_refl (s : State) (ch : Chan) (c : MonChan) : (s.setChan ch c).refl = s.refl := rfl
@[simp] theorem State.setChan_pumps (s : State) (ch : Chan) (c : MonChan) : (s.setChan ch c).pumps = s.pumps := rfl
@[simp] theorem State.setChan_lines (s : State) (ch : Chan) (c : MonChan) : (s.setChan ch c).lines = s.lines := rfl
@[simp] theorem State.setChan_localPort (s : State) (ch : Chan) (c : MonChan) : (s.setChan ch c).localPort = s.localPort := rfl
@[simp] theorem State.setChan_table (s : State) (ch : Chan) (c : MonChan) : (s.setChan ch c).table = s.table := rfl
@[simp] theorem State.setChan_tableLen (s : State) (ch : Chan) (c : MonChan) : (s.setChan ch c).tableLen = s.tableLen := rfl
@[simp] theorem State.setChan_notices (s : State) (ch : Chan) (c : MonChan) : (s.setChan ch c).notices = s.notices := rfl
@[simp] theorem State.setChan_raised (s : State) (ch : Chan) (c : MonChan) : (s.setChan ch c).raised = s.raised := rfl
@[simp] theorem State.setChan_il (s : State) (ch : Chan) (c : MonChan) : (s.setChan ch c).il = s.il := rfl
@[simp] theorem State.setChan_supply (s : State) (ch : Chan) (c : MonChan) : (s.setChan ch c).supply = s.supply := rfl
@[simp] theorem State.setChan_pins (s : State) (ch : Chan) (c : MonChan) : (s.setChan ch c).pins = s.pins := rfl
@[simp] theorem State.setChan_owed (s : State) (ch : Chan) (c : MonChan) : (s.setChan ch c).owed = s.owed := rfl
@[simp] theorem State.setChan_out (s : State) (ch : Chan) (c : MonChan) : (s.setChan ch c).out = s.out := rfl
@[simp] theorem State.setChan_pending (s : State) (ch : Chan) (c : MonChan) : (s.setChan ch c).pending = s.pending := rfl

@[simp] theorem State.setInp_time (s : State) (sp : Span) (c : InputChan) : (s.setInp sp c).time = s.time := rfl
@[simp] theorem State.setInp_part (s : State) (sp : Span) (c : InputChan) : (s.setInp sp c).part = s.part := rfl
@[simp] theorem State.setInp_grants (s : State) (sp : Span) (c : InputChan) : (s.setInp sp c).grants = s.grants := rfl
@[simp] theorem State.setInp_hold (s : State) (sp : Span) (c : InputChan) : (s.setInp sp c).hold = s.hold := rfl
@[simp] theorem State.setInp_cfg (s : State) (sp : Span) (c : InputChan) : (s.setInp sp c).cfg = s.cfg := rfl
@[simp] theorem State.setInp_status (s : State) (sp : Span) (c : InputChan) : (s.setInp sp c).status = s.status := rfl
@[simp] theorem State.setInp_ring (s : State) (sp : Span) (c : InputChan) : (s.setInp sp c).ring = s.ring := rfl
@[simp] theorem State.setInp_mon (s : State) (sp : Span) (c : InputChan) : (s.setInp sp c).mon = s.mon := rfl
@[simp] theorem State.setInp_input (s : State) (sp : Span) (c : InputChan) : (s.setInp sp c).input = s.input.set sp c := rfl
@[simp] theorem State.setInp_refl (s : State) (sp : Span) (c : InputChan) : (s.setInp sp c).refl = s.refl := rfl
@[simp] theorem State.setInp_pumps (s : State) (sp : Span) (c : InputChan) : (s.setInp sp c).pumps = s.pumps := rfl
@[simp] theorem State.setInp_lines (s : State) (sp : Span) (c : InputChan) : (s.setInp sp c).lines = s.lines := rfl
@[simp] theorem State.setInp_localPort (s : State) (sp : Span) (c : InputChan) : (s.setInp sp c).localPort = s.localPort := rfl
@[simp] theorem State.setInp_table (s : State) (sp : Span) (c : InputChan) : (s.setInp sp c).table = s.table := rfl
@[simp] theorem State.setInp_tableLen (s : State) (sp : Span) (c : InputChan) : (s.setInp sp c).tableLen = s.tableLen := rfl
@[simp] theorem State.setInp_notices (s : State) (sp : Span) (c : InputChan) : (s.setInp sp c).notices = s.notices := rfl
@[simp] theorem State.setInp_raised (s : State) (sp : Span) (c : InputChan) : (s.setInp sp c).raised = s.raised := rfl
@[simp] theorem State.setInp_il (s : State) (sp : Span) (c : InputChan) : (s.setInp sp c).il = s.il := rfl
@[simp] theorem State.setInp_supply (s : State) (sp : Span) (c : InputChan) : (s.setInp sp c).supply = s.supply := rfl
@[simp] theorem State.setInp_pins (s : State) (sp : Span) (c : InputChan) : (s.setInp sp c).pins = s.pins := rfl
@[simp] theorem State.setInp_owed (s : State) (sp : Span) (c : InputChan) : (s.setInp sp c).owed = s.owed := rfl
@[simp] theorem State.setInp_out (s : State) (sp : Span) (c : InputChan) : (s.setInp sp c).out = s.out := rfl
@[simp] theorem State.setInp_pending (s : State) (sp : Span) (c : InputChan) : (s.setInp sp c).pending = s.pending := rfl

@[simp] theorem State.setReflection_time (s : State) (sp : Span) (c : ReflChan) : (s.setReflection sp c).time = s.time := rfl
@[simp] theorem State.setReflection_part (s : State) (sp : Span) (c : ReflChan) : (s.setReflection sp c).part = s.part := rfl
@[simp] theorem State.setReflection_grants (s : State) (sp : Span) (c : ReflChan) : (s.setReflection sp c).grants = s.grants := rfl
@[simp] theorem State.setReflection_hold (s : State) (sp : Span) (c : ReflChan) : (s.setReflection sp c).hold = s.hold := rfl
@[simp] theorem State.setReflection_cfg (s : State) (sp : Span) (c : ReflChan) : (s.setReflection sp c).cfg = s.cfg := rfl
@[simp] theorem State.setReflection_status (s : State) (sp : Span) (c : ReflChan) : (s.setReflection sp c).status = s.status := rfl
@[simp] theorem State.setReflection_ring (s : State) (sp : Span) (c : ReflChan) : (s.setReflection sp c).ring = s.ring := rfl
@[simp] theorem State.setReflection_mon (s : State) (sp : Span) (c : ReflChan) : (s.setReflection sp c).mon = s.mon := rfl
@[simp] theorem State.setReflection_input (s : State) (sp : Span) (c : ReflChan) : (s.setReflection sp c).input = s.input := rfl
@[simp] theorem State.setReflection_refl (s : State) (sp : Span) (c : ReflChan) : (s.setReflection sp c).refl = s.refl.set sp c := rfl
@[simp] theorem State.setReflection_pumps (s : State) (sp : Span) (c : ReflChan) : (s.setReflection sp c).pumps = s.pumps := rfl
@[simp] theorem State.setReflection_lines (s : State) (sp : Span) (c : ReflChan) : (s.setReflection sp c).lines = s.lines := rfl
@[simp] theorem State.setReflection_localPort (s : State) (sp : Span) (c : ReflChan) : (s.setReflection sp c).localPort = s.localPort := rfl
@[simp] theorem State.setReflection_table (s : State) (sp : Span) (c : ReflChan) : (s.setReflection sp c).table = s.table := rfl
@[simp] theorem State.setReflection_tableLen (s : State) (sp : Span) (c : ReflChan) : (s.setReflection sp c).tableLen = s.tableLen := rfl
@[simp] theorem State.setReflection_notices (s : State) (sp : Span) (c : ReflChan) : (s.setReflection sp c).notices = s.notices := rfl
@[simp] theorem State.setReflection_raised (s : State) (sp : Span) (c : ReflChan) : (s.setReflection sp c).raised = s.raised := rfl
@[simp] theorem State.setReflection_il (s : State) (sp : Span) (c : ReflChan) : (s.setReflection sp c).il = s.il := rfl
@[simp] theorem State.setReflection_supply (s : State) (sp : Span) (c : ReflChan) : (s.setReflection sp c).supply = s.supply := rfl
@[simp] theorem State.setReflection_pins (s : State) (sp : Span) (c : ReflChan) : (s.setReflection sp c).pins = s.pins := rfl
@[simp] theorem State.setReflection_owed (s : State) (sp : Span) (c : ReflChan) : (s.setReflection sp c).owed = s.owed := rfl
@[simp] theorem State.setReflection_out (s : State) (sp : Span) (c : ReflChan) : (s.setReflection sp c).out = s.out := rfl
@[simp] theorem State.setReflection_pending (s : State) (sp : Span) (c : ReflChan) : (s.setReflection sp c).pending = s.pending := rfl

@[simp] theorem State.setPump_time (s : State) (ch : Chan) (p : Pump) : (s.setPump ch p).time = s.time := rfl
@[simp] theorem State.setPump_part (s : State) (ch : Chan) (p : Pump) : (s.setPump ch p).part = s.part := rfl
@[simp] theorem State.setPump_grants (s : State) (ch : Chan) (p : Pump) : (s.setPump ch p).grants = s.grants := rfl
@[simp] theorem State.setPump_hold (s : State) (ch : Chan) (p : Pump) : (s.setPump ch p).hold = s.hold := rfl
@[simp] theorem State.setPump_cfg (s : State) (ch : Chan) (p : Pump) : (s.setPump ch p).cfg = s.cfg := rfl
@[simp] theorem State.setPump_status (s : State) (ch : Chan) (p : Pump) : (s.setPump ch p).status = s.status := rfl
@[simp] theorem State.setPump_ring (s : State) (ch : Chan) (p : Pump) : (s.setPump ch p).ring = s.ring := rfl
@[simp] theorem State.setPump_mon (s : State) (ch : Chan) (p : Pump) : (s.setPump ch p).mon = s.mon := rfl
@[simp] theorem State.setPump_input (s : State) (ch : Chan) (p : Pump) : (s.setPump ch p).input = s.input := rfl
@[simp] theorem State.setPump_refl (s : State) (ch : Chan) (p : Pump) : (s.setPump ch p).refl = s.refl := rfl
@[simp] theorem State.setPump_pumps (s : State) (ch : Chan) (p : Pump) : (s.setPump ch p).pumps = s.pumps.set ch p := rfl
@[simp] theorem State.setPump_lines (s : State) (ch : Chan) (p : Pump) : (s.setPump ch p).lines = s.lines := rfl
@[simp] theorem State.setPump_localPort (s : State) (ch : Chan) (p : Pump) : (s.setPump ch p).localPort = s.localPort := rfl
@[simp] theorem State.setPump_table (s : State) (ch : Chan) (p : Pump) : (s.setPump ch p).table = s.table := rfl
@[simp] theorem State.setPump_tableLen (s : State) (ch : Chan) (p : Pump) : (s.setPump ch p).tableLen = s.tableLen := rfl
@[simp] theorem State.setPump_notices (s : State) (ch : Chan) (p : Pump) : (s.setPump ch p).notices = s.notices := rfl
@[simp] theorem State.setPump_raised (s : State) (ch : Chan) (p : Pump) : (s.setPump ch p).raised = s.raised := rfl
@[simp] theorem State.setPump_il (s : State) (ch : Chan) (p : Pump) : (s.setPump ch p).il = s.il := rfl
@[simp] theorem State.setPump_supply (s : State) (ch : Chan) (p : Pump) : (s.setPump ch p).supply = s.supply := rfl
@[simp] theorem State.setPump_pins (s : State) (ch : Chan) (p : Pump) : (s.setPump ch p).pins = s.pins := rfl
@[simp] theorem State.setPump_owed (s : State) (ch : Chan) (p : Pump) : (s.setPump ch p).owed = s.owed := rfl
@[simp] theorem State.setPump_out (s : State) (ch : Chan) (p : Pump) : (s.setPump ch p).out = s.out := rfl
@[simp] theorem State.setPump_pending (s : State) (ch : Chan) (p : Pump) : (s.setPump ch p).pending = s.pending := rfl

@[simp] theorem State.setLine_time (s : State) (sp : Span) (l : LinePort) : (s.setLine sp l).time = s.time := rfl
@[simp] theorem State.setLine_part (s : State) (sp : Span) (l : LinePort) : (s.setLine sp l).part = s.part := rfl
@[simp] theorem State.setLine_grants (s : State) (sp : Span) (l : LinePort) : (s.setLine sp l).grants = s.grants := rfl
@[simp] theorem State.setLine_hold (s : State) (sp : Span) (l : LinePort) : (s.setLine sp l).hold = s.hold := rfl
@[simp] theorem State.setLine_cfg (s : State) (sp : Span) (l : LinePort) : (s.setLine sp l).cfg = s.cfg := rfl
@[simp] theorem State.setLine_status (s : State) (sp : Span) (l : LinePort) : (s.setLine sp l).status = s.status := rfl
@[simp] theorem State.setLine_ring (s : State) (sp : Span) (l : LinePort) : (s.setLine sp l).ring = s.ring := rfl
@[simp] theorem State.setLine_mon (s : State) (sp : Span) (l : LinePort) : (s.setLine sp l).mon = s.mon := rfl
@[simp] theorem State.setLine_input (s : State) (sp : Span) (l : LinePort) : (s.setLine sp l).input = s.input := rfl
@[simp] theorem State.setLine_refl (s : State) (sp : Span) (l : LinePort) : (s.setLine sp l).refl = s.refl := rfl
@[simp] theorem State.setLine_pumps (s : State) (sp : Span) (l : LinePort) : (s.setLine sp l).pumps = s.pumps := rfl
@[simp] theorem State.setLine_lines (s : State) (sp : Span) (l : LinePort) : (s.setLine sp l).lines = s.lines.set sp l := rfl
@[simp] theorem State.setLine_localPort (s : State) (sp : Span) (l : LinePort) : (s.setLine sp l).localPort = s.localPort := rfl
@[simp] theorem State.setLine_table (s : State) (sp : Span) (l : LinePort) : (s.setLine sp l).table = s.table := rfl
@[simp] theorem State.setLine_tableLen (s : State) (sp : Span) (l : LinePort) : (s.setLine sp l).tableLen = s.tableLen := rfl
@[simp] theorem State.setLine_notices (s : State) (sp : Span) (l : LinePort) : (s.setLine sp l).notices = s.notices := rfl
@[simp] theorem State.setLine_raised (s : State) (sp : Span) (l : LinePort) : (s.setLine sp l).raised = s.raised := rfl
@[simp] theorem State.setLine_il (s : State) (sp : Span) (l : LinePort) : (s.setLine sp l).il = s.il := rfl
@[simp] theorem State.setLine_supply (s : State) (sp : Span) (l : LinePort) : (s.setLine sp l).supply = s.supply := rfl
@[simp] theorem State.setLine_pins (s : State) (sp : Span) (l : LinePort) : (s.setLine sp l).pins = s.pins := rfl
@[simp] theorem State.setLine_owed (s : State) (sp : Span) (l : LinePort) : (s.setLine sp l).owed = s.owed := rfl
@[simp] theorem State.setLine_out (s : State) (sp : Span) (l : LinePort) : (s.setLine sp l).out = s.out := rfl
@[simp] theorem State.setLine_pending (s : State) (sp : Span) (l : LinePort) : (s.setLine sp l).pending = s.pending := rfl

@[simp] theorem State.setIlLine_time (s : State) (n : Chan) (l : IlLine) : (s.setIlLine n l).time = s.time := rfl
@[simp] theorem State.setIlLine_part (s : State) (n : Chan) (l : IlLine) : (s.setIlLine n l).part = s.part := rfl
@[simp] theorem State.setIlLine_grants (s : State) (n : Chan) (l : IlLine) : (s.setIlLine n l).grants = s.grants := rfl
@[simp] theorem State.setIlLine_hold (s : State) (n : Chan) (l : IlLine) : (s.setIlLine n l).hold = s.hold := rfl
@[simp] theorem State.setIlLine_cfg (s : State) (n : Chan) (l : IlLine) : (s.setIlLine n l).cfg = s.cfg := rfl
@[simp] theorem State.setIlLine_status (s : State) (n : Chan) (l : IlLine) : (s.setIlLine n l).status = s.status := rfl
@[simp] theorem State.setIlLine_ring (s : State) (n : Chan) (l : IlLine) : (s.setIlLine n l).ring = s.ring := rfl
@[simp] theorem State.setIlLine_mon (s : State) (n : Chan) (l : IlLine) : (s.setIlLine n l).mon = s.mon := rfl
@[simp] theorem State.setIlLine_input (s : State) (n : Chan) (l : IlLine) : (s.setIlLine n l).input = s.input := rfl
@[simp] theorem State.setIlLine_refl (s : State) (n : Chan) (l : IlLine) : (s.setIlLine n l).refl = s.refl := rfl
@[simp] theorem State.setIlLine_pumps (s : State) (n : Chan) (l : IlLine) : (s.setIlLine n l).pumps = s.pumps := rfl
@[simp] theorem State.setIlLine_lines (s : State) (n : Chan) (l : IlLine) : (s.setIlLine n l).lines = s.lines := rfl
@[simp] theorem State.setIlLine_localPort (s : State) (n : Chan) (l : IlLine) : (s.setIlLine n l).localPort = s.localPort := rfl
@[simp] theorem State.setIlLine_table (s : State) (n : Chan) (l : IlLine) : (s.setIlLine n l).table = s.table := rfl
@[simp] theorem State.setIlLine_tableLen (s : State) (n : Chan) (l : IlLine) : (s.setIlLine n l).tableLen = s.tableLen := rfl
@[simp] theorem State.setIlLine_notices (s : State) (n : Chan) (l : IlLine) : (s.setIlLine n l).notices = s.notices := rfl
@[simp] theorem State.setIlLine_raised (s : State) (n : Chan) (l : IlLine) : (s.setIlLine n l).raised = s.raised := rfl
@[simp] theorem State.setIlLine_il (s : State) (n : Chan) (l : IlLine) : (s.setIlLine n l).il = s.il.set n l := rfl
@[simp] theorem State.setIlLine_supply (s : State) (n : Chan) (l : IlLine) : (s.setIlLine n l).supply = s.supply := rfl
@[simp] theorem State.setIlLine_pins (s : State) (n : Chan) (l : IlLine) : (s.setIlLine n l).pins = s.pins := rfl
@[simp] theorem State.setIlLine_owed (s : State) (n : Chan) (l : IlLine) : (s.setIlLine n l).owed = s.owed := rfl
@[simp] theorem State.setIlLine_out (s : State) (n : Chan) (l : IlLine) : (s.setIlLine n l).out = s.out := rfl
@[simp] theorem State.setIlLine_pending (s : State) (n : Chan) (l : IlLine) : (s.setIlLine n l).pending = s.pending := rfl

@[simp] theorem State.setHeld_time (s : State) (sp : Span) (b : Bool) : (s.setHeld sp b).time = s.time := rfl
@[simp] theorem State.setHeld_part (s : State) (sp : Span) (b : Bool) : (s.setHeld sp b).part = s.part := rfl
@[simp] theorem State.setHeld_grants (s : State) (sp : Span) (b : Bool) : (s.setHeld sp b).grants = s.grants := rfl
@[simp] theorem State.setHeld_hold (s : State) (sp : Span) (b : Bool) : (s.setHeld sp b).hold = s.hold.set sp b := rfl
@[simp] theorem State.setHeld_cfg (s : State) (sp : Span) (b : Bool) : (s.setHeld sp b).cfg = s.cfg := rfl
@[simp] theorem State.setHeld_status (s : State) (sp : Span) (b : Bool) : (s.setHeld sp b).status = s.status := rfl
@[simp] theorem State.setHeld_ring (s : State) (sp : Span) (b : Bool) : (s.setHeld sp b).ring = s.ring := rfl
@[simp] theorem State.setHeld_mon (s : State) (sp : Span) (b : Bool) : (s.setHeld sp b).mon = s.mon := rfl
@[simp] theorem State.setHeld_input (s : State) (sp : Span) (b : Bool) : (s.setHeld sp b).input = s.input := rfl
@[simp] theorem State.setHeld_refl (s : State) (sp : Span) (b : Bool) : (s.setHeld sp b).refl = s.refl := rfl
@[simp] theorem State.setHeld_pumps (s : State) (sp : Span) (b : Bool) : (s.setHeld sp b).pumps = s.pumps := rfl
@[simp] theorem State.setHeld_lines (s : State) (sp : Span) (b : Bool) : (s.setHeld sp b).lines = s.lines := rfl
@[simp] theorem State.setHeld_localPort (s : State) (sp : Span) (b : Bool) : (s.setHeld sp b).localPort = s.localPort := rfl
@[simp] theorem State.setHeld_table (s : State) (sp : Span) (b : Bool) : (s.setHeld sp b).table = s.table := rfl
@[simp] theorem State.setHeld_tableLen (s : State) (sp : Span) (b : Bool) : (s.setHeld sp b).tableLen = s.tableLen := rfl
@[simp] theorem State.setHeld_notices (s : State) (sp : Span) (b : Bool) : (s.setHeld sp b).notices = s.notices := rfl
@[simp] theorem State.setHeld_raised (s : State) (sp : Span) (b : Bool) : (s.setHeld sp b).raised = s.raised := rfl
@[simp] theorem State.setHeld_il (s : State) (sp : Span) (b : Bool) : (s.setHeld sp b).il = s.il := rfl
@[simp] theorem State.setHeld_supply (s : State) (sp : Span) (b : Bool) : (s.setHeld sp b).supply = s.supply := rfl
@[simp] theorem State.setHeld_pins (s : State) (sp : Span) (b : Bool) : (s.setHeld sp b).pins = s.pins := rfl
@[simp] theorem State.setHeld_owed (s : State) (sp : Span) (b : Bool) : (s.setHeld sp b).owed = s.owed := rfl
@[simp] theorem State.setHeld_out (s : State) (sp : Span) (b : Bool) : (s.setHeld sp b).out = s.out := rfl
@[simp] theorem State.setHeld_pending (s : State) (sp : Span) (b : Bool) : (s.setHeld sp b).pending = s.pending := rfl

@[simp] theorem State.raise_time (s : State) (src : Block) (e : Event) (span : EvSpan) (subject : Subject) : (s.raise src e span subject).time = s.time := rfl
@[simp] theorem State.raise_part (s : State) (src : Block) (e : Event) (span : EvSpan) (subject : Subject) : (s.raise src e span subject).part = s.part := rfl
@[simp] theorem State.raise_grants (s : State) (src : Block) (e : Event) (span : EvSpan) (subject : Subject) : (s.raise src e span subject).grants = s.grants := rfl
@[simp] theorem State.raise_hold (s : State) (src : Block) (e : Event) (span : EvSpan) (subject : Subject) : (s.raise src e span subject).hold = s.hold := rfl
@[simp] theorem State.raise_cfg (s : State) (src : Block) (e : Event) (span : EvSpan) (subject : Subject) : (s.raise src e span subject).cfg = s.cfg := rfl
@[simp] theorem State.raise_status (s : State) (src : Block) (e : Event) (span : EvSpan) (subject : Subject) : (s.raise src e span subject).status = s.status := rfl
@[simp] theorem State.raise_ring (s : State) (src : Block) (e : Event) (span : EvSpan) (subject : Subject) : (s.raise src e span subject).ring = s.ring := rfl
@[simp] theorem State.raise_mon (s : State) (src : Block) (e : Event) (span : EvSpan) (subject : Subject) : (s.raise src e span subject).mon = s.mon := rfl
@[simp] theorem State.raise_input (s : State) (src : Block) (e : Event) (span : EvSpan) (subject : Subject) : (s.raise src e span subject).input = s.input := rfl
@[simp] theorem State.raise_refl (s : State) (src : Block) (e : Event) (span : EvSpan) (subject : Subject) : (s.raise src e span subject).refl = s.refl := rfl
@[simp] theorem State.raise_pumps (s : State) (src : Block) (e : Event) (span : EvSpan) (subject : Subject) : (s.raise src e span subject).pumps = s.pumps := rfl
@[simp] theorem State.raise_lines (s : State) (src : Block) (e : Event) (span : EvSpan) (subject : Subject) : (s.raise src e span subject).lines = s.lines := rfl
@[simp] theorem State.raise_localPort (s : State) (src : Block) (e : Event) (span : EvSpan) (subject : Subject) : (s.raise src e span subject).localPort = s.localPort := rfl
@[simp] theorem State.raise_table (s : State) (src : Block) (e : Event) (span : EvSpan) (subject : Subject) : (s.raise src e span subject).table = s.table := rfl
@[simp] theorem State.raise_tableLen (s : State) (src : Block) (e : Event) (span : EvSpan) (subject : Subject) : (s.raise src e span subject).tableLen = s.tableLen := rfl
@[simp] theorem State.raise_notices (s : State) (src : Block) (e : Event) (span : EvSpan) (subject : Subject) : (s.raise src e span subject).notices = s.notices := rfl
@[simp] theorem State.raise_raised (s : State) (src : Block) (e : Event) (span : EvSpan) (subject : Subject) : (s.raise src e span subject).raised = s.raised ++ [⟨src, e, span, subject, s.time.tickCount, false⟩] := rfl
@[simp] theorem State.raise_il (s : State) (src : Block) (e : Event) (span : EvSpan) (subject : Subject) : (s.raise src e span subject).il = s.il := rfl
@[simp] theorem State.raise_supply (s : State) (src : Block) (e : Event) (span : EvSpan) (subject : Subject) : (s.raise src e span subject).supply = s.supply := rfl
@[simp] theorem State.raise_pins (s : State) (src : Block) (e : Event) (span : EvSpan) (subject : Subject) : (s.raise src e span subject).pins = s.pins := rfl
@[simp] theorem State.raise_owed (s : State) (src : Block) (e : Event) (span : EvSpan) (subject : Subject) : (s.raise src e span subject).owed = s.owed := rfl
@[simp] theorem State.raise_out (s : State) (src : Block) (e : Event) (span : EvSpan) (subject : Subject) : (s.raise src e span subject).out = s.out := rfl
@[simp] theorem State.raise_pending (s : State) (src : Block) (e : Event) (span : EvSpan) (subject : Subject) : (s.raise src e span subject).pending = s.pending := rfl

@[simp] theorem State.emit_time (s : State) (o : Output) : (s.emit o).time = s.time := rfl
@[simp] theorem State.emit_part (s : State) (o : Output) : (s.emit o).part = s.part := rfl
@[simp] theorem State.emit_grants (s : State) (o : Output) : (s.emit o).grants = s.grants := rfl
@[simp] theorem State.emit_hold (s : State) (o : Output) : (s.emit o).hold = s.hold := rfl
@[simp] theorem State.emit_cfg (s : State) (o : Output) : (s.emit o).cfg = s.cfg := rfl
@[simp] theorem State.emit_status (s : State) (o : Output) : (s.emit o).status = s.status := rfl
@[simp] theorem State.emit_ring (s : State) (o : Output) : (s.emit o).ring = s.ring := rfl
@[simp] theorem State.emit_mon (s : State) (o : Output) : (s.emit o).mon = s.mon := rfl
@[simp] theorem State.emit_input (s : State) (o : Output) : (s.emit o).input = s.input := rfl
@[simp] theorem State.emit_refl (s : State) (o : Output) : (s.emit o).refl = s.refl := rfl
@[simp] theorem State.emit_pumps (s : State) (o : Output) : (s.emit o).pumps = s.pumps := rfl
@[simp] theorem State.emit_lines (s : State) (o : Output) : (s.emit o).lines = s.lines := rfl
@[simp] theorem State.emit_localPort (s : State) (o : Output) : (s.emit o).localPort = s.localPort := rfl
@[simp] theorem State.emit_table (s : State) (o : Output) : (s.emit o).table = s.table := rfl
@[simp] theorem State.emit_tableLen (s : State) (o : Output) : (s.emit o).tableLen = s.tableLen := rfl
@[simp] theorem State.emit_notices (s : State) (o : Output) : (s.emit o).notices = s.notices := rfl
@[simp] theorem State.emit_raised (s : State) (o : Output) : (s.emit o).raised = s.raised := rfl
@[simp] theorem State.emit_il (s : State) (o : Output) : (s.emit o).il = s.il := rfl
@[simp] theorem State.emit_supply (s : State) (o : Output) : (s.emit o).supply = s.supply := rfl
@[simp] theorem State.emit_pins (s : State) (o : Output) : (s.emit o).pins = s.pins := rfl
@[simp] theorem State.emit_owed (s : State) (o : Output) : (s.emit o).owed = s.owed := rfl
@[simp] theorem State.emit_out (s : State) (o : Output) : (s.emit o).out = s.out ++ [o] := rfl
@[simp] theorem State.emit_pending (s : State) (o : Output) : (s.emit o).pending = s.pending := rfl

@[simp] theorem State.clearOut_time (s : State) : (s.clearOut).time = s.time := rfl
@[simp] theorem State.clearOut_part (s : State) : (s.clearOut).part = s.part := rfl
@[simp] theorem State.clearOut_grants (s : State) : (s.clearOut).grants = s.grants := rfl
@[simp] theorem State.clearOut_hold (s : State) : (s.clearOut).hold = s.hold := rfl
@[simp] theorem State.clearOut_cfg (s : State) : (s.clearOut).cfg = s.cfg := rfl
@[simp] theorem State.clearOut_status (s : State) : (s.clearOut).status = s.status := rfl
@[simp] theorem State.clearOut_ring (s : State) : (s.clearOut).ring = s.ring := rfl
@[simp] theorem State.clearOut_mon (s : State) : (s.clearOut).mon = s.mon := rfl
@[simp] theorem State.clearOut_input (s : State) : (s.clearOut).input = s.input := rfl
@[simp] theorem State.clearOut_refl (s : State) : (s.clearOut).refl = s.refl := rfl
@[simp] theorem State.clearOut_pumps (s : State) : (s.clearOut).pumps = s.pumps := rfl
@[simp] theorem State.clearOut_lines (s : State) : (s.clearOut).lines = s.lines := rfl
@[simp] theorem State.clearOut_localPort (s : State) : (s.clearOut).localPort = s.localPort := rfl
@[simp] theorem State.clearOut_table (s : State) : (s.clearOut).table = s.table := rfl
@[simp] theorem State.clearOut_tableLen (s : State) : (s.clearOut).tableLen = s.tableLen := rfl
@[simp] theorem State.clearOut_notices (s : State) : (s.clearOut).notices = s.notices := rfl
@[simp] theorem State.clearOut_raised (s : State) : (s.clearOut).raised = s.raised := rfl
@[simp] theorem State.clearOut_il (s : State) : (s.clearOut).il = s.il := rfl
@[simp] theorem State.clearOut_supply (s : State) : (s.clearOut).supply = s.supply := rfl
@[simp] theorem State.clearOut_pins (s : State) : (s.clearOut).pins = s.pins := rfl
@[simp] theorem State.clearOut_owed (s : State) : (s.clearOut).owed = s.owed := rfl
@[simp] theorem State.clearOut_out (s : State) : (s.clearOut).out = [] := rfl
@[simp] theorem State.clearOut_pending (s : State) : (s.clearOut).pending = s.pending := rfl

@[simp] theorem State.dropJob_time (s : State) (j : TickJob) : (s.dropJob j).time = s.time := rfl
@[simp] theorem State.dropJob_part (s : State) (j : TickJob) : (s.dropJob j).part = s.part := rfl
@[simp] theorem State.dropJob_grants (s : State) (j : TickJob) : (s.dropJob j).grants = s.grants := rfl
@[simp] theorem State.dropJob_hold (s : State) (j : TickJob) : (s.dropJob j).hold = s.hold := rfl
@[simp] theorem State.dropJob_cfg (s : State) (j : TickJob) : (s.dropJob j).cfg = s.cfg := rfl
@[simp] theorem State.dropJob_status (s : State) (j : TickJob) : (s.dropJob j).status = s.status := rfl
@[simp] theorem State.dropJob_ring (s : State) (j : TickJob) : (s.dropJob j).ring = s.ring := rfl
@[simp] theorem State.dropJob_mon (s : State) (j : TickJob) : (s.dropJob j).mon = s.mon := rfl
@[simp] theorem State.dropJob_input (s : State) (j : TickJob) : (s.dropJob j).input = s.input := rfl
@[simp] theorem State.dropJob_refl (s : State) (j : TickJob) : (s.dropJob j).refl = s.refl := rfl
@[simp] theorem State.dropJob_pumps (s : State) (j : TickJob) : (s.dropJob j).pumps = s.pumps := rfl
@[simp] theorem State.dropJob_lines (s : State) (j : TickJob) : (s.dropJob j).lines = s.lines := rfl
@[simp] theorem State.dropJob_localPort (s : State) (j : TickJob) : (s.dropJob j).localPort = s.localPort := rfl
@[simp] theorem State.dropJob_table (s : State) (j : TickJob) : (s.dropJob j).table = s.table := rfl
@[simp] theorem State.dropJob_tableLen (s : State) (j : TickJob) : (s.dropJob j).tableLen = s.tableLen := rfl
@[simp] theorem State.dropJob_notices (s : State) (j : TickJob) : (s.dropJob j).notices = s.notices := rfl
@[simp] theorem State.dropJob_raised (s : State) (j : TickJob) : (s.dropJob j).raised = s.raised := rfl
@[simp] theorem State.dropJob_il (s : State) (j : TickJob) : (s.dropJob j).il = s.il := rfl
@[simp] theorem State.dropJob_supply (s : State) (j : TickJob) : (s.dropJob j).supply = s.supply := rfl
@[simp] theorem State.dropJob_pins (s : State) (j : TickJob) : (s.dropJob j).pins = s.pins := rfl
@[simp] theorem State.dropJob_owed (s : State) (j : TickJob) : (s.dropJob j).owed = s.owed.filter fun k => k ≠ j := rfl
@[simp] theorem State.dropJob_out (s : State) (j : TickJob) : (s.dropJob j).out = s.out := rfl
@[simp] theorem State.dropJob_pending (s : State) (j : TickJob) : (s.dropJob j).pending = s.pending := rfl

/-! ### Records after an update of another kind of record -/

@[simp] theorem State.setConfig_st (s : State) (sp : Span) (c : SpanConfig) (sp' : Span) : (s.setConfig sp c).st sp' = s.st sp' := rfl
@[simp] theorem State.setConfig_slots (s : State) (sp : Span) (c : SpanConfig) (sp' : Span) : (s.setConfig sp c).slots sp' = s.slots sp' := rfl
@[simp] theorem State.setConfig_chan (s : State) (sp : Span) (c : SpanConfig) (ch' : Chan) : (s.setConfig sp c).chan ch' = s.chan ch' := rfl
@[simp] theorem State.setConfig_inp (s : State) (sp : Span) (c : SpanConfig) (sp' : Span) : (s.setConfig sp c).inp sp' = s.inp sp' := rfl
@[simp] theorem State.setConfig_reflection (s : State) (sp : Span) (c : SpanConfig) (sp' : Span) : (s.setConfig sp c).reflection sp' = s.reflection sp' := rfl
@[simp] theorem State.setConfig_pump (s : State) (sp : Span) (c : SpanConfig) (ch' : Chan) : (s.setConfig sp c).pump ch' = s.pump ch' := rfl
@[simp] theorem State.setConfig_line (s : State) (sp : Span) (c : SpanConfig) (sp' : Span) : (s.setConfig sp c).line sp' = s.line sp' := rfl
@[simp] theorem State.setConfig_ilLine (s : State) (sp : Span) (c : SpanConfig) (n' : Chan) : (s.setConfig sp c).ilLine n' = s.ilLine n' := rfl
@[simp] theorem State.setConfig_held (s : State) (sp : Span) (c : SpanConfig) (sp' : Span) : (s.setConfig sp c).held sp' = s.held sp' := rfl

@[simp] theorem State.setSt_config (s : State) (sp : Span) (x : SpanStatus) (sp' : Span) : (s.setSt sp x).config sp' = s.config sp' := rfl
@[simp] theorem State.setSt_slots (s : State) (sp : Span) (x : SpanStatus) (sp' : Span) : (s.setSt sp x).slots sp' = s.slots sp' := rfl
@[simp] theorem State.setSt_chan (s : State) (sp : Span) (x : SpanStatus) (ch' : Chan) : (s.setSt sp x).chan ch' = s.chan ch' := rfl
@[simp] theorem State.setSt_inp (s : State) (sp : Span) (x : SpanStatus) (sp' : Span) : (s.setSt sp x).inp sp' = s.inp sp' := rfl
@[simp] theorem State.setSt_reflection (s : State) (sp : Span) (x : SpanStatus) (sp' : Span) : (s.setSt sp x).reflection sp' = s.reflection sp' := rfl
@[simp] theorem State.setSt_pump (s : State) (sp : Span) (x : SpanStatus) (ch' : Chan) : (s.setSt sp x).pump ch' = s.pump ch' := rfl
@[simp] theorem State.setSt_line (s : State) (sp : Span) (x : SpanStatus) (sp' : Span) : (s.setSt sp x).line sp' = s.line sp' := rfl
@[simp] theorem State.setSt_ilLine (s : State) (sp : Span) (x : SpanStatus) (n' : Chan) : (s.setSt sp x).ilLine n' = s.ilLine n' := rfl
@[simp] theorem State.setSt_held (s : State) (sp : Span) (x : SpanStatus) (sp' : Span) : (s.setSt sp x).held sp' = s.held sp' := rfl

@[simp] theorem State.setSlots_config (s : State) (sp : Span) (r : List Nat) (sp' : Span) : (s.setSlots sp r).config sp' = s.config sp' := rfl
@[simp] theorem State.setSlots_st (s : State) (sp : Span) (r : List Nat) (sp' : Span) : (s.setSlots sp r).st sp' = s.st sp' := rfl
@[simp] theorem State.setSlots_chan (s : State) (sp : Span) (r : List Nat) (ch' : Chan) : (s.setSlots sp r).chan ch' = s.chan ch' := rfl
@[simp] theorem State.setSlots_inp (s : State) (sp : Span) (r : List Nat) (sp' : Span) : (s.setSlots sp r).inp sp' = s.inp sp' := rfl
@[simp] theorem State.setSlots_reflection (s : State) (sp : Span) (r : List Nat) (sp' : Span) : (s.setSlots sp r).reflection sp' = s.reflection sp' := rfl
@[simp] theorem State.setSlots_pump (s : State) (sp : Span) (r : List Nat) (ch' : Chan) : (s.setSlots sp r).pump ch' = s.pump ch' := rfl
@[simp] theorem State.setSlots_line (s : State) (sp : Span) (r : List Nat) (sp' : Span) : (s.setSlots sp r).line sp' = s.line sp' := rfl
@[simp] theorem State.setSlots_ilLine (s : State) (sp : Span) (r : List Nat) (n' : Chan) : (s.setSlots sp r).ilLine n' = s.ilLine n' := rfl
@[simp] theorem State.setSlots_held (s : State) (sp : Span) (r : List Nat) (sp' : Span) : (s.setSlots sp r).held sp' = s.held sp' := rfl

@[simp] theorem State.setChan_config (s : State) (ch : Chan) (c : MonChan) (sp' : Span) : (s.setChan ch c).config sp' = s.config sp' := rfl
@[simp] theorem State.setChan_st (s : State) (ch : Chan) (c : MonChan) (sp' : Span) : (s.setChan ch c).st sp' = s.st sp' := rfl
@[simp] theorem State.setChan_slots (s : State) (ch : Chan) (c : MonChan) (sp' : Span) : (s.setChan ch c).slots sp' = s.slots sp' := rfl
@[simp] theorem State.setChan_inp (s : State) (ch : Chan) (c : MonChan) (sp' : Span) : (s.setChan ch c).inp sp' = s.inp sp' := rfl
@[simp] theorem State.setChan_reflection (s : State) (ch : Chan) (c : MonChan) (sp' : Span) : (s.setChan ch c).reflection sp' = s.reflection sp' := rfl
@[simp] theorem State.setChan_pump (s : State) (ch : Chan) (c : MonChan) (ch' : Chan) : (s.setChan ch c).pump ch' = s.pump ch' := rfl
@[simp] theorem State.setChan_line (s : State) (ch : Chan) (c : MonChan) (sp' : Span) : (s.setChan ch c).line sp' = s.line sp' := rfl
@[simp] theorem State.setChan_ilLine (s : State) (ch : Chan) (c : MonChan) (n' : Chan) : (s.setChan ch c).ilLine n' = s.ilLine n' := rfl
@[simp] theorem State.setChan_held (s : State) (ch : Chan) (c : MonChan) (sp' : Span) : (s.setChan ch c).held sp' = s.held sp' := rfl

@[simp] theorem State.setInp_config (s : State) (sp : Span) (c : InputChan) (sp' : Span) : (s.setInp sp c).config sp' = s.config sp' := rfl
@[simp] theorem State.setInp_st (s : State) (sp : Span) (c : InputChan) (sp' : Span) : (s.setInp sp c).st sp' = s.st sp' := rfl
@[simp] theorem State.setInp_slots (s : State) (sp : Span) (c : InputChan) (sp' : Span) : (s.setInp sp c).slots sp' = s.slots sp' := rfl
@[simp] theorem State.setInp_chan (s : State) (sp : Span) (c : InputChan) (ch' : Chan) : (s.setInp sp c).chan ch' = s.chan ch' := rfl
@[simp] theorem State.setInp_reflection (s : State) (sp : Span) (c : InputChan) (sp' : Span) : (s.setInp sp c).reflection sp' = s.reflection sp' := rfl
@[simp] theorem State.setInp_pump (s : State) (sp : Span) (c : InputChan) (ch' : Chan) : (s.setInp sp c).pump ch' = s.pump ch' := rfl
@[simp] theorem State.setInp_line (s : State) (sp : Span) (c : InputChan) (sp' : Span) : (s.setInp sp c).line sp' = s.line sp' := rfl
@[simp] theorem State.setInp_ilLine (s : State) (sp : Span) (c : InputChan) (n' : Chan) : (s.setInp sp c).ilLine n' = s.ilLine n' := rfl
@[simp] theorem State.setInp_held (s : State) (sp : Span) (c : InputChan) (sp' : Span) : (s.setInp sp c).held sp' = s.held sp' := rfl

@[simp] theorem State.setReflection_config (s : State) (sp : Span) (c : ReflChan) (sp' : Span) : (s.setReflection sp c).config sp' = s.config sp' := rfl
@[simp] theorem State.setReflection_st (s : State) (sp : Span) (c : ReflChan) (sp' : Span) : (s.setReflection sp c).st sp' = s.st sp' := rfl
@[simp] theorem State.setReflection_slots (s : State) (sp : Span) (c : ReflChan) (sp' : Span) : (s.setReflection sp c).slots sp' = s.slots sp' := rfl
@[simp] theorem State.setReflection_chan (s : State) (sp : Span) (c : ReflChan) (ch' : Chan) : (s.setReflection sp c).chan ch' = s.chan ch' := rfl
@[simp] theorem State.setReflection_inp (s : State) (sp : Span) (c : ReflChan) (sp' : Span) : (s.setReflection sp c).inp sp' = s.inp sp' := rfl
@[simp] theorem State.setReflection_pump (s : State) (sp : Span) (c : ReflChan) (ch' : Chan) : (s.setReflection sp c).pump ch' = s.pump ch' := rfl
@[simp] theorem State.setReflection_line (s : State) (sp : Span) (c : ReflChan) (sp' : Span) : (s.setReflection sp c).line sp' = s.line sp' := rfl
@[simp] theorem State.setReflection_ilLine (s : State) (sp : Span) (c : ReflChan) (n' : Chan) : (s.setReflection sp c).ilLine n' = s.ilLine n' := rfl
@[simp] theorem State.setReflection_held (s : State) (sp : Span) (c : ReflChan) (sp' : Span) : (s.setReflection sp c).held sp' = s.held sp' := rfl

@[simp] theorem State.setPump_config (s : State) (ch : Chan) (p : Pump) (sp' : Span) : (s.setPump ch p).config sp' = s.config sp' := rfl
@[simp] theorem State.setPump_st (s : State) (ch : Chan) (p : Pump) (sp' : Span) : (s.setPump ch p).st sp' = s.st sp' := rfl
@[simp] theorem State.setPump_slots (s : State) (ch : Chan) (p : Pump) (sp' : Span) : (s.setPump ch p).slots sp' = s.slots sp' := rfl
@[simp] theorem State.setPump_chan (s : State) (ch : Chan) (p : Pump) (ch' : Chan) : (s.setPump ch p).chan ch' = s.chan ch' := rfl
@[simp] theorem State.setPump_inp (s : State) (ch : Chan) (p : Pump) (sp' : Span) : (s.setPump ch p).inp sp' = s.inp sp' := rfl
@[simp] theorem State.setPump_reflection (s : State) (ch : Chan) (p : Pump) (sp' : Span) : (s.setPump ch p).reflection sp' = s.reflection sp' := rfl
@[simp] theorem State.setPump_line (s : State) (ch : Chan) (p : Pump) (sp' : Span) : (s.setPump ch p).line sp' = s.line sp' := rfl
@[simp] theorem State.setPump_ilLine (s : State) (ch : Chan) (p : Pump) (n' : Chan) : (s.setPump ch p).ilLine n' = s.ilLine n' := rfl
@[simp] theorem State.setPump_held (s : State) (ch : Chan) (p : Pump) (sp' : Span) : (s.setPump ch p).held sp' = s.held sp' := rfl

@[simp] theorem State.setLine_config (s : State) (sp : Span) (l : LinePort) (sp' : Span) : (s.setLine sp l).config sp' = s.config sp' := rfl
@[simp] theorem State.setLine_st (s : State) (sp : Span) (l : LinePort) (sp' : Span) : (s.setLine sp l).st sp' = s.st sp' := rfl
@[simp] theorem State.setLine_slots (s : State) (sp : Span) (l : LinePort) (sp' : Span) : (s.setLine sp l).slots sp' = s.slots sp' := rfl
@[simp] theorem State.setLine_chan (s : State) (sp : Span) (l : LinePort) (ch' : Chan) : (s.setLine sp l).chan ch' = s.chan ch' := rfl
@[simp] theorem State.setLine_inp (s : State) (sp : Span) (l : LinePort) (sp' : Span) : (s.setLine sp l).inp sp' = s.inp sp' := rfl
@[simp] theorem State.setLine_reflection (s : State) (sp : Span) (l : LinePort) (sp' : Span) : (s.setLine sp l).reflection sp' = s.reflection sp' := rfl
@[simp] theorem State.setLine_pump (s : State) (sp : Span) (l : LinePort) (ch' : Chan) : (s.setLine sp l).pump ch' = s.pump ch' := rfl
@[simp] theorem State.setLine_ilLine (s : State) (sp : Span) (l : LinePort) (n' : Chan) : (s.setLine sp l).ilLine n' = s.ilLine n' := rfl
@[simp] theorem State.setLine_held (s : State) (sp : Span) (l : LinePort) (sp' : Span) : (s.setLine sp l).held sp' = s.held sp' := rfl

@[simp] theorem State.setIlLine_config (s : State) (n : Chan) (l : IlLine) (sp' : Span) : (s.setIlLine n l).config sp' = s.config sp' := rfl
@[simp] theorem State.setIlLine_st (s : State) (n : Chan) (l : IlLine) (sp' : Span) : (s.setIlLine n l).st sp' = s.st sp' := rfl
@[simp] theorem State.setIlLine_slots (s : State) (n : Chan) (l : IlLine) (sp' : Span) : (s.setIlLine n l).slots sp' = s.slots sp' := rfl
@[simp] theorem State.setIlLine_chan (s : State) (n : Chan) (l : IlLine) (ch' : Chan) : (s.setIlLine n l).chan ch' = s.chan ch' := rfl
@[simp] theorem State.setIlLine_inp (s : State) (n : Chan) (l : IlLine) (sp' : Span) : (s.setIlLine n l).inp sp' = s.inp sp' := rfl
@[simp] theorem State.setIlLine_reflection (s : State) (n : Chan) (l : IlLine) (sp' : Span) : (s.setIlLine n l).reflection sp' = s.reflection sp' := rfl
@[simp] theorem State.setIlLine_pump (s : State) (n : Chan) (l : IlLine) (ch' : Chan) : (s.setIlLine n l).pump ch' = s.pump ch' := rfl
@[simp] theorem State.setIlLine_line (s : State) (n : Chan) (l : IlLine) (sp' : Span) : (s.setIlLine n l).line sp' = s.line sp' := rfl
@[simp] theorem State.setIlLine_held (s : State) (n : Chan) (l : IlLine) (sp' : Span) : (s.setIlLine n l).held sp' = s.held sp' := rfl

@[simp] theorem State.setHeld_config (s : State) (sp : Span) (b : Bool) (sp' : Span) : (s.setHeld sp b).config sp' = s.config sp' := rfl
@[simp] theorem State.setHeld_st (s : State) (sp : Span) (b : Bool) (sp' : Span) : (s.setHeld sp b).st sp' = s.st sp' := rfl
@[simp] theorem State.setHeld_slots (s : State) (sp : Span) (b : Bool) (sp' : Span) : (s.setHeld sp b).slots sp' = s.slots sp' := rfl
@[simp] theorem State.setHeld_chan (s : State) (sp : Span) (b : Bool) (ch' : Chan) : (s.setHeld sp b).chan ch' = s.chan ch' := rfl
@[simp] theorem State.setHeld_inp (s : State) (sp : Span) (b : Bool) (sp' : Span) : (s.setHeld sp b).inp sp' = s.inp sp' := rfl
@[simp] theorem State.setHeld_reflection (s : State) (sp : Span) (b : Bool) (sp' : Span) : (s.setHeld sp b).reflection sp' = s.reflection sp' := rfl
@[simp] theorem State.setHeld_pump (s : State) (sp : Span) (b : Bool) (ch' : Chan) : (s.setHeld sp b).pump ch' = s.pump ch' := rfl
@[simp] theorem State.setHeld_line (s : State) (sp : Span) (b : Bool) (sp' : Span) : (s.setHeld sp b).line sp' = s.line sp' := rfl
@[simp] theorem State.setHeld_ilLine (s : State) (sp : Span) (b : Bool) (n' : Chan) : (s.setHeld sp b).ilLine n' = s.ilLine n' := rfl

@[simp] theorem State.raise_config (s : State) (src : Block) (e : Event) (span : EvSpan) (subject : Subject) (sp' : Span) : (s.raise src e span subject).config sp' = s.config sp' := rfl
@[simp] theorem State.raise_st (s : State) (src : Block) (e : Event) (span : EvSpan) (subject : Subject) (sp' : Span) : (s.raise src e span subject).st sp' = s.st sp' := rfl
@[simp] theorem State.raise_slots (s : State) (src : Block) (e : Event) (span : EvSpan) (subject : Subject) (sp' : Span) : (s.raise src e span subject).slots sp' = s.slots sp' := rfl
@[simp] theorem State.raise_chan (s : State) (src : Block) (e : Event) (span : EvSpan) (subject : Subject) (ch' : Chan) : (s.raise src e span subject).chan ch' = s.chan ch' := rfl
@[simp] theorem State.raise_inp (s : State) (src : Block) (e : Event) (span : EvSpan) (subject : Subject) (sp' : Span) : (s.raise src e span subject).inp sp' = s.inp sp' := rfl
@[simp] theorem State.raise_reflection (s : State) (src : Block) (e : Event) (span : EvSpan) (subject : Subject) (sp' : Span) : (s.raise src e span subject).reflection sp' = s.reflection sp' := rfl
@[simp] theorem State.raise_pump (s : State) (src : Block) (e : Event) (span : EvSpan) (subject : Subject) (ch' : Chan) : (s.raise src e span subject).pump ch' = s.pump ch' := rfl
@[simp] theorem State.raise_line (s : State) (src : Block) (e : Event) (span : EvSpan) (subject : Subject) (sp' : Span) : (s.raise src e span subject).line sp' = s.line sp' := rfl
@[simp] theorem State.raise_ilLine (s : State) (src : Block) (e : Event) (span : EvSpan) (subject : Subject) (n' : Chan) : (s.raise src e span subject).ilLine n' = s.ilLine n' := rfl
@[simp] theorem State.raise_held (s : State) (src : Block) (e : Event) (span : EvSpan) (subject : Subject) (sp' : Span) : (s.raise src e span subject).held sp' = s.held sp' := rfl

@[simp] theorem State.emit_config (s : State) (o : Output) (sp' : Span) : (s.emit o).config sp' = s.config sp' := rfl
@[simp] theorem State.emit_st (s : State) (o : Output) (sp' : Span) : (s.emit o).st sp' = s.st sp' := rfl
@[simp] theorem State.emit_slots (s : State) (o : Output) (sp' : Span) : (s.emit o).slots sp' = s.slots sp' := rfl
@[simp] theorem State.emit_chan (s : State) (o : Output) (ch' : Chan) : (s.emit o).chan ch' = s.chan ch' := rfl
@[simp] theorem State.emit_inp (s : State) (o : Output) (sp' : Span) : (s.emit o).inp sp' = s.inp sp' := rfl
@[simp] theorem State.emit_reflection (s : State) (o : Output) (sp' : Span) : (s.emit o).reflection sp' = s.reflection sp' := rfl
@[simp] theorem State.emit_pump (s : State) (o : Output) (ch' : Chan) : (s.emit o).pump ch' = s.pump ch' := rfl
@[simp] theorem State.emit_line (s : State) (o : Output) (sp' : Span) : (s.emit o).line sp' = s.line sp' := rfl
@[simp] theorem State.emit_ilLine (s : State) (o : Output) (n' : Chan) : (s.emit o).ilLine n' = s.ilLine n' := rfl
@[simp] theorem State.emit_held (s : State) (o : Output) (sp' : Span) : (s.emit o).held sp' = s.held sp' := rfl

@[simp] theorem State.clearOut_config (s : State) (sp' : Span) : (s.clearOut).config sp' = s.config sp' := rfl
@[simp] theorem State.clearOut_st (s : State) (sp' : Span) : (s.clearOut).st sp' = s.st sp' := rfl
@[simp] theorem State.clearOut_slots (s : State) (sp' : Span) : (s.clearOut).slots sp' = s.slots sp' := rfl
@[simp] theorem State.clearOut_chan (s : State) (ch' : Chan) : (s.clearOut).chan ch' = s.chan ch' := rfl
@[simp] theorem State.clearOut_inp (s : State) (sp' : Span) : (s.clearOut).inp sp' = s.inp sp' := rfl
@[simp] theorem State.clearOut_reflection (s : State) (sp' : Span) : (s.clearOut).reflection sp' = s.reflection sp' := rfl
@[simp] theorem State.clearOut_pump (s : State) (ch' : Chan) : (s.clearOut).pump ch' = s.pump ch' := rfl
@[simp] theorem State.clearOut_line (s : State) (sp' : Span) : (s.clearOut).line sp' = s.line sp' := rfl
@[simp] theorem State.clearOut_ilLine (s : State) (n' : Chan) : (s.clearOut).ilLine n' = s.ilLine n' := rfl
@[simp] theorem State.clearOut_held (s : State) (sp' : Span) : (s.clearOut).held sp' = s.held sp' := rfl

@[simp] theorem State.dropJob_config (s : State) (j : TickJob) (sp' : Span) : (s.dropJob j).config sp' = s.config sp' := rfl
@[simp] theorem State.dropJob_st (s : State) (j : TickJob) (sp' : Span) : (s.dropJob j).st sp' = s.st sp' := rfl
@[simp] theorem State.dropJob_slots (s : State) (j : TickJob) (sp' : Span) : (s.dropJob j).slots sp' = s.slots sp' := rfl
@[simp] theorem State.dropJob_chan (s : State) (j : TickJob) (ch' : Chan) : (s.dropJob j).chan ch' = s.chan ch' := rfl
@[simp] theorem State.dropJob_inp (s : State) (j : TickJob) (sp' : Span) : (s.dropJob j).inp sp' = s.inp sp' := rfl
@[simp] theorem State.dropJob_reflection (s : State) (j : TickJob) (sp' : Span) : (s.dropJob j).reflection sp' = s.reflection sp' := rfl
@[simp] theorem State.dropJob_pump (s : State) (j : TickJob) (ch' : Chan) : (s.dropJob j).pump ch' = s.pump ch' := rfl
@[simp] theorem State.dropJob_line (s : State) (j : TickJob) (sp' : Span) : (s.dropJob j).line sp' = s.line sp' := rfl
@[simp] theorem State.dropJob_ilLine (s : State) (j : TickJob) (n' : Chan) : (s.dropJob j).ilLine n' = s.ilLine n' := rfl
@[simp] theorem State.dropJob_held (s : State) (j : TickJob) (sp' : Span) : (s.dropJob j).held sp' = s.held sp' := rfl

/-! ### Records after an update of their own kind -/

@[simp] theorem State.setConfig_config_self (s : State) (sp : Span) (c : SpanConfig) : (s.setConfig sp c).config sp = c := PerSpan.get_set_self ..

@[simp] theorem State.setConfig_config_other (s : State) (sp : Span) (c : SpanConfig) : (s.setConfig sp c).config sp.other = s.config sp.other :=
  PerSpan.get_set_other ..

theorem State.setConfig_config (s : State) (sp sp' : Span) (c : SpanConfig) : (s.setConfig sp c).config sp' = if sp' = sp then c else s.config sp' :=
  PerSpan.get_set ..

@[simp] theorem State.setConfig_setConfig (s : State) (sp : Span) (c c' : SpanConfig) : (s.setConfig sp c).setConfig sp c' = s.setConfig sp c' := by
  simp only [State.setConfig, PerSpan.set_set]

@[simp] theorem State.setConfig_self (s : State) (sp : Span) : s.setConfig sp (s.config sp) = s := by
  simp only [State.setConfig, State.config, PerSpan.set_get]

@[simp] theorem State.setSt_st_self (s : State) (sp : Span) (x : SpanStatus) : (s.setSt sp x).st sp = x := PerSpan.get_set_self ..

@[simp] theorem State.setSt_st_other (s : State) (sp : Span) (x : SpanStatus) : (s.setSt sp x).st sp.other = s.st sp.other :=
  PerSpan.get_set_other ..

theorem State.setSt_st (s : State) (sp sp' : Span) (x : SpanStatus) : (s.setSt sp x).st sp' = if sp' = sp then x else s.st sp' :=
  PerSpan.get_set ..

@[simp] theorem State.setSt_setSt (s : State) (sp : Span) (x x' : SpanStatus) : (s.setSt sp x).setSt sp x' = s.setSt sp x' := by
  simp only [State.setSt, PerSpan.set_set]

@[simp] theorem State.setSt_self (s : State) (sp : Span) : s.setSt sp (s.st sp) = s := by
  simp only [State.setSt, State.st, PerSpan.set_get]

@[simp] theorem State.setSlots_slots_self (s : State) (sp : Span) (r : List Nat) : (s.setSlots sp r).slots sp = r := PerSpan.get_set_self ..

@[simp] theorem State.setSlots_slots_other (s : State) (sp : Span) (r : List Nat) : (s.setSlots sp r).slots sp.other = s.slots sp.other :=
  PerSpan.get_set_other ..

theorem State.setSlots_slots (s : State) (sp sp' : Span) (r : List Nat) : (s.setSlots sp r).slots sp' = if sp' = sp then r else s.slots sp' :=
  PerSpan.get_set ..

@[simp] theorem State.setSlots_setSlots (s : State) (sp : Span) (r r' : List Nat) : (s.setSlots sp r).setSlots sp r' = s.setSlots sp r' := by
  simp only [State.setSlots, PerSpan.set_set]

@[simp] theorem State.setSlots_self (s : State) (sp : Span) : s.setSlots sp (s.slots sp) = s := by
  simp only [State.setSlots, State.slots, PerSpan.set_get]

@[simp] theorem State.setInp_inp_self (s : State) (sp : Span) (c : InputChan) : (s.setInp sp c).inp sp = c := PerSpan.get_set_self ..

@[simp] theorem State.setInp_inp_other (s : State) (sp : Span) (c : InputChan) : (s.setInp sp c).inp sp.other = s.inp sp.other :=
  PerSpan.get_set_other ..

theorem State.setInp_inp (s : State) (sp sp' : Span) (c : InputChan) : (s.setInp sp c).inp sp' = if sp' = sp then c else s.inp sp' :=
  PerSpan.get_set ..

@[simp] theorem State.setInp_setInp (s : State) (sp : Span) (c c' : InputChan) : (s.setInp sp c).setInp sp c' = s.setInp sp c' := by
  simp only [State.setInp, PerSpan.set_set]

@[simp] theorem State.setInp_self (s : State) (sp : Span) : s.setInp sp (s.inp sp) = s := by
  simp only [State.setInp, State.inp, PerSpan.set_get]

@[simp] theorem State.setReflection_reflection_self (s : State) (sp : Span) (c : ReflChan) : (s.setReflection sp c).reflection sp = c := PerSpan.get_set_self ..

@[simp] theorem State.setReflection_reflection_other (s : State) (sp : Span) (c : ReflChan) : (s.setReflection sp c).reflection sp.other = s.reflection sp.other :=
  PerSpan.get_set_other ..

theorem State.setReflection_reflection (s : State) (sp sp' : Span) (c : ReflChan) : (s.setReflection sp c).reflection sp' = if sp' = sp then c else s.reflection sp' :=
  PerSpan.get_set ..

@[simp] theorem State.setReflection_setReflection (s : State) (sp : Span) (c c' : ReflChan) : (s.setReflection sp c).setReflection sp c' = s.setReflection sp c' := by
  simp only [State.setReflection, PerSpan.set_set]

@[simp] theorem State.setReflection_self (s : State) (sp : Span) : s.setReflection sp (s.reflection sp) = s := by
  simp only [State.setReflection, State.reflection, PerSpan.set_get]

@[simp] theorem State.setLine_line_self (s : State) (sp : Span) (l : LinePort) : (s.setLine sp l).line sp = l := PerSpan.get_set_self ..

@[simp] theorem State.setLine_line_other (s : State) (sp : Span) (l : LinePort) : (s.setLine sp l).line sp.other = s.line sp.other :=
  PerSpan.get_set_other ..

theorem State.setLine_line (s : State) (sp sp' : Span) (l : LinePort) : (s.setLine sp l).line sp' = if sp' = sp then l else s.line sp' :=
  PerSpan.get_set ..

@[simp] theorem State.setLine_setLine (s : State) (sp : Span) (l l' : LinePort) : (s.setLine sp l).setLine sp l' = s.setLine sp l' := by
  simp only [State.setLine, PerSpan.set_set]

@[simp] theorem State.setLine_self (s : State) (sp : Span) : s.setLine sp (s.line sp) = s := by
  simp only [State.setLine, State.line, PerSpan.set_get]

@[simp] theorem State.setHeld_held_self (s : State) (sp : Span) (b : Bool) : (s.setHeld sp b).held sp = b := PerSpan.get_set_self ..

@[simp] theorem State.setHeld_held_other (s : State) (sp : Span) (b : Bool) : (s.setHeld sp b).held sp.other = s.held sp.other :=
  PerSpan.get_set_other ..

theorem State.setHeld_held (s : State) (sp sp' : Span) (b : Bool) : (s.setHeld sp b).held sp' = if sp' = sp then b else s.held sp' :=
  PerSpan.get_set ..

@[simp] theorem State.setHeld_setHeld (s : State) (sp : Span) (b b' : Bool) : (s.setHeld sp b).setHeld sp b' = s.setHeld sp b' := by
  simp only [State.setHeld, PerSpan.set_set]

@[simp] theorem State.setHeld_self (s : State) (sp : Span) : s.setHeld sp (s.held sp) = s := by
  simp only [State.setHeld, State.held, PerSpan.set_get]

@[simp] theorem State.setChan_chan_self (s : State) (ch : Chan) (c : MonChan) : (s.setChan ch c).chan ch = c := by
  simp [State.setChan, State.chan]

theorem State.setChan_chan (s : State) (ch ch' : Chan) (c : MonChan) :
    (s.setChan ch c).chan ch' = if ch' = ch then c else s.chan ch' := by
  simp [State.setChan, State.chan, Vector.getElem_set, Fin.ext_iff, eq_comm]

@[simp] theorem State.setChan_setChan (s : State) (ch : Chan) (c c' : MonChan) : (s.setChan ch c).setChan ch c' = s.setChan ch c' := by
  simp [State.setChan]

@[simp] theorem State.setChan_self (s : State) (ch : Chan) : s.setChan ch (s.chan ch) = s := by
  simp [State.setChan, State.chan]

@[simp] theorem State.setPump_pump_self (s : State) (ch : Chan) (p : Pump) : (s.setPump ch p).pump ch = p := by
  simp [State.setPump, State.pump]

theorem State.setPump_pump (s : State) (ch ch' : Chan) (p : Pump) :
    (s.setPump ch p).pump ch' = if ch' = ch then p else s.pump ch' := by
  simp [State.setPump, State.pump, Vector.getElem_set, Fin.ext_iff, eq_comm]

@[simp] theorem State.setPump_setPump (s : State) (ch : Chan) (p p' : Pump) : (s.setPump ch p).setPump ch p' = s.setPump ch p' := by
  simp [State.setPump]

@[simp] theorem State.setPump_self (s : State) (ch : Chan) : s.setPump ch (s.pump ch) = s := by
  simp [State.setPump, State.pump]

@[simp] theorem State.setIlLine_ilLine_self (s : State) (ch : Chan) (l : IlLine) : (s.setIlLine ch l).ilLine ch = l := by
  simp [State.setIlLine, State.ilLine]

theorem State.setIlLine_ilLine (s : State) (ch ch' : Chan) (l : IlLine) :
    (s.setIlLine ch l).ilLine ch' = if ch' = ch then l else s.ilLine ch' := by
  simp [State.setIlLine, State.ilLine, Vector.getElem_set, Fin.ext_iff, eq_comm]

@[simp] theorem State.setIlLine_setIlLine (s : State) (ch : Chan) (l l' : IlLine) : (s.setIlLine ch l).setIlLine ch l' = s.setIlLine ch l' := by
  simp [State.setIlLine]

@[simp] theorem State.setIlLine_self (s : State) (ch : Chan) : s.setIlLine ch (s.ilLine ch) = s := by
  simp [State.setIlLine, State.ilLine]

/-! ### Ports -/

@[simp] theorem State.setBase_time (s : State) (p : Port) (b : PortBase) : (s.setBase p b).time = s.time := by cases p <;> rfl
@[simp] theorem State.setBase_part (s : State) (p : Port) (b : PortBase) : (s.setBase p b).part = s.part := by cases p <;> rfl
@[simp] theorem State.setBase_grants (s : State) (p : Port) (b : PortBase) : (s.setBase p b).grants = s.grants := by cases p <;> rfl
@[simp] theorem State.setBase_hold (s : State) (p : Port) (b : PortBase) : (s.setBase p b).hold = s.hold := by cases p <;> rfl
@[simp] theorem State.setBase_cfg (s : State) (p : Port) (b : PortBase) : (s.setBase p b).cfg = s.cfg := by cases p <;> rfl
@[simp] theorem State.setBase_status (s : State) (p : Port) (b : PortBase) : (s.setBase p b).status = s.status := by cases p <;> rfl
@[simp] theorem State.setBase_ring (s : State) (p : Port) (b : PortBase) : (s.setBase p b).ring = s.ring := by cases p <;> rfl
@[simp] theorem State.setBase_mon (s : State) (p : Port) (b : PortBase) : (s.setBase p b).mon = s.mon := by cases p <;> rfl
@[simp] theorem State.setBase_input (s : State) (p : Port) (b : PortBase) : (s.setBase p b).input = s.input := by cases p <;> rfl
@[simp] theorem State.setBase_refl (s : State) (p : Port) (b : PortBase) : (s.setBase p b).refl = s.refl := by cases p <;> rfl
@[simp] theorem State.setBase_pumps (s : State) (p : Port) (b : PortBase) : (s.setBase p b).pumps = s.pumps := by cases p <;> rfl
@[simp] theorem State.setBase_table (s : State) (p : Port) (b : PortBase) : (s.setBase p b).table = s.table := by cases p <;> rfl
@[simp] theorem State.setBase_tableLen (s : State) (p : Port) (b : PortBase) : (s.setBase p b).tableLen = s.tableLen := by cases p <;> rfl
@[simp] theorem State.setBase_notices (s : State) (p : Port) (b : PortBase) : (s.setBase p b).notices = s.notices := by cases p <;> rfl
@[simp] theorem State.setBase_raised (s : State) (p : Port) (b : PortBase) : (s.setBase p b).raised = s.raised := by cases p <;> rfl
@[simp] theorem State.setBase_il (s : State) (p : Port) (b : PortBase) : (s.setBase p b).il = s.il := by cases p <;> rfl
@[simp] theorem State.setBase_supply (s : State) (p : Port) (b : PortBase) : (s.setBase p b).supply = s.supply := by cases p <;> rfl
@[simp] theorem State.setBase_pins (s : State) (p : Port) (b : PortBase) : (s.setBase p b).pins = s.pins := by cases p <;> rfl
@[simp] theorem State.setBase_owed (s : State) (p : Port) (b : PortBase) : (s.setBase p b).owed = s.owed := by cases p <;> rfl
@[simp] theorem State.setBase_out (s : State) (p : Port) (b : PortBase) : (s.setBase p b).out = s.out := by cases p <;> rfl
@[simp] theorem State.setBase_pending (s : State) (p : Port) (b : PortBase) : (s.setBase p b).pending = s.pending := by cases p <;> rfl
@[simp] theorem State.setBase_config (s : State) (p : Port) (b : PortBase) (sp' : Span) : (s.setBase p b).config sp' = s.config sp' := by cases p <;> rfl
@[simp] theorem State.setBase_st (s : State) (p : Port) (b : PortBase) (sp' : Span) : (s.setBase p b).st sp' = s.st sp' := by cases p <;> rfl
@[simp] theorem State.setBase_slots (s : State) (p : Port) (b : PortBase) (sp' : Span) : (s.setBase p b).slots sp' = s.slots sp' := by cases p <;> rfl
@[simp] theorem State.setBase_chan (s : State) (p : Port) (b : PortBase) (ch' : Chan) : (s.setBase p b).chan ch' = s.chan ch' := by cases p <;> rfl
@[simp] theorem State.setBase_inp (s : State) (p : Port) (b : PortBase) (sp' : Span) : (s.setBase p b).inp sp' = s.inp sp' := by cases p <;> rfl
@[simp] theorem State.setBase_reflection (s : State) (p : Port) (b : PortBase) (sp' : Span) : (s.setBase p b).reflection sp' = s.reflection sp' := by cases p <;> rfl
@[simp] theorem State.setBase_pump (s : State) (p : Port) (b : PortBase) (ch' : Chan) : (s.setBase p b).pump ch' = s.pump ch' := by cases p <;> rfl
@[simp] theorem State.setBase_ilLine (s : State) (p : Port) (b : PortBase) (n' : Chan) : (s.setBase p b).ilLine n' = s.ilLine n' := by cases p <;> rfl
@[simp] theorem State.setBase_held (s : State) (p : Port) (b : PortBase) (sp' : Span) : (s.setBase p b).held sp' = s.held sp' := by cases p <;> rfl

@[simp] theorem State.setBase_base_self (s : State) (p : Port) (b : PortBase) : (s.setBase p b).base p = b := by cases p <;> rfl

theorem State.setBase_base (s : State) (p p' : Port) (b : PortBase) :
    (s.setBase p b).base p' = if p' = p then b else s.base p' := by cases p <;> cases p' <;> rfl

@[simp] theorem State.setBase_setBase (s : State) (p : Port) (b b' : PortBase) : (s.setBase p b).setBase p b' = s.setBase p b' := by
  cases p <;> rfl

@[simp] theorem State.setBase_self (s : State) (p : Port) : s.setBase p (s.base p) = s := by cases p <;> rfl

/-- A change of what a port holds leaves everything else of a line port. -/
theorem State.setBase_line (s : State) (p : Port) (b : PortBase) (sp : Span) :
    (s.setBase p b).line sp = { s.line sp with base := if p = sp.port then b else (s.line sp).base } := by
  cases p <;> cases sp <;> rfl

@[simp] theorem State.setConfig_base (s : State) (sp : Span) (c : SpanConfig) (p' : Port) : (s.setConfig sp c).base p' = s.base p' := by cases p' <;> rfl
@[simp] theorem State.setSt_base (s : State) (sp : Span) (x : SpanStatus) (p' : Port) : (s.setSt sp x).base p' = s.base p' := by cases p' <;> rfl
@[simp] theorem State.setSlots_base (s : State) (sp : Span) (r : List Nat) (p' : Port) : (s.setSlots sp r).base p' = s.base p' := by cases p' <;> rfl
@[simp] theorem State.setChan_base (s : State) (ch : Chan) (c : MonChan) (p' : Port) : (s.setChan ch c).base p' = s.base p' := by cases p' <;> rfl
@[simp] theorem State.setInp_base (s : State) (sp : Span) (c : InputChan) (p' : Port) : (s.setInp sp c).base p' = s.base p' := by cases p' <;> rfl
@[simp] theorem State.setReflection_base (s : State) (sp : Span) (c : ReflChan) (p' : Port) : (s.setReflection sp c).base p' = s.base p' := by cases p' <;> rfl
@[simp] theorem State.setPump_base (s : State) (ch : Chan) (p : Pump) (p' : Port) : (s.setPump ch p).base p' = s.base p' := by cases p' <;> rfl
@[simp] theorem State.setIlLine_base (s : State) (n : Chan) (l : IlLine) (p' : Port) : (s.setIlLine n l).base p' = s.base p' := by cases p' <;> rfl
@[simp] theorem State.setHeld_base (s : State) (sp : Span) (b : Bool) (p' : Port) : (s.setHeld sp b).base p' = s.base p' := by cases p' <;> rfl
@[simp] theorem State.raise_base (s : State) (src : Block) (e : Event) (span : EvSpan) (subject : Subject) (p' : Port) : (s.raise src e span subject).base p' = s.base p' := by cases p' <;> rfl
@[simp] theorem State.emit_base (s : State) (o : Output) (p' : Port) : (s.emit o).base p' = s.base p' := by cases p' <;> rfl
@[simp] theorem State.clearOut_base (s : State) (p' : Port) : (s.clearOut).base p' = s.base p' := by cases p' <;> rfl
@[simp] theorem State.dropJob_base (s : State) (j : TickJob) (p' : Port) : (s.dropJob j).base p' = s.base p' := by cases p' <;> rfl

/-- A change of a line port changes what its own port holds, and no other. -/
theorem State.setLine_base (s : State) (sp : Span) (l : LinePort) (p : Port) :
    (s.setLine sp l).base p = if p = sp.port then l.base else s.base p := by
  cases sp <;> cases p <;> rfl

/-! ### The state a command starts from -/

theorem State.fresh_eq_clearOut (s : State) : s.fresh = s.clearOut := rfl

/-! ### A tick that no consumer has taken -/

@[simp] theorem State.ticked_time (s : State) (levels : BitVec 8) : (s.ticked levels).time = ⟨0, 0, s.time.tickCount + 1⟩ := rfl

@[simp] theorem State.ticked_pins (s : State) (levels : BitVec 8) : (s.ticked levels).pins = { s.pins with interlock := levels } := rfl

@[simp] theorem State.ticked_owed (s : State) (levels : BitVec 8) : (s.ticked levels).owed = Config.allJobs := rfl

@[simp] theorem State.ticked_out (s : State) (levels : BitVec 8) : (s.ticked levels).out = [] := rfl

@[simp] theorem State.ticked_part (s : State) (levels : BitVec 8) : (s.ticked levels).part = s.part := rfl

@[simp] theorem State.ticked_grants (s : State) (levels : BitVec 8) : (s.ticked levels).grants = s.grants := rfl

@[simp] theorem State.ticked_hold (s : State) (levels : BitVec 8) : (s.ticked levels).hold = s.hold := rfl

@[simp] theorem State.ticked_cfg (s : State) (levels : BitVec 8) : (s.ticked levels).cfg = s.cfg := rfl

@[simp] theorem State.ticked_status (s : State) (levels : BitVec 8) : (s.ticked levels).status = s.status := rfl

@[simp] theorem State.ticked_ring (s : State) (levels : BitVec 8) : (s.ticked levels).ring = s.ring := rfl

@[simp] theorem State.ticked_mon (s : State) (levels : BitVec 8) : (s.ticked levels).mon = s.mon := rfl

@[simp] theorem State.ticked_input (s : State) (levels : BitVec 8) : (s.ticked levels).input = s.input := rfl

@[simp] theorem State.ticked_refl (s : State) (levels : BitVec 8) : (s.ticked levels).refl = s.refl := rfl

@[simp] theorem State.ticked_pumps (s : State) (levels : BitVec 8) : (s.ticked levels).pumps = s.pumps := rfl

@[simp] theorem State.ticked_lines (s : State) (levels : BitVec 8) : (s.ticked levels).lines = s.lines := rfl

@[simp] theorem State.ticked_localPort (s : State) (levels : BitVec 8) : (s.ticked levels).localPort = s.localPort := rfl

@[simp] theorem State.ticked_table (s : State) (levels : BitVec 8) : (s.ticked levels).table = s.table := rfl

@[simp] theorem State.ticked_tableLen (s : State) (levels : BitVec 8) : (s.ticked levels).tableLen = s.tableLen := rfl

@[simp] theorem State.ticked_notices (s : State) (levels : BitVec 8) : (s.ticked levels).notices = s.notices := rfl

@[simp] theorem State.ticked_raised (s : State) (levels : BitVec 8) : (s.ticked levels).raised = s.raised := rfl

@[simp] theorem State.ticked_il (s : State) (levels : BitVec 8) : (s.ticked levels).il = s.il := rfl

@[simp] theorem State.ticked_supply (s : State) (levels : BitVec 8) : (s.ticked levels).supply = s.supply := rfl

@[simp] theorem State.ticked_pending (s : State) (levels : BitVec 8) : (s.ticked levels).pending = s.pending := rfl

@[simp] theorem State.clearOut_clearOut (s : State) : s.clearOut.clearOut = s.clearOut := rfl

end Sys2Proof.Machine
end

