-- ==== Sys2Proof/Laws/Ops.lean ====
section
/-!
SUPPORT. What each shared operation can do, said once: queues, outputs and owed ticks, cause sets, the pump operations, the changes of a
span's state, notices and frames. Proofs about commands cite these and leave the operations folded.
-/

namespace Sys2Proof.Machine

/-! ### Commands and the queue -/

theorem step_nil {s : State} (h : s.pending = []) : step s = .next s := by simp only [step, h]

theorem step_cons {s : State} {c : Instr} {q : List Instr} (h : s.pending = c :: q) : step s = exec c { s with pending := q } := by
  simp only [step, h]

theorem unlessReset_held {s : State} (h : s.pins.resetLine = true) (f : State → State) : s.unlessReset f = s.fresh := by
  simp [State.unlessReset, h, State.fresh, State.clearOut]

theorem unlessReset_free {s : State} (h : s.pins.resetLine = false) (f : State → State) : s.unlessReset f = f s.fresh := by
  simp [State.unlessReset, h, State.fresh, State.clearOut]

/-- A property that forgetting the outputs keeps and an effect keeps is kept by the command. -/
theorem unlessReset_induct {P : State → Prop} {s : State} {f : State → State} (h0 : P s.fresh) (hf : P s.fresh → P (f s.fresh)) :
    P (s.unlessReset f) := by
  cases h : s.pins.resetLine
  · rw [unlessReset_free h]; exact hf h0
  · rw [unlessReset_held h]; exact h0

/-! ### Queues -/

theorem enqueue_cases (q : List Msg) (m : Msg) :
    (q.length < 8 ∧ enqueue q m = q ++ [m]) ∨ (8 ≤ q.length ∧ enqueue q m = q) := by
  by_cases h : q.length < 8
  · exact .inl ⟨h, by simp [enqueue, Config.queueRoom, h]⟩
  · exact .inr ⟨by omega, by simp [enqueue, Config.queueRoom, h]⟩

theorem enqueue_length_le {q : List Msg} (m : Msg) (h : q.length ≤ 8) : (enqueue q m).length ≤ 8 := by
  obtain ⟨h', e⟩ | ⟨_, e⟩ := enqueue_cases q m
  · rw [e, List.length_append, List.length_singleton]; omega
  · rwa [e]

theorem enqueue_length_ge (q : List Msg) (m : Msg) : q.length ≤ (enqueue q m).length := by
  obtain ⟨_, e⟩ | ⟨_, e⟩ := enqueue_cases q m <;> simp [e]

/-- A message that reaches a local queue changes that queue alone. -/
theorem toLocalQueue_eq (s : State) (p : Port) (m : Msg) :
    s.toLocalQueue p m = s.setBase p { s.base p with queue := enqueue (s.base p).queue m } := rfl

/-- A message that reaches a forward queue changes that queue alone. -/
theorem toForwardQueue_eq (s : State) (sp : Span) (m : Msg) :
    s.toForwardQueue sp m = s.setLine sp { s.line sp with forward := enqueue (s.line sp).forward m } := rfl

theorem replied_eq (s : State) (r : Req) (kind outcome : Byte) (extra : List Byte) :
    s.replied r kind outcome extra
      = s.setBase r.port
          { s.base r.port with queue := enqueue (s.base r.port).queue (replyTo r s.part.site kind outcome extra) } := rfl

/-! ### Work on every channel -/

theorem forChans_induct {P : State → Prop} {f : Chan → State → State} (hf : ∀ ch s, P s → P (f ch s)) {s : State} (h : P s) :
    P (forChans f s) := by
  have go : ∀ (l : List Chan) (s : State), P s → P (l.foldl (fun s ch => f ch s) s) := by
    intro l
    induction l with
    | nil => intro s h; exact h
    | cons a l ih => intro s h; exact ih _ (hf a s h)
  exact go _ s h

/-- Work that reads and writes each channel's own record only, and leaves what `Q` says of the state it started from. -/
theorem forChans_inv {Q : State → State → Prop} (refl : ∀ s, Q s s) (trans : ∀ {a b c}, Q a b → Q b c → Q a c)
    {f : Chan → State → State} (hf : ∀ ch s, Q s (f ch s)) (s : State) : Q s (forChans f s) :=
  forChans_induct (P := fun t => Q s t) (fun ch t h => trans h (hf ch t)) (refl s)

/-! ### Owed ticks -/

theorem dropJob_owes (s : State) (j : TickJob) : (s.dropJob j).owes j = false := by
  simp [State.owes, State.dropJob]

theorem mem_dropJob {s : State} {j k : TickJob} : k ∈ (s.dropJob j).owed ↔ k ∈ s.owed ∧ k ≠ j := by
  simp [State.dropJob]

theorem dropJob_of_not_mem {s : State} {j : TickJob} (h : j ∉ s.owed) : s.dropJob j = s := by
  have e : (s.owed.filter fun k => k ≠ j) = s.owed := by
    refine List.filter_eq_self.mpr fun k hk => ?_
    simp only [ne_eq, decide_eq_true_eq]
    rintro rfl
    exact h hk
  simp only [State.dropJob, e]

theorem takeJob_of_mem {s : State} {j : TickJob} (h : j ∈ s.owed) : takeJob j s = runJob j (s.dropJob j) := by
  simp [takeJob, State.owes, h]

theorem takeJob_of_not_mem {s : State} {j : TickJob} (h : j ∉ s.owed) : takeJob j s = s := by
  simp [takeJob, State.owes, h]

theorem takeJobs_nil (s : State) : takeJobs [] s = s := rfl

theorem takeJobs_cons (j : TickJob) (js : List TickJob) (s : State) : takeJobs (j :: js) s = takeJobs js (takeJob j s) := rfl

theorem takeJobs_induct {P : State → Prop} (hj : ∀ j s, P s → P (takeJob j s)) (js : List TickJob) {s : State} (h : P s) :
    P (takeJobs js s) := by
  induction js generalizing s with
  | nil => exact h
  | cons j js ih => exact ih (hj j s h)

/-- A TICK that names one consumer, with no tick still owed, is that consumer's work on the state the tick leaves. -/
theorem exec_tick_one (levels : BitVec 8) {s : State} {j : TickJob} (hr : s.pins.resetLine = false) (ho : s.owed = [])
    (hj : j ∈ Config.allJobs) : exec (.tick levels [j]) s = .next (runJob j ((s.ticked levels).dropJob j)) := by
  have given : exec (.tick levels [j]) s = .next (takeJob j (s.ticked levels)) := by
    simp only [exec, execTick, unlessReset_free hr, giveTick, show s.fresh.owed = [] from ho]
    rfl
  rw [given, takeJob_of_mem (s := s.ticked levels) hj]

/-- A row that names what a consumer's tick brings about: the consumer takes the tick, or nothing changes. -/
theorem takeWhere_cases (j : TickJob) (happens : State → State → Bool) (s : State) :
    (j ∈ s.owed ∧ happens s (runJob j (s.dropJob j)) = true ∧ takeWhere j happens s = runJob j (s.dropJob j))
      ∨ takeWhere j happens s = s := by
  by_cases h : j ∈ s.owed
  · by_cases g : happens s (runJob j (s.dropJob j)) = true
    · exact .inl ⟨h, g, by simp [takeWhere, takeJob_of_mem h, State.owes, h, g]⟩
    · exact .inr (by simp [takeWhere, takeJob_of_mem h, State.owes, h, g])
  · exact .inr (by simp [takeWhere, State.owes, h])

/-! ### Cause sets -/

theorem mem_event_all (e : Event) : e ∈ Event.all := by cases e <;> decide

@[simp] theorem mem_addCause {e x : Event} {cs : List Event} : x ∈ addCause e cs ↔ x = e ∨ x ∈ cs := by
  simp [addCause, mem_event_all]

@[simp] theorem mem_removeCause {e x : Event} {cs : List Event} : x ∈ removeCause e cs ↔ x ∈ cs ∧ x ≠ e := by
  simp [removeCause]

@[simp] theorem mem_standingOnly {x : Event} {cs : List Event} : x ∈ standingOnly cs ↔ x ∈ cs ∧ x.standing = true := by
  simp [standingOnly]

theorem addCause_nodup (e : Event) (cs : List Event) : (addCause e cs).Nodup :=
  List.Nodup.filter _ (by decide)

theorem removeCause_nodup {cs : List Event} (e : Event) (h : cs.Nodup) : (removeCause e cs).Nodup := h.filter _

theorem standingOnly_nodup {cs : List Event} (h : cs.Nodup) : (standingOnly cs).Nodup := h.filter _

theorem standing_cases {e : Event} (h : e.standing = true) : e = .interlock ∨ e = .supplyLow ∨ e = .manualHold := by
  cases e <;> simp_all [Event.standing]

/-! ### Pump channels by themselves -/

theorem goHold_isDark (p : Pump) : p.goHold.state.isDark = true := rfl

theorem takeSnuff_isDark (p : Pump) : p.takeSnuff.state.isDark = true := by
  cases h : p.state <;> simp [Pump.takeSnuff, Pump.goHold, PumpState.isDark, h]

/-- SNUFF leaves DARK and FAULTED and takes every other state to DARK_HOLD. -/
theorem takeSnuff_cases (p : Pump) :
    ((p.state = .dark ∨ p.state = .faulted) ∧ p.takeSnuff = p)
      ∨ (p.state ≠ .dark ∧ p.state ≠ .faulted ∧ p.takeSnuff = p.goHold) := by
  cases h : p.state <;> simp [Pump.takeSnuff, h]

/-- A ramp toward a new target ends in RISING, FALLING, LIT or DARK_HOLD. -/
theorem retarget_cases (p : Pump) (x : Nat) :
    (p.level < x ∧ p.retarget x = { p with state := .rising, target := some x, pulseLen := none, pulseCount := 0 })
      ∨ (x < p.level ∧ p.retarget x = { p with state := .falling, target := some x, pulseLen := none, pulseCount := 0 })
      ∨ (x = p.level ∧ p.level = 0 ∧ p.retarget x = p.goHold)
      ∨ (x = p.level ∧ p.level ≠ 0 ∧ p.retarget x = { p with state := .lit, target := none, pulseLen := none, pulseCount := 0 }) := by
  unfold Pump.retarget
  split
  · exact .inl ⟨‹_›, rfl⟩
  · split
    · exact .inr (.inl ⟨‹_›, rfl⟩)
    · split
      · exact .inr (.inr (.inl ⟨by omega, ‹_›, rfl⟩))
      · exact .inr (.inr (.inr ⟨by omega, ‹_›, rfl⟩))

/-- No command or step changes a channel's table entry or what the Pump Link remembers of it. -/
theorem takeRise_table (p : Pump) (x : Nat) :
    (p.takeRise x).role = p.role ∧ (p.takeRise x).span = p.span ∧ (p.takeRise x).dir = p.dir ∧ (p.takeRise x).ceiling = p.ceiling
      ∧ (p.takeRise x).service = p.service ∧ (p.takeRise x).probe = p.probe ∧ (p.takeRise x).noReply = p.noReply
      ∧ (p.takeRise x).level ≤ max p.level p.ceiling := by
  cases h : p.state <;> simp only [Pump.takeRise, h]
  case dark => split <;> simp
  case darkHold => simp
  case faulted => simp
  all_goals
    obtain ⟨-, e⟩ | ⟨-, e⟩ | ⟨-, -, e⟩ | ⟨-, -, e⟩ := retarget_cases p (min x p.ceiling) <;> rw [e] <;> simp [Pump.goHold]

theorem takeDouse_level_le (p : Pump) : p.takeDouse.level ≤ p.level := by
  cases h : p.state <;> simp only [Pump.takeDouse, h] <;> first | exact le_refl _ | (split <;> simp [Pump.goHold])

/-! ### Pump operations over the state -/

/-- A new working record for a channel changes that channel, and at most drops its step of the tick. -/
theorem putPump_spec (s : State) (ch : Chan) (p : Pump) :
    s.putPump ch p = s.setPump ch p ∨ s.putPump ch p = (s.setPump ch p).dropJob (.step ch) := by
  unfold State.putPump
  split
  · exact .inl rfl
  · exact .inr rfl

/-- An extra setpoint record changes the outputs only. -/
theorem sendRecord_spec (ch : Chan) (s : State) :
    sendRecord ch s
      = { s with
          out := s.out ++
            if (s.pump ch).role = .unused then [] else [.setpoint (setpointRecord ch (s.pump ch).level)] } := by
  unfold sendRecord
  split <;> simp [State.emit, *]

/-- SNUFF taken by a channel changes that channel and the outputs, and at most drops its step of the tick. -/
theorem snuffChannel_spec (ch : Chan) (s : State) :
    ∃ owed', (∀ j ∈ owed', j ∈ s.owed)
      ∧ snuffChannel ch s
        = { s.setPump ch (s.pump ch).takeSnuff with
            owed := owed'
            out := s.out ++
              if (s.pump ch).takeSnuff.role = .unused then []
              else [.setpoint (setpointRecord ch (s.pump ch).takeSnuff.level)] } := by
  by_cases h : (s.pump ch).takeSnuff.state = .darkHold
  · exact ⟨(s.owed.filter fun k => k ≠ .step ch), fun j hj => (List.mem_filter.mp hj).1, by
      simp only [snuffChannel, h, if_true, sendRecord_spec, State.dropJob_pump, State.setPump_pump_self, State.dropJob_out,
        State.setPump_out]; rfl⟩
  · exact ⟨s.owed, fun _ hj => hj, by
      simp only [snuffChannel, h, if_false, sendRecord_spec, State.setPump_pump_self, State.setPump_out]; rfl⟩

theorem takeSnuff_role (p : Pump) : p.takeSnuff.role = p.role := by
  obtain ⟨-, e⟩ | ⟨-, -, e⟩ := takeSnuff_cases p <;> rw [e]; rfl

/-- What work on the pump channels leaves: everything but the channels, the owed ticks and the outputs. -/
theorem snuffChannel_frame (ch : Chan) (s : State) :
    { snuffChannel ch s with pumps := s.pumps, owed := s.owed, out := s.out } = s := by
  obtain ⟨o, -, e⟩ := snuffChannel_spec ch s
  rw [e]; rfl

theorem snuffChannel_pump (ch c : Chan) (s : State) :
    (snuffChannel ch s).pump c = if c = ch then (s.pump ch).takeSnuff else s.pump c := by
  obtain ⟨o, -, e⟩ := snuffChannel_spec ch s
  rw [e]; exact State.setPump_pump ..

theorem frame_trans {a b c : State} (h : { b with pumps := a.pumps, owed := a.owed, out := a.out } = a)
    (g : { c with pumps := b.pumps, owed := b.owed, out := b.out } = b) :
    { c with pumps := a.pumps, owed := a.owed, out := a.out } = a := by
  conv_rhs => rw [← h, ← g]

theorem snuffAll_frame (s : State) : { snuffAll s with pumps := s.pumps, owed := s.owed, out := s.out } = s :=
  forChans_inv (Q := fun s t => { t with pumps := s.pumps, owed := s.owed, out := s.out } = s) (fun _ => rfl) frame_trans
    snuffChannel_frame s

theorem snuffSpan_frame (sp : Span) (s : State) : { snuffSpan sp s with pumps := s.pumps, owed := s.owed, out := s.out } = s :=
  forChans_inv (Q := fun s t => { t with pumps := s.pumps, owed := s.owed, out := s.out } = s) (fun _ => rfl) frame_trans
    (fun ch s => by split <;> first | exact snuffChannel_frame ch s | rfl) s

theorem snuffPulsing_frame (sp : Span) (s : State) :
    { snuffPulsing sp s with pumps := s.pumps, owed := s.owed, out := s.out } = s :=
  forChans_inv (Q := fun s t => { t with pumps := s.pumps, owed := s.owed, out := s.out } = s) (fun _ => rfl) frame_trans
    (fun ch s => by split <;> first | exact snuffChannel_frame ch s | rfl) s

theorem putPump_frame (s : State) (ch : Chan) (p : Pump) :
    { s.putPump ch p with pumps := s.pumps, owed := s.owed, out := s.out } = s := by
  obtain e | e := putPump_spec s ch p <;> rw [e] <;> rfl

theorem putPump_pump (s : State) (ch c : Chan) (p : Pump) : (s.putPump ch p).pump c = if c = ch then p else s.pump c := by
  obtain e | e := putPump_spec s ch p <;> rw [e] <;> simp [State.setPump_pump]

theorem riseChannel_cases (ch : Chan) (x : Nat) (s : State) :
    (s.mayRise (s.pump ch) = true ∧ riseChannel ch x s = s.putPump ch ((s.pump ch).takeRise x))
      ∨ (s.mayRise (s.pump ch) = false ∧ riseChannel ch x s = s) := by
  cases h : s.mayRise (s.pump ch) <;> simp [riseChannel, h]

theorem riseChannel_frame (ch : Chan) (x : Nat) (s : State) :
    { riseChannel ch x s with pumps := s.pumps, owed := s.owed, out := s.out } = s := by
  obtain ⟨-, e⟩ | ⟨-, e⟩ := riseChannel_cases ch x s <;> rw [e]
  exact putPump_frame ..

theorem riseSpan_frame (sp : Span) (s : State) : { riseSpan sp s with pumps := s.pumps, owed := s.owed, out := s.out } = s :=
  forChans_inv (Q := fun s t => { t with pumps := s.pumps, owed := s.owed, out := s.out } = s) (fun _ => rfl) frame_trans
    (fun ch s => by dsimp only; split <;> first | exact riseChannel_frame ch _ s | rfl) s

/-! ### The Pump Link's tick -/

/-- The check of a channel: its answer flag is down, a missing answer counts, and the third in a row faults it. -/
theorem checkTick_cases (ch : Chan) (s : State) :
    let p := s.pump ch
    let p1 := { p with noReply := if p.sent && !p.answered then satSucc 3 p.noReply else p.noReply, answered := false }
    (((p.sent && !p.answered) = true ∧ p1.noReply = 3 ∧ p.state ≠ .faulted)
        ∧ checkTick ch s = faultChannel .driverLost ch (s.setPump ch p1))
      ∨ (¬ ((p.sent && !p.answered) = true ∧ p1.noReply = 3 ∧ p.state ≠ .faulted) ∧ checkTick ch s = s.setPump ch p1) := by
  intro p p1
  by_cases h : (p.sent && !p.answered) = true ∧ p1.noReply = 3 ∧ p.state ≠ .faulted
  · exact .inl ⟨h, if_pos h⟩
  · exact .inr ⟨h, if_neg h⟩

theorem takeCheck_cases (ch : Chan) (s : State) :
    (.check ch ∈ s.owed ∧ takeCheck ch s = checkTick ch (s.dropJob (.check ch))) ∨ (.check ch ∉ s.owed ∧ takeCheck ch s = s) := by
  by_cases h : .check ch ∈ s.owed <;> simp [takeCheck, State.owes, h]

theorem takeLink_cases (ch : Chan) (s : State) :
    (.link ch ∈ s.owed ∧ takeLink ch s = linkTick ch (s.dropJob (.link ch))) ∨ (.link ch ∉ s.owed ∧ takeLink ch s = s) := by
  by_cases h : .link ch ∈ s.owed <;> simp [takeLink, State.owes, h]

/-- A channel's record of the tick changes, after the checks of all channels, its own mark and the outputs only. -/
theorem linkTick_spec (ch : Chan) (s : State) :
    let c := forChans takeCheck s
    let p := { c.pump ch with sent := decide ((c.pump ch).role ≠ .unused) }
    linkTick ch s
      = { c.setPump ch p with out := c.out ++ if p.role = .unused then [] else [.setpoint (setpointRecord ch p.level)] } := by
  simp only [linkTick, sendRecord_spec, State.setPump_pump_self, State.setPump_out]

/-! ### Changes of a span's state -/

/-- A change of state touches the span's record and the enable lines only. -/
theorem setSpanState_spec (sp : Span) (x : SpanState) (s : State) :
    ∃ en, setSpanState sp x s
        = { s.setSt sp
              { s.st sp with
                state := x, ticks := 0, callPending := false, offTicks := 0, offExpired := false, probeLength := none
                startsNext := x.timed && s.owes (.slot sp) } with
            pins := { s.pins with spanEn := en } } := ⟨_, rfl⟩

theorem setSpanState_st (sp : Span) (x : SpanState) (s : State) :
    (setSpanState sp x s).st sp
      = { s.st sp with
          state := x, ticks := 0, callPending := false, offTicks := 0, offExpired := false, probeLength := none
          startsNext := x.timed && s.owes (.slot sp) } :=
  PerSpan.get_set_self ..

theorem setSpanState_st_other (sp : Span) (x : SpanState) (s : State) : (setSpanState sp x s).st sp.other = s.st sp.other :=
  PerSpan.get_set_other ..

/-- The enable lines follow the span states after a change of state. -/
theorem setSpanState_lines (sp : Span) (x : SpanState) (s : State) :
    (setSpanState sp x s).pins.spanEn = ⟨(setSpanState sp x s).enableOf .ws, (setSpanState sp x s).enableOf .es⟩ := rfl

/-- The completion test: nothing, or entry to SERVICE. -/
theorem completionTest_cases (sp : Span) (s : State) :
    (completes sp s = true ∧ completionTest sp s = enterService sp s) ∨ (completes sp s = false ∧ completionTest sp s = s) := by
  cases h : completes sp s <;> simp [completionTest, h]

/-- The test of R25: nothing, or SPAN_BREAK raised. -/
theorem breakTest_cases (sp : Span) (s : State) :
    breakTest sp s = s ∨ breakTest sp s = s.raise (.engine sp) .spanBreak (.one sp) (.monitor (Config.inputChan sp)) := by
  unfold breakTest
  split
  · exact .inr rfl
  · exact .inl rfl

/-- The slot of a tick: recorded, and handed to an engine whose span was in its state when the tick was given; one that entered a timed state
later takes nothing but the mark away. -/
theorem slotTick_cases (sp : Span) (s : State) :
    let r := s.setSlots sp (s.slotValue sp :: (s.slots sp).take 255)
    ((s.st sp).startsNext = true ∧ slotTick sp s = r.setSt sp { s.st sp with startsNext := false })
      ∨ ((s.st sp).startsNext = false ∧ slotTick sp s = engineTick sp (s.slotValue sp) r) := by
  cases h : (s.st sp).startsNext
  · exact .inr ⟨rfl, by simp [slotTick, h, Config.ringSlots]⟩
  · exact .inl ⟨rfl, by simp [slotTick, h, Config.ringSlots]⟩

/-! ### Events -/

theorem markSecond_length (l : List Raised) : (markSecond l).length = l.length := by
  induction l with
  | nil => rfl
  | cons a l ih => cases l <;> simp_all [markSecond]

/-- The mark of the second of two LOCKOUT events touches the newest event only. -/
theorem markSecond_append (l : List Raised) (a : Raised) : markSecond (l ++ [a]) = l ++ [{ a with second := true }] := by
  induction l with
  | nil => rfl
  | cons b l ih =>
    obtain ⟨c, l', e⟩ : ∃ c l', l ++ [a] = c :: l' := by cases l <;> exact ⟨_, _, rfl⟩
    rw [List.cons_append, e, markSecond, ← e, ih]; rfl

/-- Only the events raised change where two LOCKOUT events are paired. -/
theorem pairLockouts_spec (n : Nat) (s : State) :
    pairLockouts n s = { s with raised := if n + 2 ≤ s.raised.length then markSecond s.raised else s.raised } := by
  unfold pairLockouts
  split <;> rfl

/-- What is picked is an event of the block, and no event is lost. -/
theorem pickEvent_spec {src : Block} {l left : List Raised} {ev : Raised} (h : pickEvent src l = some (ev, left)) :
    ev.src = src ∧ ∃ before after, l = before ++ ev :: after ∧ left = before ++ after ∧ ∀ x ∈ before, x.src ≠ src := by
  induction l generalizing left with
  | nil => cases h
  | cons a l ih =>
    unfold pickEvent at h
    split at h
    next ha =>
      obtain ⟨rfl, rfl⟩ : a = ev ∧ l = left := by simpa using h
      exact ⟨ha, [], l, rfl, rfl, by simp⟩
    next ha =>
      split at h
      next got left' hp =>
        split at h
        · cases h
        · obtain ⟨rfl, rfl⟩ : got = ev ∧ a :: left' = left := by simpa using h
          obtain ⟨hs, b, c, rfl, rfl, hb⟩ := ih hp
          exact ⟨hs, a :: b, c, rfl, rfl, by simp [ha]; exact hb⟩
      · cases h

/-- No event of the block is raised. -/
theorem pickEvent_eq_none {src : Block} {l : List Raised} (h : ∀ e ∈ l, e.src ≠ src) : pickEvent src l = none := by
  induction l with
  | nil => rfl
  | cons a l ih => simp [pickEvent, h a (by simp), ih fun e he => h e (by simp [he])]

/-- The oldest event of a block, wherever it stands: picked, but for a second LOCKOUT that waits behind another one. -/
theorem pickEvent_behind {ev : Raised} {before rest : List Raised} (h : ∀ e ∈ before, e.src ≠ ev.src) :
    pickEvent ev.src (before ++ ev :: rest) =
      if ev.second = true ∧ ∃ e ∈ before, e.event = .lockout then none else some (ev, before ++ rest) := by
  induction before with
  | nil => simp [pickEvent]
  | cons a l ih =>
    have ha : a.src ≠ ev.src := h a (by simp)
    simp only [List.cons_append, pickEvent, ha, if_false, ih fun e he => h e (by simp [he])]
    simp only [List.mem_cons, exists_eq_or_imp]
    by_cases hl : ev.second = true ∧ ∃ e ∈ l, e.event = .lockout
    · rw [if_pos hl, if_pos ⟨hl.1, .inr hl.2⟩]
    · rw [if_neg hl]
      refine if_congr ⟨fun h => ⟨h.2, .inl h.1⟩, fun ⟨h2, h1⟩ => ⟨h1.resolve_right fun hx => hl ⟨h2, hx⟩, h2⟩⟩ rfl rfl

/-! ### Notices -/

/-- One notice that leaves, then others. -/
theorem depart_then (s : State) (p : Port) (l l' : List Notice) (m : Msg) (ms : List Msg) :
    State.setBase { State.setBase { s with notices := l } p { s.base p with queue := (s.base p).queue ++ [m] } with notices := l' } p
        { (State.setBase { s with notices := l } p { s.base p with queue := (s.base p).queue ++ [m] }).base p with
          queue := ((State.setBase { s with notices := l } p { s.base p with queue := (s.base p).queue ++ [m] }).base p).queue ++ ms }
      = State.setBase { s with notices := l' } p { s.base p with queue := (s.base p).queue ++ m :: ms } := by
  have h : (s.base p).queue ++ m :: ms = (s.base p).queue ++ [m] ++ ms := by simp
  rw [h]
  cases p <;> rfl

/-- Departures move the oldest notices of the queue into the notice port's local queue, as many as it has room for. -/
theorem departures_spec (fuel : Nat) (s : State) :
    ∃ k, k ≤ s.notices.length
      ∧ departures fuel s
        = { s with notices := s.notices.drop k }.setBase s.part.noticePort
            { s.base s.part.noticePort with
              queue := (s.base s.part.noticePort).queue ++ (s.notices.take k).map (noticeMsg s) } := by
  have none_ : ∀ s : State, s = { s with notices := s.notices.drop 0 }.setBase s.part.noticePort
      { s.base s.part.noticePort with
        queue := (s.base s.part.noticePort).queue ++ (s.notices.take 0).map (noticeMsg s) } := fun s => by
    simp only [List.drop_zero, List.take_zero, List.map_nil, List.append_nil]
    exact (State.setBase_self s _).symm
  induction fuel generalizing s with
  | zero => exact ⟨0, by omega, none_ s⟩
  | succ n ih =>
    unfold departures
    split
    next hn => exact ⟨0, by omega, none_ s⟩
    next a l hn =>
      split
      next hq =>
        have hm : ∀ t : State, t.part = s.part → noticeMsg t = noticeMsg s := fun t ht => by
          funext x; simp only [noticeMsg, ht]
        have hq' : (s.base s.part.noticePort).queue.length < 8 := hq
        obtain ⟨-, he⟩ | ⟨h8, -⟩ := enqueue_cases (s.base s.part.noticePort).queue (noticeMsg s a)
        · have ht : State.toLocalQueue { s with notices := l } s.part.noticePort (noticeMsg s a)
              = State.setBase { s with notices := l } s.part.noticePort
                  { s.base s.part.noticePort with queue := (s.base s.part.noticePort).queue ++ [noticeMsg s a] } := by
            rw [← he]; cases s.part.noticePort <;> rfl
          rw [ht]
          have hp := State.setBase_part { s with notices := l } s.part.noticePort
            { s.base s.part.noticePort with queue := (s.base s.part.noticePort).queue ++ [noticeMsg s a] }
          have hd := fun k => depart_then s s.part.noticePort l (l.drop k) (noticeMsg s a) ((l.take k).map (noticeMsg s))
          have hl := State.setBase_notices { s with notices := l } s.part.noticePort
            { s.base s.part.noticePort with queue := (s.base s.part.noticePort).queue ++ [noticeMsg s a] }
          generalize State.setBase { s with notices := l } s.part.noticePort
            { s.base s.part.noticePort with queue := (s.base s.part.noticePort).queue ++ [noticeMsg s a] } = t at hd hl hp ⊢
          obtain ⟨k, hk, e⟩ := ih t
          rw [congrArg Part.noticePort hp, hm t hp, hl] at e
          exact ⟨k + 1, by simpa [hn, hl] using hk, by rw [e, hn]; exact hd k⟩
        · omega
      next hq => exact ⟨0, by omega, none_ s⟩

/-- A reply enters the local queue of its port, and the notices still to leave follow it. -/
theorem sendReply_cases (kind : BitVec 5) (r : Req) (a : Answer) :
    (a.depart = false ∧ sendReply kind r a = a.s.toLocalQueue r.port (replyMsg kind r a))
      ∨ (a.depart = true ∧ sendReply kind r a = departNotices (a.s.toLocalQueue r.port (replyMsg kind r a))) := by
  cases h : a.depart <;> simp [sendReply, h]

/-! ### Frames -/

/-- Two things the spec does not order come about in one order or the other. -/
theorem inOrder_cases (b : Bool) (f g : State → State) (s : State) : inOrder b f g s = g (f s) ∨ inOrder b f g s = f (g s) := by
  cases b
  · exact .inl rfl
  · exact .inr rfl

theorem beBytes_length (k n : Nat) : (beBytes k n).length = k := by
  induction k generalizing n with
  | zero => rfl
  | succ k ih => simp [beBytes, ih]

theorem beNat_append (xs : List Byte) (b : Byte) : beNat (xs ++ [b]) = beNat xs * 256 + b.toNat := by
  simp [beNat]

theorem beNat_beBytes (k n : Nat) : beNat (beBytes k n) = n % 256 ^ k := by
  induction k generalizing n with
  | zero => simp [beBytes, beNat, Nat.mod_one]
  | succ k ih =>
    rw [beBytes, beNat_append, ih, BitVec.toNat_ofNat, pow_succ 256, Nat.mul_comm (256 ^ k) 256, Nat.mod_mul (a := 256)]
    omega

end Sys2Proof.Machine
end

