-- ==== Sys2Proof/Laws/PerInstr.lean ====
section
/-!
SUPPORT. The family `Shape`, one lemma per command: a well-formed command that carries a management request carries one of a request
kind whose body fits a message (R113, R193), and a well-formed command that carries none meets the bounds of its own operands.
-/

namespace Sys2Proof.Laws

/-- The management request a command carries, with its kind code (R193). -/
def requestOf : Instr → Option (BitVec 5 × Req)
  | .powerOnReset => none
  | .resetAssert _ _ _ => none
  | .resetRelease => none
  | .tick _ _ => none
  | .slotStart _ _ => none
  | .offExpired _ => none
  | .portSilent _ => none
  | .darkTimeout _ => none
  | .confirmTimeout _ => none
  | .probeExpiry _ => none
  | .pulseEnd _ => none
  | .minDarkEnd _ => none
  | .rampComplete _ => none
  | .monitorStale _ => none
  | .driverLost _ => none
  | .settleEnd => none
  | .probeStart _ => none
  | .confirmCompletion _ => none
  | .frameReceived _ _ _ => none
  | .sampleWord _ _ _ => none
  | .statusRecord _ => none
  | .supplyGoodFall => none
  | .supplyGoodRise => none
  | .rise _ _ => none
  | .pulse _ _ _ => none
  | .douse _ => none
  | .snuff _ => none
  | .eventTaken _ => none
  | .noticeDeparture => none
  | .read r => some (Config.kindRead, r)
  | .writeSpan r => some (Config.kindWriteSpan, r)
  | .writePump r => some (Config.kindWritePump, r)
  | .setSetpoint r => some (Config.kindSetSetpoint, r)
  | .clearPump r => some (Config.kindClearPump, r)
  | .writeMonitor r => some (Config.kindWriteMonitor, r)
  | .writeEvent r => some (Config.kindWriteEvent, r)
  | .writeInterlock r => some (Config.kindWriteInterlock, r)
  | .clearInterlock r => some (Config.kindClearInterlock, r)
  | .spanHold r => some (Config.kindSpanHold, r)
  | .spanResume r => some (Config.kindSpanResume, r)
  | .spanRelease r => some (Config.kindSpanRelease, r)
  | .setLoop r => some (Config.kindSetLoop, r)
  | .writePart r => some (Config.kindWritePart, r)
  | .start r => some (Config.kindStart, r)
  | .halt r => some (Config.kindHalt, r)
  | .writeGrants r => some (Config.kindWriteGrants, r)
  | .clear r => some (Config.kindClear, r)
  | .unknownRequest k r => some (k, r)
  | .idleFillReceived _ => none

/-- The bounds on the operands of a command that carries no request: a tick is taken once by each consumer (R138), a frame is at most
62 bytes (R104), levels are at most 4000 mW and a pulse lasts 1 to 255 ticks (R77, R85). -/
def operandBounds : Instr → Prop
  | .powerOnReset => True
  | .resetAssert _ _ _ => True
  | .resetRelease => True
  | .tick _ order => order.Nodup
  | .slotStart _ _ => True
  | .offExpired _ => True
  | .portSilent _ => True
  | .darkTimeout _ => True
  | .confirmTimeout _ => True
  | .probeExpiry _ => True
  | .pulseEnd _ => True
  | .minDarkEnd _ => True
  | .rampComplete _ => True
  | .monitorStale _ => True
  | .driverLost _ => True
  | .settleEnd => True
  | .probeStart _ => True
  | .confirmCompletion _ => True
  | .frameReceived _ _ bytes => bytes.length ≤ 62
  | .sampleWord _ _ _ => True
  | .statusRecord _ => True
  | .supplyGoodFall => True
  | .supplyGoodRise => True
  | .rise _ x => x ≤ 4000
  | .pulse _ level length => level ≤ 4000 ∧ 1 ≤ length ∧ length ≤ 255
  | .douse _ => True
  | .snuff _ => True
  | .eventTaken _ => True
  | .noticeDeparture => True
  | .read _ => True
  | .writeSpan _ => True
  | .writePump _ => True
  | .setSetpoint _ => True
  | .clearPump _ => True
  | .writeMonitor _ => True
  | .writeEvent _ => True
  | .writeInterlock _ => True
  | .clearInterlock _ => True
  | .spanHold _ => True
  | .spanResume _ => True
  | .spanRelease _ => True
  | .setLoop _ => True
  | .writePart _ => True
  | .start _ => True
  | .halt _ => True
  | .writeGrants _ => True
  | .clear _ => True
  | .unknownRequest _ _ => True
  | .idleFillReceived _ => True

/-- What well-formedness says of a command. -/
def Shape.Statement (c : Instr) : Prop :=
  c.wellFormed = true →
    operandBounds c ∧ ∀ k r, requestOf c = some (k, r) → r.body.length ≤ 51 ∧ k ≠ 30 ∧ k ≠ 31

theorem Req.wellFormed_iff (r : Req) : r.wellFormed = true ↔ r.body.length ≤ 51 := decide_eq_true_iff

theorem Shape.powerOnReset : Shape.Statement .powerOnReset := fun _ => ⟨trivial, nofun⟩

theorem Shape.resetAssert (cutWest cutEast cutLocal : Bool) : Shape.Statement (.resetAssert cutWest cutEast cutLocal) :=
  fun _ => ⟨trivial, nofun⟩

theorem Shape.resetRelease : Shape.Statement .resetRelease := fun _ => ⟨trivial, nofun⟩

theorem Shape.tick (levels : BitVec 8) (order : List TickJob) : Shape.Statement (.tick levels order) :=
  fun h => ⟨of_decide_eq_true (p := order.Nodup) h, nofun⟩

theorem Shape.slotStart (race : Race) (eastFirst : Bool) : Shape.Statement (.slotStart race eastFirst) :=
  fun _ => ⟨trivial, nofun⟩

theorem Shape.offExpired (sp : Span) : Shape.Statement (.offExpired sp) := fun _ => ⟨trivial, nofun⟩

theorem Shape.portSilent (sp : Span) : Shape.Statement (.portSilent sp) := fun _ => ⟨trivial, nofun⟩

theorem Shape.darkTimeout (sp : Span) : Shape.Statement (.darkTimeout sp) := fun _ => ⟨trivial, nofun⟩

theorem Shape.confirmTimeout (sp : Span) : Shape.Statement (.confirmTimeout sp) := fun _ => ⟨trivial, nofun⟩

theorem Shape.probeExpiry (sp : Span) : Shape.Statement (.probeExpiry sp) := fun _ => ⟨trivial, nofun⟩

theorem Shape.pulseEnd (ch : Chan) : Shape.Statement (.pulseEnd ch) := fun _ => ⟨trivial, nofun⟩

theorem Shape.minDarkEnd (ch : Chan) : Shape.Statement (.minDarkEnd ch) := fun _ => ⟨trivial, nofun⟩

theorem Shape.rampComplete (ch : Chan) : Shape.Statement (.rampComplete ch) := fun _ => ⟨trivial, nofun⟩

theorem Shape.monitorStale (ch : Chan) : Shape.Statement (.monitorStale ch) := fun _ => ⟨trivial, nofun⟩

theorem Shape.driverLost (ch : Chan) : Shape.Statement (.driverLost ch) := fun _ => ⟨trivial, nofun⟩

theorem Shape.settleEnd : Shape.Statement .settleEnd := fun _ => ⟨trivial, nofun⟩

theorem Shape.probeStart (sp : Span) : Shape.Statement (.probeStart sp) := fun _ => ⟨trivial, nofun⟩

theorem Shape.confirmCompletion (sp : Span) : Shape.Statement (.confirmCompletion sp) := fun _ => ⟨trivial, nofun⟩

theorem Shape.frameReceived (port : Port) (race : Race) (bytes : List Byte) : Shape.Statement (.frameReceived port race bytes) :=
  fun h => ⟨of_decide_eq_true (p := bytes.length ≤ 62) h, nofun⟩

theorem Shape.sampleWord (b0 b1 b2 : Byte) : Shape.Statement (.sampleWord b0 b1 b2) := fun _ => ⟨trivial, nofun⟩

theorem Shape.statusRecord (b : Byte) : Shape.Statement (.statusRecord b) := fun _ => ⟨trivial, nofun⟩

theorem Shape.supplyGoodFall : Shape.Statement .supplyGoodFall := fun _ => ⟨trivial, nofun⟩

theorem Shape.supplyGoodRise : Shape.Statement .supplyGoodRise := fun _ => ⟨trivial, nofun⟩

theorem Shape.rise (ch : Chan) (target : Nat) : Shape.Statement (.rise ch target) :=
  fun h => ⟨of_decide_eq_true (p := target ≤ 4000) h, nofun⟩

theorem Shape.pulse (ch : Chan) (level length : Nat) : Shape.Statement (.pulse ch level length) := fun h => ⟨by
  simp only [Instr.wellFormed, Bool.and_eq_true, decide_eq_true_eq, and_assoc] at h; exact h, nofun⟩

theorem Shape.douse (ch : Chan) : Shape.Statement (.douse ch) := fun _ => ⟨trivial, nofun⟩

theorem Shape.snuff (ch : Chan) : Shape.Statement (.snuff ch) := fun _ => ⟨trivial, nofun⟩

theorem Shape.eventTaken (src : Block) : Shape.Statement (.eventTaken src) := fun _ => ⟨trivial, nofun⟩

theorem Shape.noticeDeparture : Shape.Statement .noticeDeparture := fun _ => ⟨trivial, nofun⟩

theorem Shape.read (r : Req) : Shape.Statement (.read r) := fun h => ⟨trivial, by
  rintro k r' ⟨⟩; exact ⟨(Req.wellFormed_iff _).mp h, by decide, by decide⟩⟩

theorem Shape.writeSpan (r : Req) : Shape.Statement (.writeSpan r) := fun h => ⟨trivial, by
  rintro k r' ⟨⟩; exact ⟨(Req.wellFormed_iff _).mp h, by decide, by decide⟩⟩

theorem Shape.writePump (r : Req) : Shape.Statement (.writePump r) := fun h => ⟨trivial, by
  rintro k r' ⟨⟩; exact ⟨(Req.wellFormed_iff _).mp h, by decide, by decide⟩⟩

theorem Shape.setSetpoint (r : Req) : Shape.Statement (.setSetpoint r) := fun h => ⟨trivial, by
  rintro k r' ⟨⟩; exact ⟨(Req.wellFormed_iff _).mp h, by decide, by decide⟩⟩

theorem Shape.clearPump (r : Req) : Shape.Statement (.clearPump r) := fun h => ⟨trivial, by
  rintro k r' ⟨⟩; exact ⟨(Req.wellFormed_iff _).mp h, by decide, by decide⟩⟩

theorem Shape.writeMonitor (r : Req) : Shape.Statement (.writeMonitor r) := fun h => ⟨trivial, by
  rintro k r' ⟨⟩; exact ⟨(Req.wellFormed_iff _).mp h, by decide, by decide⟩⟩

theorem Shape.writeEvent (r : Req) : Shape.Statement (.writeEvent r) := fun h => ⟨trivial, by
  rintro k r' ⟨⟩; exact ⟨(Req.wellFormed_iff _).mp h, by decide, by decide⟩⟩

theorem Shape.writeInterlock (r : Req) : Shape.Statement (.writeInterlock r) := fun h => ⟨trivial, by
  rintro k r' ⟨⟩; exact ⟨(Req.wellFormed_iff _).mp h, by decide, by decide⟩⟩

theorem Shape.clearInterlock (r : Req) : Shape.Statement (.clearInterlock r) := fun h => ⟨trivial, by
  rintro k r' ⟨⟩; exact ⟨(Req.wellFormed_iff _).mp h, by decide, by decide⟩⟩

theorem Shape.spanHold (r : Req) : Shape.Statement (.spanHold r) := fun h => ⟨trivial, by
  rintro k r' ⟨⟩; exact ⟨(Req.wellFormed_iff _).mp h, by decide, by decide⟩⟩

theorem Shape.spanResume (r : Req) : Shape.Statement (.spanResume r) := fun h => ⟨trivial, by
  rintro k r' ⟨⟩; exact ⟨(Req.wellFormed_iff _).mp h, by decide, by decide⟩⟩

theorem Shape.spanRelease (r : Req) : Shape.Statement (.spanRelease r) := fun h => ⟨trivial, by
  rintro k r' ⟨⟩; exact ⟨(Req.wellFormed_iff _).mp h, by decide, by decide⟩⟩

theorem Shape.setLoop (r : Req) : Shape.Statement (.setLoop r) := fun h => ⟨trivial, by
  rintro k r' ⟨⟩; exact ⟨(Req.wellFormed_iff _).mp h, by decide, by decide⟩⟩

theorem Shape.writePart (r : Req) : Shape.Statement (.writePart r) := fun h => ⟨trivial, by
  rintro k r' ⟨⟩; exact ⟨(Req.wellFormed_iff _).mp h, by decide, by decide⟩⟩

theorem Shape.start (r : Req) : Shape.Statement (.start r) := fun h => ⟨trivial, by
  rintro k r' ⟨⟩; exact ⟨(Req.wellFormed_iff _).mp h, by decide, by decide⟩⟩

theorem Shape.halt (r : Req) : Shape.Statement (.halt r) := fun h => ⟨trivial, by
  rintro k r' ⟨⟩; exact ⟨(Req.wellFormed_iff _).mp h, by decide, by decide⟩⟩

theorem Shape.writeGrants (r : Req) : Shape.Statement (.writeGrants r) := fun h => ⟨trivial, by
  rintro k r' ⟨⟩; exact ⟨(Req.wellFormed_iff _).mp h, by decide, by decide⟩⟩

theorem Shape.clear (r : Req) : Shape.Statement (.clear r) := fun h => ⟨trivial, by
  rintro k r' ⟨⟩; exact ⟨(Req.wellFormed_iff _).mp h, by decide, by decide⟩⟩

theorem Shape.unknownRequest (kind : BitVec 5) (r : Req) : Shape.Statement (.unknownRequest kind r) := fun h => ⟨trivial, by
  simp only [Instr.wellFormed, Config.isRequestKind, Config.kindReply, Config.kindNotice, Bool.and_eq_true, bne_iff_ne] at h
  rintro k r' ⟨⟩; exact ⟨(Req.wellFormed_iff _).mp h.2, h.1.1.1, h.1.1.2⟩⟩

theorem Shape.idleFillReceived (port : Port) : Shape.Statement (.idleFillReceived port) := fun _ => ⟨trivial, nofun⟩

end Sys2Proof.Laws
end

