-- ==== Sys2Proof/Tests/Slice0.lean ====
section
/-!
SUPPORT. Tests of the model. The first part refuses ill-formed commands; the second checks single steps against the rules and worked
values of spec/; the third gives, for every statement with hypotheses, a state and operands that meet all of them.
-/

namespace Sys2Proof.Tests

-- The kernel evaluates these theorems; one after the other they need few threads.
set_option Elab.async false

open Sys2Proof.Machine

/-! ### States and requests the tests use -/

/-- A span record in a state, everything else as after reset. -/
def record (x : SpanState) : SpanStatus :=
  { SpanStatus.reset with state := x, probeLength := if x = .probe then some 30 else none }

/-- The part in RUN as site 2, both spans present, with the given span states and the lines and indicator that follow. -/
def run (x y : SpanState) : State :=
  { State.reset with
    part := ⟨true, 2, 9, .loc, 0, 100⟩
    cfg := ⟨{ SpanConfig.reset with present := true }, { SpanConfig.reset with present := true }⟩
    status := ⟨record x, record y⟩
    pins := ⟨⟨x.lit, y.lit⟩, true, 0, true, false⟩
    supply := ⟨.good, 0⟩ }

/-- A LAUNCH pump of span WS in a state at a level. -/
def launch (x : PumpState) (level : Nat) : Pump :=
  { Pump.reset with
    role := .launch, ceiling := 2000, service := 1000, probe := 200, up := 300, down := 400, minDark := 5, state := x, level := level }

/-- Both line ports in NORMAL with their receivers between frames. -/
def ready (s : State) : State :=
  { s with
    lines := ⟨{ s.line .ws with base := { (s.line .ws).base with rx := ⟨false, []⟩ } },
      { s.line .es with base := { (s.line .es).base with rx := ⟨false, []⟩ } }⟩ }

/-- A far word of the neighbour, site 1. -/
def farWord (x : SpanState) : SpanWord := ⟨1, x, 3, 0, true, true, true, false⟩

/-- A request of class 0 on the Local port from site 9 with tag 7. -/
def ask (body : List Byte) : Req := ⟨.loc, 9, 0, 7, body, false⟩

def after (c : Instr) (s : State) : State :=
  match exec c s with
  | .next t => t
  | .fault _ => s
  | .refused _ => s

/-! ### Ill-formed commands are refused (WellFormed.lean) -/

theorem test_illformed_tick_twice : (Instr.tick 0 [.settle, .settle]).wellFormed = false := by decide
theorem test_illformed_long_frame : (Instr.frameReceived .west ⟨false, false, false⟩ (List.replicate 63 0)).wellFormed = false := by
  decide
theorem test_illformed_rise_level : (Instr.rise 0 4001).wellFormed = false := by decide
theorem test_illformed_pulse_level : (Instr.pulse 0 4001 10).wellFormed = false := by decide
theorem test_illformed_pulse_empty : (Instr.pulse 0 200 0).wellFormed = false := by decide
theorem test_illformed_pulse_long : (Instr.pulse 0 200 256).wellFormed = false := by decide
theorem test_illformed_long_body : (Instr.read (ask (List.replicate 52 0))).wellFormed = false := by decide
theorem test_illformed_unknown_reply : (Instr.unknownRequest 30 (ask [])).wellFormed = false := by decide
theorem test_illformed_unknown_known : (Instr.unknownRequest 18 (ask [])).wellFormed = false := by decide
theorem test_wellformed_unknown : (Instr.unknownRequest 19 (ask [])).wellFormed = true := by decide

/-! ### Layouts against the worked values of the spec -/

/-- R192: the check over the bytes of "123456789", and over none. -/
theorem test_frame_check : frameCheck [49, 50, 51, 52, 53, 54, 55, 56, 57] = 0x29B1 ∧ frameCheck [] = 0xFFFF := by decide +kernel

/-- R192: sender in bits 31 to 22, state 21 to 19, tag 18 to 15, echo tag 14 to 11, flags 10 to 7, length 5 to 0, written out. -/
theorem test_head_bits :
    headNat ⟨0b1000000001, .service, 0b1001, 0b0110, true, false, true, false⟩ 5
      = 0b10000000011011001011010100000101 := by decide

/-- R193: destination in bits 39 to 30, source 29 to 20, kind 19 to 15, direction 14, hop limit 13 to 10, class 9 and 8, tag 7 to 0. -/
theorem test_header_bits :
    headerNat ⟨0b1000000001, 0b0100000010, 0b10011, .wb, 0b1110, 0b10, 0b10000001, []⟩
      = 0b1000000001010000001010011111101010000001 := by decide

/-- R196: channel in bits 15 to 13, run flag in bit 12, level in bits 11 to 0. -/
theorem test_setpoint_bits : setpointRecord 5 0b110000000001 = 0b1011110000000001 ∧ setpointRecord 5 0 = 0b1010000000000000 := by
  decide

/-- R192: the state code 7 reads as MAINT, and the sender 1022 as itself. -/
theorem test_read_word : (readWord 0b11111111101110000000000000000000).state = .maint ∧
    (readWord 0b11111111101110000000000000000000).sender = 1022 := by decide

/-! ### Single steps -/

/-- R64: codes at or below the offset give 0, and the greatest power is 16,776,704. -/
theorem test_convert : convert 100 100 65535 = 0 ∧ convert 101 100 255 = 0 ∧ convert 101 100 256 = 1
    ∧ convert 65535 0 65535 = 16776704 := by decide

theorem test_powerOnReset : (after .powerOnReset (run .service .wait)).pins.spanEn = ⟨false, false⟩
    ∧ (after .powerOnReset (run .service .wait)).supply = ⟨.settling, 0⟩ := by decide +kernel

/-- R184: an extra level-0 record to each used channel. -/
theorem test_resetAssert : (after (.resetAssert false false false) ((run .service .wait).setPump 6 (launch .lit 9))).out
    = [.setpoint 0b1100000000000000] := by decide +kernel

theorem test_resetRelease : (after .resetRelease (after (.resetAssert true true true) State.reset)).pins.resetLine = false := by
  decide +kernel

/-- R138: the count wraps. -/
theorem test_tick_wraps : (after (.tick 0 []) { State.reset with time := ⟨0, 8, 4294967295⟩ }).time.tickCount = 0 := by
  decide +kernel

/-- R88, R100: a ramp up by 300 stops at its target; the channels are checked before, channel 7 losing its driver, and then the records
of the levels before the step go out. -/
theorem test_tick_ramp :
    let t := after (.tick 0 [.step 0]) (((run .service .wait).setPump 0 { launch .rising 800 with target := some 1000 }).setPump 7
      { launch .lit 900 with sent := true, noReply := 2 })
    (t.pump 0).level = 1000
      ∧ t.out = [.setpoint 0b1110000000000000, .setpoint 0b0001001100100000, .setpoint 0b1110000000000000] := by decide +kernel

/-- R104: with no message each frame is 6 bytes, and all three ports begin one. -/
theorem test_slotStart : (after (.slotStart ⟨false, false, false⟩ false) { State.reset with time := ⟨0, 0, 1⟩ }).out.map
    (fun o => match o with | .frame p b => (p, b.length) | .setpoint _ => (.loc, 0) | .abort _ => (.loc, 0))
      = [(.west, 6), (.east, 6), (.loc, 6)] := by decide +kernel

theorem test_offExpired : ((after (.offExpired .ws)
    { (run .wait .wait).setSt .ws { record .wait with offTicks := 2 } with owed := [.offTimer .ws], time := ⟨0, 0, 4096⟩ }).st
      .ws).offExpired = true := by decide +kernel

theorem test_portSilent : ((after (.portSilent .es)
    { (run .wait .wait).setLine .es { LinePort.reset with live := true, silence := 2 } with owed := [.silence .es] }).raised.map
      Raised.event) = [.framesLost] := by decide +kernel

theorem test_darkTimeout : ((after (.darkTimeout .ws)
    { (run .shut .wait).setSt .ws { record .shut with ticks := 49 } with owed := [.slot .ws] }).raised.map Raised.event)
      = [.darkFail] := by decide +kernel

/-- R146: a span that shuts in a tick's own work takes its first dark test at the tick after. -/
theorem test_darkTimeout_later :
    let t := after (.darkTimeout .ws) (after (.eventTaken .monitorUnit)
      { run .service .wait with raised := [⟨.monitorUnit, .reflect, .one .ws, .monitor 6, 5, false⟩], owed := [.slot .ws] })
    let u := after (.tick 0 [.slot .ws]) { t with owed := [.slot .ws] }
    (t.st .ws).state = .shut ∧ (t.st .ws).startsNext = true ∧ (u.st .ws).ticks = 1 := by decide +kernel

theorem test_confirmTimeout : ((after (.confirmTimeout .ws)
    { (run .confirm .wait).setSt .ws { record .confirm with ticks := 1999 } with owed := [.slot .ws] }).raised.map Raised.event)
      = [.confirmTimeout] := by decide +kernel

/-- R51, R52: the fifth failure locks the span and raises PROBE_FAILED before LOCKOUT. -/
theorem test_probeExpiry :
    let t := after (.probeExpiry .ws)
      { (run .probe .wait).setSt .ws { record .probe with ticks := 29, failures := 4 } with
        owed := [.slot .ws], mon := Vector.replicate 8 { MonChan.reset with stale := false } }
    (t.st .ws).state = .locked ∧ t.raised.map Raised.event = [.probeFailed, .lockout] := by decide +kernel

theorem test_pulseEnd : ((after (.pulseEnd 0)
    { (run .probe .wait).setPump 0 { launch .pulsing 200 with pulseLen := some 20, pulseCount := 19 } with owed := [.step 0] }).pump
      0).darkLeft = 5 := by decide +kernel

/-- R90: a pending rise runs in SERVICE. -/
theorem test_minDarkEnd : ((after (.minDarkEnd 0)
    { (run .service .wait).setPump 0 { launch .darkHold 0 with darkLeft := 1, rise := some 700 } with owed := [.step 0] }).pump
      0).target = some 700 := by decide +kernel

/-- R88: a ramp down to 0 ends in DARK_HOLD. -/
theorem test_rampComplete : ((after (.rampComplete 0)
    { (run .service .wait).setPump 0 { launch .falling 400 with target := some 0 } with owed := [.step 0] }).pump 0).state
      = .darkHold := by decide +kernel

theorem test_monitorStale : (after (.monitorStale 5)
    { (run .wait .wait).setChan 5 { MonChan.reset with stale := false, fresh := 9 } with owed := [.monitor 5] }).raised.map
      Raised.span = [.one .ws] := by decide +kernel

theorem test_driverLost : (after (.driverLost 0)
    { (run .service .wait).setPump 0 { launch .lit 900 with sent := true, noReply := 2 } with owed := [.check 0] }).out
      = [.setpoint 0] := by decide +kernel

theorem test_settleEnd : (after .settleEnd { run .wait .wait with supply := ⟨.settling, 99⟩, owed := [.settle] }).supply
    = ⟨.good, 100⟩ := by decide +kernel

/-- R42: tag, state and pulse of a probe that starts. -/
theorem test_probeStart :
    let t := after (.probeStart .ws)
      { ((run .wait .wait).setSt .ws { record .wait with offExpired := true, far := some (farWord .wait), tag := 15 }).setLine .ws
          { LinePort.reset with live := true } with
        owed := [.slot .ws]
        mon := Vector.replicate 8 { MonChan.reset with stale := false }
        pumps := State.reset.pumps.set 0 (launch .dark 0) }
    (t.st .ws).tag = 0 ∧ (t.st .ws).probeLength = some 30 ∧ (t.pump 0).level = 200 ∧ t.pins.spanEn.ws = true := by decide +kernel

theorem test_confirmCompletion : ((after (.confirmCompletion .ws)
    ((run .confirm .wait).setSt .ws { record .confirm with far := some (farWord .service) })).st .ws).state = .service := by
  decide +kernel

/-- R23: a valid frame that shows SHUT raises FAR_SHUT in SERVICE. -/
theorem test_frameReceived : (after (.frameReceived .west ⟨false, false, false⟩ (frameBytes (farWord .shut) none))
    (ready (run .service .wait))).raised.map Raised.event = [.farShut] := by decide +kernel

/-- R106: a message length of 3 discards the frame. -/
theorem test_frameReceived_length : ((after (.frameReceived .east ⟨false, false, false⟩ [0, 0, 0, 3]) (ready State.reset)).line
    .es).base = { PortBase.reset with discarded := 1, rx := ⟨true, []⟩ } := by decide +kernel

theorem test_idleFillReceived : ((after (.idleFillReceived .loc) State.reset).localPort.rx) = ⟨false, []⟩ := by decide +kernel

/-- R66: the third sample in a row below Lo takes the input to ABSENT. -/
theorem test_sampleWord : ((after (.sampleWord 0 0 9)
    (State.reset.setInp .ws { InputChan.reset with light := .fading, run := 2 })).inp .ws).light = .absent := by decide +kernel

/-- R92: a STAGE pump is raised by a return of its input, and not by a change from FADING to PRESENT (log 52). -/
theorem test_sampleWord_stage :
    let s (x : Light) := ((run .wait .confirm).setInp .ws { InputChan.reset with light := x, run := 2 }).setPump 7
      { launch .dark 0 with role := .stage, dir := .eb }
    let state (x : Light) := ((after (.sampleWord 0 255 0) (s x)).pump 7).state
    state .returning = .rising ∧ state .fading = .dark := by decide +kernel

theorem test_statusRecord : ((after (.statusRecord 0b00100001)
    ((run .service .wait).setPump 1 (launch .lit 900))).pump 1).state = .faulted := by decide +kernel

theorem test_supplyGoodFall : (after .supplyGoodFall (run .service .wait)).raised.map Raised.event = [.supplyLow] := by
  decide +kernel

theorem test_supplyGoodRise : (after .supplyGoodRise { run .wait .wait with supply := ⟨.low, 0⟩ }).supply = ⟨.settling, 0⟩ := by
  decide +kernel

/-- R84: RISE is clamped to the ceiling. -/
theorem test_rise : ((after (.rise 0 3000) ((run .service .wait).setPump 0 (launch .dark 0))).pump 0).target = some 2000 := by
  decide +kernel

theorem test_pulse : ((after (.pulse 0 3000 20) ((run .probe .wait).setPump 0 (launch .dark 0))).pump 0).level = 2000 := by
  decide +kernel

theorem test_douse : ((after (.douse 0) ((run .service .wait).setPump 0 (launch .lit 900))).pump 0).target = some 0 := by
  decide +kernel

theorem test_snuff : (after (.snuff 0) ((run .service .wait).setPump 0 (launch .lit 900))).out = [.setpoint 0] := by
  decide +kernel

/-- R15, R18: REFLECT taken in SERVICE shuts the span, with its line off and its pump dark. -/
theorem test_eventTaken :
    let t := after (.eventTaken .monitorUnit)
      { (run .service .wait).setPump 0 (launch .lit 900) with raised := [⟨.monitorUnit, .reflect, .one .ws, .monitor 6, 5, false⟩] }
    (t.st .ws).state = .shut ∧ (t.st .ws).causes = [.reflect] ∧ t.pins.spanEn.ws = false ∧ (t.pump 0).state = .darkHold := by
  decide +kernel

/-- R158: where SNUFF_ALL locks both spans, the LOCKOUT of the span reached first is taken first, and an older LOCKOUT of ES is not
held back. -/
theorem test_eventTaken_lockouts :
    let t := after (.eventTaken .supplyMonitor)
      { run .service .wait with
        raised := [⟨.supplyMonitor, .supplyLow, .both, .none_, 5, false⟩], tableLen := 32
        table := State.reset.table.set 7 ⟨.snuffAll, false⟩ }
    t.raised.map Raised.src = [.engine .ws, .engine .es]
      ∧ (after (.eventTaken (.engine .es)) t).raised.map Raised.src = [.engine .ws, .engine .es]
      ∧ (after (.eventTaken (.engine .es))
          { t with raised := ⟨.engine .es, .lockout, .one .es, .none_, 4, false⟩ :: t.raised }).raised = t.raised := by decide +kernel

/-- R195: the body of a notice, byte by byte. -/
theorem test_noticeDeparture : (after .noticeDeparture
    { run .wait .wait with notices := [⟨.reflect, .monitor 6, some (.ws, .shut, [.spanBreak, .reflect]), 0x01020304, false⟩] }).localPort.queue.map
      Msg.body = [[5, 0, 2, 6, 2, 0, 0, 0b00100010, 1, 2, 3, 4, 0]] := by decide +kernel

/-- R194: the reply to a request carries its kind code and outcome. -/
theorem test_read : (after (.read (ask [9, 9])) State.reset).localPort.queue.map Msg.body = [[1, 5]] := by decide +kernel

/-- R3: T must stay below W. -/
theorem test_writeSpan : (after (.writeSpan (ask [0, 4, 128])) State.reset).localPort.queue.map Msg.body = [[2, 5]] := by
  decide +kernel

/-- R78: a ceiling above 4000 is refused. -/
theorem test_writePump : (after (.writePump (ask [0, 4, 0x0F, 0xA1])) State.reset).localPort.queue.map Msg.body = [[3, 5]] := by
  decide +kernel

/-- R79: a ramp up still at level 0 whose target is clamped goes to DARK_HOLD; one above level 0 goes on toward the ceiling. -/
theorem test_writePump_clamp :
    let r (level : Nat) := ((after (.writePump (ask [0, 4, 0, 200]))
      ((run .service .wait).setPump 0 { launch .rising level with service := 100, target := some 900 })).pump 0)
    (r 0).state = .darkHold ∧ (r 0).target = none ∧ (r 10).state = .rising ∧ (r 10).target = some 200 := by decide +kernel

/-- R94: a value above the ceiling is stored as the ceiling and named. -/
theorem test_setSetpoint : (after (.setSetpoint (ask [0, 0x0F, 0xA0])) ((run .wait .wait).setPump 0 (launch .dark 0))).localPort.queue.map
    Msg.body = [[4, 1, 5]] := by decide +kernel

theorem test_clearPump : (after (.clearPump (ask [0])) ((run .wait .wait).setPump 0 (launch .faulted 0))).localPort.queue.map
    Msg.body = [[5, 0]] := by decide +kernel

theorem test_writeMonitor : ((after (.writeMonitor (ask [0, 5, 0, 0, 20])) State.reset).inp .ws).lo = 20 := by decide +kernel

/-- R153: a write of NOTE to DARK_FAIL stores its floor, SNUFF_ALL. -/
theorem test_writeEvent : ((after (.writeEvent (ask [1, 12, 2, 0])) State.reset).entry 12).action = .snuffAll := by decide +kernel

theorem test_writeInterlock : ((after (.writeInterlock (ask [7, 1, 3])) State.reset).ilLine 7).assign = .both := by decide +kernel

theorem test_clearInterlock : ((after (.clearInterlock (ask [7]))
    (State.reset.setIlLine 7 { IlLine.reset with latched := true })).ilLine 7).latched = false := by decide +kernel

theorem test_spanHold : (after (.spanHold (ask [1])) (run .wait .wait)).held .es = true := by decide +kernel

theorem test_spanResume : (after (.spanResume (ask [1])) ((run .wait .wait).setHeld .es true)).held .es = false := by
  decide +kernel

theorem test_spanRelease : ((after (.spanRelease (ask [0])) (run .locked .wait)).st .ws).state = .wait := by decide +kernel

theorem test_setLoop : ((after (.setLoop (ask [0, 1])) (run .wait .wait)).st .ws).state = .maint := by decide +kernel

/-- R164: the reply to a change of the notice port and the waiting notice, in either order. -/
theorem test_writePart_orders :
    let kinds (first : Bool) := (after (.writePart { ask [3, 2] with replyFirst := first })
      { run .wait .wait with
        part := ⟨true, 2, 9, .west, 0, 100⟩, notices := [⟨.reflect, .none_, none, 0, false⟩] }).localPort.queue.map Msg.kind
    kinds true = [30, 31] ∧ kinds false = [31, 30] := by decide +kernel

theorem test_writePart : (after (.writePart (ask [1, 3, 0xFE])) State.reset).part.site = 1022 := by decide +kernel

/-- R185: START leaves an absent span in UNUSED. -/
theorem test_start : ((after (.start (ask []))
    (State.reset.setConfig .es { SpanConfig.reset with present := true })).status.es.state) = .wait := by decide +kernel

/-- R186: the first start test after START is made at the next hand-over of a slot, also one of a tick given before it. -/
theorem test_start_handover :
    let s := (((State.reset.setConfig .ws { SpanConfig.reset with present := true }).setLine .ws { LinePort.reset with live := true }).setSt .ws
      { SpanStatus.reset with far := some (farWord .wait) }).setPump 0 (launch .dark 0)
    let t := after (.start (ask []))
      { s with owed := [.slot .ws], supply := ⟨.good, 0⟩, mon := Vector.replicate 8 { MonChan.reset with stale := false } }
    (t.st .ws).state = .wait ∧ ((after (.probeStart .ws) t).st .ws).state = .probe := by decide +kernel

/-- R167: with the local class minimum at 2, a HALT of class 0 is DENIED on the Local port and taken on the West port. -/
theorem test_halt_local_minimum :
    let s := { run .service .wait with part := ⟨true, 2, 9, .loc, 2, 100⟩ }
    (after (.halt (ask [])) s).part.run = true ∧ (after (.halt { ask [] with port := .west }) s).part.run = false := by decide +kernel

theorem test_halt : (after (.halt (ask [])) (run .service .wait)).pins.runLed = false := by decide +kernel

/-- R178: class 2 of group 1 is entry 4 of the map. -/
theorem test_writeGrants : (after (.writeGrants (ask [1, 1, 1, 5])) State.reset).grants.map[4] = true := by decide +kernel

theorem test_clear : ((after (.clear (ask [])) (run .wait .wait)).st .ws).state = .unused := by decide +kernel

theorem test_unknownRequest : (after (.unknownRequest 22 (ask [])) State.reset).localPort.queue.map Msg.body = [[22, 7]] := by
  decide +kernel

/-- No row gives bits, so no word spells a command (log 38). -/
theorem test_no_word_spells : decodeTableWord 16 0 = none ∧ State.reset.withFetchWord 16 0 = State.reset := ⟨rfl, rfl⟩

/-! ### A state and operands that meet every hypothesis of each statement, clause by clause -/

theorem witness_StepRunsFrontCommand :
    State.pending { State.reset with pending := [.douse 0, .settleEnd] } = .douse 0 :: [.settleEnd] ∧ State.reset.pending = [] :=
  ⟨rfl, rfl⟩

theorem witness_HeldResetTakesNothing : (after (.resetAssert false false false) (run .service .wait)).pins.resetLine = true := by
  decide +kernel

theorem witness_TickReachesEachConsumerOnce : (run .service .wait).pins.resetLine = false ∧ (run .service .wait).owed = [] := by
  decide +kernel

theorem witness_TickRecordsExposureSlot :
    (run .service .maint).pins.resetLine = false ∧ (run .service .maint).owed = [] ∧ ((run .service .maint).st .ws).state = .service
      ∧ ((run .service .maint).st .es).state = .maint ∧ ((run .service .maint).st .ws).startsNext = false
      ∧ (let t := { (run .shut .wait).setSt .ws { record .shut with startsNext := true } with owed := [.slot .ws] }
         t.pins.resetLine = false ∧ t.owed = [.slot .ws] ∧ (t.st .ws).startsNext = true) := by decide +kernel

/-- Line 7, with only its own bit low and with it high: an active edge down and up, a first sample, an end of activity down and up. -/
theorem witness_TickLatchesFallingEdge :
    let s (x : Sense) (o : Option Bool) := (run .service .wait).setIlLine 7 ⟨.both, x, o, false⟩
    let low := (0x7F : BitVec 8).getLsbD 7
    let high := (0x80 : BitVec 8).getLsbD 7
    ((s .fallLow none).pins.resetLine = false ∧ (s .fallLow none).owed = [] ∧ ((s .fallLow none).ilLine 7).latched = false)
      ∧ (((s .fallLow (some true)).ilLine 7).observed = some (!low) ∧ low = false)
      ∧ (((s .rise (some false)).ilLine 7).observed = some (!high) ∧ high = true)
      ∧ ((s .riseHigh none).ilLine 7).observed = none
      ∧ (((s .riseHigh (some true)).ilLine 7).observed = some (!low) ∧ ((s .riseHigh (some true)).ilLine 7).sense = .riseHigh)
      ∧ (((s .fallLow (some false)).ilLine 7).observed = some (!high) ∧ ((s .fallLow (some false)).ilLine 7).sense = .fallLow) := by
  decide +kernel

/-- Channel 7, answered, and one answer missing before. -/
theorem witness_TickSendsSetpointRecord :
    let s := (run .service .wait).setPump 7 { launch .lit 900 with sent := true, noReply := 1 }
    s.pins.resetLine = false ∧ s.owed = [] ∧ (s.pump 7).role ≠ .unused
      ∧ ∀ c, (s.pump c).sent = false ∨ (s.pump c).answered = true ∨ (s.pump c).noReply < 2 ∨ (s.pump c).state = .faulted := by
  decide +kernel

/-- The outgoing word of WS in SERVICE (R35, R46): a LIVE port, the input of WS RETURNING and that of ES ABSENT, then the input PRESENT
with the far end in PROBE with tag 3: an echo there, and none in MAINT. -/
theorem test_slotStart_word :
    let s (x : SpanState) (l : Light) := (((run x .wait).setSt .ws { record x with tag := 9, far := some (farWord .probe) }).setLine .ws
      { LinePort.reset with live := true }).setInp .ws { InputChan.reset with light := l }
    (s .service .returning).spanWord .ws = ⟨2, .service, 9, 0, false, true, false, true⟩
      ∧ (s .service .present).spanWord .ws = ⟨2, .service, 9, 3, true, true, true, true⟩
      ∧ (s .maint .present).spanWord .ws = ⟨2, .maint, 9, 0, false, true, true, true⟩
      ∧ (s .service .present).spanWord .es = ⟨2, .wait, 0, 0, false, false, false, false⟩ := by decide +kernel

/-- The last slot of a tick. -/
theorem witness_SlotStartBeginsThreeFrames :
    let s := { run .service .wait with time := ⟨0, 7, 1⟩ }
    s.pins.resetLine = false ∧ s.time.slotNext < 8 ∧ s.notices = []
      ∧ ∀ sp, (s.line sp).loop ≠ .inner ∧ (s.line sp).loopNow ≠ .inner :=
  ⟨rfl, by decide, rfl, fun sp => by cases sp <;> decide⟩

/-- A message from site 5 to site `d`. -/
def mail (d : Site) : Msg := ⟨d, 5, 22, .eb, 3, 0, 1, [1, 2, 3]⟩

theorem witness_ArbiterAlternatesQueues :
    let l (f q : List Msg) (v : Served) : LinePort :=
      { LinePort.reset with base := { PortBase.reset with queue := q }, forward := f, served := v }
    ((l [mail 7] [mail 8] .local_).forward = mail 7 :: [] ∧ (l [mail 7] [mail 8] .local_).base.queue = mail 8 :: []
        ∧ (l [mail 7] [mail 8] .local_).served = .local_)
      ∧ (l [mail 7] [mail 8] .forward).served = .forward
      ∧ ((l [mail 7] [] .local_).forward = mail 7 :: [] ∧ (l [mail 7] [] .local_).base.queue = [])
      ∧ ((l [] [mail 8] .forward).forward = [] ∧ (l [] [mail 8] .forward).base.queue = mail 8 :: [])
      ∧ ((l [] [] .forward).forward = [] ∧ (l [] [] .forward).base.queue = []) := by decide +kernel

theorem witness_InnerLoopKeepsPortLive :
    let s := ({ run .maint .wait with time := ⟨0, 0, 1⟩ }).setLine .ws
      { LinePort.reset with loop := .inner, loopNow := .inner, base := { PortBase.reset with rx := ⟨false, []⟩ } }
    s.pins.resetLine = false ∧ s.time.slotNext < 8 ∧ s.notices = [] ∧ (s.line .ws).loop = .inner ∧ (s.line .ws).base.rx = ⟨false, []⟩
      ∧ (s.line .ws).forward = [] ∧ (s.line .ws).base.queue = [] ∧ (s.st .ws).state = .maint ∧ (s.line Span.ws.other).loop ≠ .inner
      ∧ (s.line Span.ws.other).loopNow ≠ .inner := by decide +kernel

theorem witness_ValidFrameReplacesFarWord :
    let s := ready (run .shut .wait)
    (s.pins.resetLine = false ∧ (s.line .ws).loopNow = .normal ∧ (s.line .ws).base.rx = ⟨false, []⟩
        ∧ (farWord .service).sender = (s.config .ws).neighbour ∧ (s.st .ws).state = .shut)
      ∧ (let looped (l : Loop) := (ready (run .maint .wait)).setLine .ws
           { LinePort.reset with loop := l, loopNow := l, base := { PortBase.reset with rx := ⟨false, []⟩ } }
         ((looped .outer).pins.resetLine = false ∧ ((looped .outer).line .ws).loopNow = .outer
             ∧ ((looped .outer).line .ws).base.rx = ⟨false, []⟩ ∧ (looped .outer).part.site = 2
             ∧ ((looped .outer).config .ws).neighbour = 1 ∧ ((looped .outer).st .ws).state = .maint)
           ∧ ((looped .inner).pins.resetLine = false ∧ ((looped .inner).line .ws).loopNow = .inner)) := by decide +kernel

/-- WS in SERVICE, ES in WAIT; then WS in CONFIRM with its completion conditions met by the word, and not. -/
theorem witness_FarStateTestsAtValidFrame :
    let s := ready (run .service .wait)
    s.pins.resetLine = false ∧ (s.line .ws).loopNow = .normal ∧ (s.line .es).loopNow = .normal
      ∧ (s.line .ws).base.rx = ⟨false, []⟩ ∧ (s.line .es).base.rx = ⟨false, []⟩
      ∧ (farWord .shut).sender = (s.config .ws).neighbour ∧ (farWord .probe).sender = (s.config .es).neighbour
      ∧ (s.st .ws).state = .service ∧ (s.st .es).state = .wait
      ∧ (let c := ready ((run .confirm .wait).setPump 0 (launch .lit 1000))
         c.pins.resetLine = false ∧ (c.line .ws).loopNow = .normal ∧ (c.line .ws).base.rx = ⟨false, []⟩ ∧ (c.st .ws).state = .confirm
           ∧ (∀ ch, (c.pump ch).of .ws = true → (c.pump ch).service ≠ 0 → (c.pump ch).state = .lit)
           ∧ (farWord .service).state = .service ∧ (farWord .service).light = true ∧ (farWord .probe).state = .probe) := by
  decide +kernel

theorem witness_EchoOfTagProvesProbe :
    let s := ready (run .probe .wait)
    s.pins.resetLine = false ∧ s.part.run = true ∧ (s.line .ws).loopNow = .normal ∧ (s.line .ws).base.rx = ⟨false, []⟩
      ∧ (farWord .wait).sender = (s.config .ws).neighbour ∧ (s.st .ws).state = .probe ∧ (s.config .ws).mode = .frame
      ∧ (farWord .wait).echoValid = true ∧ (farWord .wait).echoTag = (s.st .ws).tag ∧ (farWord .wait).light = true := by
  decide +kernel

/-- A word from site 5, a check of zeros, and a frame of which two bytes are in. -/
theorem witness_WrongAndDamagedFrames :
    let s := ready (run .service .wait)
    let cut := s.setLine .ws { LinePort.reset with base := { PortBase.reset with rx := ⟨false, [0, 0]⟩ } }
    s.pins.resetLine = false ∧ (s.line .ws).loopNow = .normal ∧ (s.line .ws).base.rx = ⟨false, []⟩
      ∧ ({ farWord .wait with sender := 5 } : SpanWord).sender ≠ (s.config .ws).neighbour
      ∧ (frameBytes (farWord .wait) none).drop 4 ≠ [0, 0]
      ∧ cut.pins.resetLine = false ∧ (cut.line .ws).loopNow = .normal ∧ (cut.line .ws).base.rx.bytes ≠ [] := by decide +kernel

/-- A failed check behind a message of 3 bytes; message lengths at both ends of both ranges, the fourth byte arriving alone; a receiver that
waits for idle fill, on the Local port too. -/
theorem witness_WrongAndDamagedFrames_ports :
    let s := ready (run .service .wait)
    let frame := frameBytes (farWord .wait) (some (mail 7))
    let cut := s.setLine .ws { LinePort.reset with base := { PortBase.reset with rx := ⟨false, [0, 0, 0]⟩ } }
    s.pins.resetLine = false ∧ (∀ sp : Span, sp.port = .west → (s.line sp).loopNow ≠ .inner)
      ∧ (∀ sp : Span, sp.port = .loc → (s.line sp).loopNow ≠ .inner)
      ∧ ((s.base .west).rx = ⟨false, []⟩ ∧ (∀ x ∈ some (mail 7), x.body.length ≤ 51) ∧ frame.drop (frame.length - 2) ≠ [0, 0])
      ∧ ((cut.base .west).rx = ⟨false, [0, 0, 0]⟩ ∧ [0, 0, 0] ++ [4, 9] = (0 : Byte) :: 0 :: 0 :: 4 :: [9]
        ∧ ∀ b ∈ ([1, 4, 57, 63] : List Byte), (1 ≤ b.toNat % 64 ∧ b.toNat % 64 ≤ 4) ∨ 56 < b.toNat % 64)
      ∧ ((State.reset.base .loc).rx.waiting = true ∧ (State.reset.base .loc).rx.bytes = [] ∧ (cut.base .west).rx.bytes ≠ []) := by
  refine ⟨rfl, fun sp => by cases sp <;> decide, fun sp => by cases sp <;> decide, ?_⟩
  decide +kernel

/-- A body of 51 bytes, hop limit 3. -/
theorem witness_MessageForOtherSiteForwarded :
    let s := (ready (run .service .wait)).setLine .ws
      { LinePort.reset with mismatch := true, base := { PortBase.reset with rx := ⟨false, []⟩ } }
    let m : Msg := { mail 7 with body := List.replicate 51 0 }
    s.pins.resetLine = false ∧ (s.line .ws).loopNow = .normal ∧ (s.line .ws).base.rx = ⟨false, []⟩
      ∧ ({ farWord .wait with sender := 5 } : SpanWord).sender ≠ (s.config .ws).neighbour ∧ (s.line .ws).mismatch = true
      ∧ m.body.length ≤ 51 ∧ m.dest ≠ 0 ∧ m.dest ≠ s.part.site ∧ m.dest ≠ 1023
      ∧ ((mail 0).dest = 0 ∧ ({ mail 2 with kind := 31 } : Msg).dest = s.part.site ∧ (mail 1023).dest = 1023 ∧ s.part.site ≠ 1023
        ∧ ({ mail 2 with kind := 1 } : Msg).kind = 1 ∧ (⟨false, true, false⟩ : Race).msgFirst = false
        ∧ (⟨false, true, false⟩ : Race).fwdFirst = true)
      ∧ (({ mail 1023 with kind := 30 } : Msg).kind = 30 ∧ ({ mail 1023 with kind := 29 } : Msg).kind = 29)
      ∧ s.localPort.rx = ⟨true, []⟩ ∧ (after (.idleFillReceived .loc) s).localPort.rx = ⟨false, []⟩ := by decide +kernel

theorem witness_EdgeCountersExpire :
    let s := { (run .wait .service).setSt .ws { record .wait with offTicks := 2 } with
      owed := [.offTimer .ws, .silence .es], time := ⟨0, 0, 4096⟩ }.setLine .es { LinePort.reset with live := true, silence := 2 }
    s.pins.resetLine = false ∧ TickJob.offTimer .ws ∈ s.owed ∧ (s.st .ws).state = .wait ∧ (s.st .ws).offExpired = false
      ∧ s.time.tickCount.toNat % 2 ^ (s.config .ws).offStage = 0 ∧ (s.config .ws).offCount ≤ min 15 ((s.st .ws).offTicks + 1)
      ∧ TickJob.silence .es ∈ s.owed ∧ (s.line .es).live = true ∧ s.time.tickCount.toNat % 2 ^ (s.config .es).silenceStage = 0
      ∧ (s.config .es).silenceCount ≤ min 15 ((s.line .es).silence + 1) := by decide +kernel

/-- The edge of stage 12 at tick 4096 with a count of 1 below 3, and with one of 15; the tick after it; a LIVE port one short of the last edge,
and a SILENT one. -/
theorem witness_EdgeCountersExpire_below :
    let s (n : BitVec 32) (off : Nat) := { (run .wait .service).setSt .ws { record .wait with offTicks := off } with time := ⟨0, 8, n⟩ }.setLine
      .es { LinePort.reset with live := true, silence := 1 }
    (s 4095 1).pins.resetLine = false ∧ (s 4095 1).owed = [] ∧ ((s 4095 1).st .ws).state = .wait
      ∧ ((s 4095 1).time.tickCount + 1).toNat % 2 ^ ((s 4095 1).config .ws).offStage = 0
      ∧ min 15 (((s 4095 1).st .ws).offTicks + 1) < ((s 4095 1).config .ws).offCount
      ∧ ¬ min 15 (((s 4095 15).st .ws).offTicks + 1) < ((s 4095 15).config .ws).offCount
      ∧ ((s 4096 1).time.tickCount + 1).toNat % 2 ^ ((s 4096 1).config .ws).offStage ≠ 0 ∧ ((s 4095 1).st .es).state ≠ .wait
      ∧ ((s 4095 1).line .es).live = true ∧ ((s 4095 1).time.tickCount + 1).toNat % 2 ^ ((s 4095 1).config .es).silenceStage = 0
      ∧ min 15 (((s 4095 1).line .es).silence + 1) < ((s 4095 1).config .es).silenceCount ∧ ((s 4095 1).line .ws).live = false := by
  decide +kernel

/-- Channels without light, then with a stale substitute on them; the last tick before each timeout. -/
theorem witness_DarkAndConfirmTimeouts :
    let quiet := { run .shut .wait with mon := Vector.replicate 8 { MonChan.reset with stale := false } }
    let loud := { (run .shut .confirm).setSt .ws { record .shut with ticks := 49 } with owed := [.slot .ws, .slot .es] }.setSt .es
      { record .confirm with ticks := 1999 }
    (quiet.pins.resetLine = false ∧ (quiet.st .ws).state = .shut ∧ quiet.owed = []
        ∧ (quiet.st .ws).startsNext = false ∧ quiet.slotValue .ws ≤ (quiet.config .ws).darkTolerance)
      ∧ (loud.pins.resetLine = false ∧ (loud.st .ws).state = .shut ∧ TickJob.slot .ws ∈ loud.owed
        ∧ (loud.config .ws).darkTolerance < loud.slotValue .ws ∧ (loud.config .ws).darkTimeout ≤ min 65535 ((loud.st .ws).ticks + 1)
        ∧ (loud.st .ws).startsNext = false ∧ (loud.st .ws).darkFailRaised = false)
      ∧ (let said := { (run .shut .confirm).setSt .ws { record .shut with ticks := 49, darkFailRaised := true } with owed := [] }.setSt .es
           { record .confirm with ticks := 1998 }
         said.owed = [] ∧ (said.config .ws).darkTolerance < said.slotValue .ws ∧ (said.st .ws).darkFailRaised = true
           ∧ (said.st .es).state = .confirm ∧ (said.st .es).startsNext = false
           ∧ min 65535 ((said.st .es).ticks + 1) < (said.config .es).confirmTimeout)
      ∧ (loud.st .es).startsNext = false ∧ TickJob.slot .es ∈ loud.owed ∧ (loud.st .es).state = .confirm
      ∧ (loud.config .es).confirmTimeout ≤ min 65535 ((loud.st .es).ticks + 1) ∧ (loud.st .es).confirmRaised = false := by
  decide +kernel

/-- The window sum is at its limit: 127 slots and 20 pulse slots of 10,000 µW. -/
theorem witness_ProbeStartsWhenConditionsHold :
    let s := { ((run .wait .wait).setSt .ws
        { record .wait with offExpired := true, far := some (farWord .wait), causes := [.reflect] }).setLine .ws
          { LinePort.reset with live := true } with
      owed := [.slot .ws], mon := Vector.replicate 8 { MonChan.reset with stale := false }
      ring := ⟨1 :: List.replicate 255 0, List.replicate 256 0⟩ }
    let t := { s with
      pumps := State.reset.pumps.set 0 (launch .dark 0), cfg := s.cfg.set .ws { s.config .ws with limit := 200001 } }
    t.pins.resetLine = false ∧ TickJob.slot .ws ∈ t.owed ∧ (∀ ch, TickJob.link ch ∉ t.owed) ∧ (t.st .ws).state = .wait
      ∧ (t.st .ws).startsNext = false
      ∧ (t.st .ws).offExpired = true ∧ (∀ e ∈ (t.st .ws).causes, e ≠ .interlock ∧ e ≠ .supplyLow ∧ e ≠ .manualHold) ∧ t.part.run = true
      ∧ (∃ ch, (t.pump ch).launches .ws = true ∧ (t.pump ch).state = .dark)
      ∧ (∀ ch, (t.pump ch).launches .ws = true → (t.pump ch).state.isDark = true) ∧ (t.line .ws).live = true
      ∧ (t.st .ws).far = some (farWord .wait) ∧ (farWord .wait).state = .wait
      ∧ ((t.slotValue .ws :: (t.slots .ws).take 255).take ((t.config .ws).window - 1)).sum
          + (t.config .ws).duration * (t.config .ws).ceiling ≤ (t.config .ws).limit
      ∧ (let u := { t with cfg := t.cfg.set .ws { t.config .ws with limit := 200000 }, owed := [] }
         u.owed = [] ∧ (u.st .ws).state = .wait ∧ (u.st .ws).startsNext = false
           ∧ ¬ ((u.slotValue .ws :: (u.slots .ws).take 255).take ((u.config .ws).window - 1)).sum
             + (u.config .ws).duration * (u.config .ws).ceiling ≤ (u.config .ws).limit) := by decide +kernel

/-- A pulse of the whole duration, every slot at the ceiling. -/
theorem witness_AdmittedProbeStaysBelowLimit :
    let s := run .probe .wait
    let pulse := List.replicate 20 10000
    (s.config .ws).duration < (s.config .ws).window ∧ s.projectedSum .ws ≤ (s.config .ws).limit ∧ 1 ≤ pulse.length
      ∧ pulse.length ≤ (s.config .ws).duration ∧ ∀ x ∈ pulse, x ≤ (s.config .ws).ceiling := by decide +kernel

theorem witness_ProbeExpiryCountsFailure :
    let s := { (run .probe .wait).setSt .ws { record .probe with ticks := 29, failures := 4 } with owed := [.slot .ws] }
    s.pins.resetLine = false ∧ TickJob.slot .ws ∈ s.owed ∧ (s.st .ws).state = .probe ∧ (s.st .ws).probeLength = some 30
      ∧ (s.st .ws).startsNext = false
      ∧ 30 ≤ min 65535 ((s.st .ws).ticks + 1) ∧ ¬ ((s.config .ws).mode = .light ∧ (s.inp .ws).light = .present)
      ∧ (let u := (run .probe .wait).setSt .ws { record .probe with ticks := 19 }
         u.owed = [] ∧ u.part.run = true ∧ (u.st .ws).probeLength = some 30 ∧ min 65535 ((u.st .ws).ticks + 1) < 30
           ∧ min 65535 ((u.st .ws).ticks + 1) ≤ (u.config .ws).duration ∧ (u.config .ws).ceiling < u.slotValue .ws
           ∧ (u.st .ws).overshootRaised = false)
      ∧ (let u := ((run .probe .wait).setConfig .ws { SpanConfig.reset with mode := .light }).setInp .ws
           { InputChan.reset with light := .present }
         u.owed = [] ∧ u.part.run = true ∧ (u.st .ws).state = .probe ∧ (u.st .ws).startsNext = false
           ∧ (u.config .ws).mode = .light ∧ (u.inp .ws).light = .present) := by decide +kernel

/-- WS in FRAME mode, ES in LIGHT mode. -/
theorem witness_ConfirmCompletionEntersService :
    let s := (((run .confirm .confirm).setSt .ws { record .confirm with far := some (farWord .service) }).setPump 0 (launch .lit 1000)).setConfig
      .es { SpanConfig.reset with present := true, mode := .light } |>.setInp .es { InputChan.reset with light := .present }
    s.pins.resetLine = false ∧ (s.st .ws).state = .confirm ∧ (s.st .es).state = .confirm
      ∧ (∀ ch, (s.pump ch).of .ws = true → (s.pump ch).service ≠ 0 → (s.pump ch).state = .lit)
      ∧ (∀ ch, (s.pump ch).of .es = true → (s.pump ch).service ≠ 0 → (s.pump ch).state = .lit)
      ∧ (s.config .ws).mode = .frame ∧ (s.st .ws).far = some (farWord .service) ∧ (farWord .service).state = .service
      ∧ (farWord .service).light = true ∧ (s.config .es).mode = .light ∧ (s.inp .es).light = .present := by decide +kernel

theorem witness_ChannelStepsAtTick :
    let at_ (x : SpanState) (p : Pump) : State := { (run x .wait).setPump 0 p with owed := [.step 0] }
    let lights (s : State) : Bool := (s.pump 0).lights = some .ws
    let pulsing := at_ .probe { launch .pulsing 200 with pulseLen := some 20, pulseCount := 19 }
    let holding := at_ .service { launch .darkHold 0 with darkLeft := 1 }
    let rising := at_ .service { launch .darkHold 0 with darkLeft := 1, rise := some 700 }
    let up := at_ .service { launch .rising 700 with target := some 1000 }
    let down := at_ .service { launch .falling 400 with target := some 0 }
    let long := { at_ .service { launch .falling 401 with target := some 0 } with owed := [] }
    (pulsing.pins.resetLine = false ∧ TickJob.step 0 ∈ pulsing.owed ∧ (∀ c, TickJob.link c ∉ pulsing.owed) ∧ lights pulsing = true
        ∧ (pulsing.st .ws).state ≠ .confirm ∧ (pulsing.pump 0).state = .pulsing ∧ (pulsing.pump 0).pulseLen = some 20
        ∧ 20 ≤ (pulsing.pump 0).pulseCount + 1)
      ∧ ((holding.pump 0).state = .darkHold ∧ (holding.pump 0).darkLeft ≤ 1 ∧ (holding.pump 0).rise = none)
      ∧ ((rising.pump 0).state = .darkHold ∧ (rising.pump 0).darkLeft ≤ 1 ∧ (rising.pump 0).rise = some 700 ∧ lights rising = true)
      ∧ ((up.st .ws).state ≠ .confirm ∧ (up.pump 0).target = some 1000 ∧ (up.pump 0).state = .rising
        ∧ 1000 ≤ (up.pump 0).level + (up.pump 0).up)
      ∧ ((down.pump 0).target = some 0 ∧ (down.pump 0).state = .falling ∧ (down.pump 0).level - (down.pump 0).down ≤ 0)
      ∧ (long.owed = [] ∧ (long.pump 0).role ≠ .unused
        ∧ (∀ c, (long.pump c).sent = false ∨ (long.pump c).answered = true ∨ (long.pump c).noReply < 2 ∨ (long.pump c).state = .faulted) ∧ (long.pump 0).state = .falling
        ∧ 0 < (long.pump 0).level - (long.pump 0).down)
      ∧ (let held := at_ .confirm { launch .darkHold 0 with darkLeft := 1, rise := some 700 }
         let ends := at_ .confirm { launch .rising 700 with target := some 1000 }
         held.pins.resetLine = false ∧ TickJob.step 0 ∈ held.owed ∧ (∀ c, TickJob.link c ∉ held.owed) ∧ lights held = true
           ∧ (held.st .ws).state = .confirm ∧ (held.pump 0).state = .darkHold ∧ (held.pump 0).rise = some 700
           ∧ (ends.st .ws).state = .confirm ∧ (ends.pump 0).state = .rising ∧ (ends.pump 0).target = some 1000
           ∧ 1000 ≤ (ends.pump 0).level + (ends.pump 0).up) := by decide +kernel

/-- In CONFIRM: a falling ramp that ends at 0 and one that ends above it, a pulse end, and a min-dark end with nothing pending. -/
theorem witness_ChannelStepsAtTick_confirm :
    let at_ (p : Pump) : State := { (run .confirm .wait).setPump 0 p with owed := [.step 0] }
    let falls (x : Nat) : Pump := { launch .falling 400 with target := some x }
    let pulse : Pump := { launch .pulsing 200 with pulseLen := some 20, pulseCount := 19 }
    let held : Pump := { launch .darkHold 0 with darkLeft := 1 }
    (∀ p ∈ [falls 0, falls 1, pulse, held],
        (at_ p).pins.resetLine = false ∧ TickJob.step 0 ∈ (at_ p).owed ∧ (∀ c, TickJob.link c ∉ (at_ p).owed)
          ∧ ((at_ p).pump 0).lights = some .ws ∧ ((at_ p).st .ws).state = .confirm)
      ∧ (∀ x ∈ [0, 1], (falls x).state = .falling ∧ (falls x).target = some x ∧ (falls x).level - (falls x).down ≤ x)
      ∧ (pulse.state = .pulsing ∧ pulse.pulseLen = some 20 ∧ 20 ≤ pulse.pulseCount + 1)
      ∧ (held.state = .darkHold ∧ held.darkLeft ≤ 1 ∧ held.rise = none) := by decide +kernel

/-- A pulse of 20 ticks at its 18th, a min-dark of 2, ramps one step short of their targets, a LIT channel, and an UNUSED one in DARK_HOLD. -/
theorem witness_ChannelStepsAtTick_counts :
    let at_ (x : SpanState) (p : Pump) : State := (run x .wait).setPump 0 p
    let pulse : Pump := { launch .pulsing 200 with pulseLen := some 20, pulseCount := 18 }
    let held : Pump := { launch .darkHold 0 with darkLeft := 2 }
    let up : Pump := { launch .rising 699 with target := some 1000 }
    let down : Pump := { launch .falling 401 with target := some 0 }
    ((∀ s ∈ [at_ .probe pulse, at_ .service held, at_ .confirm up, at_ .service down, at_ .service (launch .lit 900),
            at_ .wait { held with role := .unused }],
          s.pins.resetLine = false ∧ s.owed = []
            ∧ (∀ c, (s.pump c).sent = false ∨ (s.pump c).answered = true ∨ (s.pump c).noReply < 2 ∨ (s.pump c).state = .faulted)
            ∧ completes .ws s = false ∧ completes .es s = false)
        ∧ (pulse.state = .pulsing ∧ pulse.pulseLen = some 20 ∧ pulse.pulseCount + 1 < 20)
        ∧ (held.state = .darkHold ∧ 2 ≤ held.darkLeft)
        ∧ (up.state = .rising ∧ up.target = some 1000 ∧ up.level + up.up < 1000)
        ∧ (down.state = .falling ∧ down.target = some 0 ∧ 0 < down.level - down.down) ∧ (launch .lit 900).state = .lit)
      ∧ (at_ .confirm up).CompletesPromptly ∧ (at_ .probe pulse).CompletesPromptly :=
  ⟨by decide +kernel, ⟨nofun, fun sp => by cases sp <;> decide +kernel⟩, nofun, fun sp => by cases sp <;> decide +kernel⟩

theorem witness_ThirdMissingAnswerFaults :
    let s := { (run .service .wait).setPump 7 { launch .lit 900 with sent := true, noReply := 2 } with owed := [.check 7] }
    s.pins.resetLine = false ∧ TickJob.check 7 ∈ s.owed ∧ (s.pump 7).role ≠ .unused ∧ (s.pump 7).sent = true
      ∧ (s.pump 7).answered = false ∧ 2 ≤ (s.pump 7).noReply ∧ (s.pump 7).state ≠ .faulted := by decide +kernel

/-- Channel 7 used and channel 0 unused. -/
theorem witness_StatusRecordTaken :
    let s := (run .service .wait).setPump 7 (launch .lit 900)
    s.pins.resetLine = false ∧ (0 : Byte).toNat / 32 = (0 : Chan).val ∧ (s.pump 0).role = .unused
      ∧ (0xE1 : Byte).toNat / 32 = (7 : Chan).val ∧ (0xE0 : Byte).toNat % 2 = 0 ∧ (0xE1 : Byte).toNat % 2 = 1
      ∧ (s.pump 7).role ≠ .unused ∧ (s.pump 7).state ≠ .faulted := by decide +kernel

/-- Channel 0 on the span in SERVICE, channel 1 on the span in WAIT. -/
theorem witness_RiseByChannelState :
    let s := ((run .service .wait).setPump 0 (launch .dark 0)).setPump 1 { launch .dark 0 with span := .es }
    s.pins.resetLine = false ∧ s.part.run = true ∧ (s.pump 0).lights = some .ws ∧ (s.st .ws).state = .service
      ∧ (s.pump 1).lights = some .es ∧ (s.st .es).state ≠ .confirm ∧ (s.st .es).state ≠ .service := by decide +kernel

theorem witness_PulseDouseSnuffByChannelState :
    let s := (run .probe .wait).setPump 0 (launch .dark 0)
    s.pins.resetLine = false ∧ TickJob.link 0 ∉ s.owed ∧ (s.pump 0).role = .launch ∧ s.part.run = true
      ∧ (s.st (s.pump 0).span).state = .probe ∧ (s.pump 0).state = .dark := by decide +kernel

theorem witness_SampleConvertedExactly :
    (run .service .wait).pins.resetLine = false ∧ (7 : Byte).toNat % 8 = (7 : Chan).val ∧ (65535 : Nat) ≤ 65535 := by decide +kernel

/-- A loss in SERVICE in FRAME mode with the port SILENT and LIVE, and LIVE with through-dark set; a loss in SERVICE, and a return in PROBE and
in WAIT, in LIGHT mode; a STAGE pump of EB, whose input is that of WS, and a return of that input with ES in CONFIRM and in SERVICE. -/
theorem witness_LightStateMovesBySample :
    let s := (run .service .wait).setInp .ws { InputChan.reset with light := .fading, run := 2 }
    let live := s.setLine .ws { LinePort.reset with live := true }
    let lit (x : SpanState) (l : Light) := ((run x .wait).setConfig .ws { SpanConfig.reset with mode := .light }).setInp .ws
      { InputChan.reset with light := l, run := 2 }
    let end_ (u : State) (b : Byte) := ((after (.sampleWord 0 b 0) u).inp .ws).light
    let stage := s.setPump 7 { launch .lit 500 with role := .stage, dir := .eb }
    let dark := live.setSt .ws { record .service with far := some { farWord .service with thruDark := true } }
    let open_ (x : SpanState) := ((run .wait x).setInp .ws { InputChan.reset with light := .returning, run := 2 }).setPump 7
      { launch .dark 0 with role := .stage, dir := .eb }
    (s.pins.resetLine = false ∧ (0 : Byte).toNat % 8 = 0 ∧ (4 : Byte).toNat % 8 = 4)
      ∧ ((s.config .ws).mode = .frame ∧ (s.st .ws).state = .service ∧ (s.inp .ws).light = .fading ∧ end_ s 0 = .absent)
      ∧ ((s.line .ws).live = false ∧ (live.line .ws).live = true ∧ (live.st .ws).far = none ∧ end_ live 0 = .absent)
      ∧ (((lit .service .fading).config .ws).mode = .light ∧ end_ (lit .service .fading) 0 = .absent)
      ∧ (((lit .probe .returning).st .ws).state = .probe ∧ end_ (lit .probe .returning) 255 = .present)
      ∧ (((lit .wait .returning).st .ws).state = .wait ∧ end_ (lit .wait .returning) 255 = .present)
      ∧ ((stage.pump 7).role = .stage ∧ (stage.pump 7).dir = .eb)
      ∧ ((dark.config .ws).mode = .frame ∧ (dark.st .ws).state = .service ∧ (dark.line .ws).live = true
        ∧ (dark.st .ws).far = some { farWord .service with thruDark := true } ∧ (dark.inp .ws).light = .fading ∧ end_ dark 0 = .absent)
      ∧ (∀ x ∈ [SpanState.confirm, .service],
          (open_ x).part.run = true ∧ ((open_ x).pump 7).role = .stage ∧ ((open_ x).pump 7).dir = .eb
            ∧ ((open_ x).inp .ws).light = .returning ∧ end_ (open_ x) 255 = .present ∧ ((open_ x).st Span.ws.other).state = x) := by
  decide +kernel

theorem witness_ReflectionRunRaisesReflect :
    (run .service .wait).pins.resetLine = false ∧ (6 : Byte).toNat % 8 = 6 ∧ (2 : Byte).toNat % 8 = 2
      ∧ 1 ≤ ((run .service .wait).reflection .ws).nRef := by decide +kernel

theorem witness_SilentMonitorGoesStale :
    let s := { (run .wait .wait).setChan 6 { MonChan.reset with stale := false, fresh := 9 } with owed := [.monitor 6] }
    s.pins.resetLine = false ∧ TickJob.monitor 6 ∈ s.owed ∧ (s.chan 6).stale = false
      ∧ (s.chan 6).window ≤ min 255 ((s.chan 6).fresh + 1)
      ∧ (let u := ((run .service .wait).setChan 0 { MonChan.reset with stale := false, fresh := 9 }).setInp .ws
           { InputChan.reset with light := .fading, run := 2 }
         u.owed = [] ∧ (u.chan 0).stale = false ∧ (u.chan 0).window ≤ min 255 ((u.chan 0).fresh + 1) ∧ (u.chan 4).stale = true
           ∧ (u.config .ws).mode = .frame ∧ (u.st .ws).state = .service ∧ (u.line .ws).live = false
           ∧ ((after (.tick 0 [.monitor 0]) u).inp .ws).light = .absent) := by decide +kernel

theorem witness_SupplyStatesFollowLine :
    let low := { run .wait .wait with supply := ⟨.low, 0⟩ }
    let settling := { run .wait .wait with supply := ⟨.settling, 99⟩, owed := [.settle] }
    ((run .service .wait).pins.resetLine = false ∧ (run .service .wait).supply.state ≠ .low)
      ∧ (low.pins.resetLine = false ∧ low.supply.state = .low)
      ∧ (settling.pins.resetLine = false ∧ TickJob.settle ∈ settling.owed ∧ settling.supply.state = .settling
        ∧ settling.part.settleTime ≤ settling.supply.count + 1)
      ∧ (let counting := { run .wait .wait with supply := ⟨.settling, 98⟩ }
         counting.owed = [] ∧ counting.supply.state = .settling ∧ counting.supply.count + 1 < counting.part.settleTime
           ∧ low.owed = [] ∧ low.supply.state ≠ .settling) := by decide +kernel

theorem witness_ShutSpanTripsLitSpan :
    let ev : Raised := ⟨.monitorUnit, .reflect, .one .ws, .monitor 6, 5, false⟩
    let s := { (run .service .wait).setPump 0 (launch .lit 900) with raised := [ev] }
    s.pins.resetLine = false ∧ s.part.run = true ∧ s.raised = ev :: [] ∧ ev.span = .one .ws ∧ s.actionOf ev.event = .shutSpan
      ∧ (s.st .ws).state.lit = true ∧ ¬ ((s.st .ws).state = .probe ∧ ev.event = .lightLost)
      ∧ (let w := { run .wait .probe with raised := [ev] }
         w.actionOf ev.event = .shutSpan ∧ (w.st .ws).state.lit = false)
      ∧ (let lost : Raised := ⟨.engine .es, .lightLost, .one .es, .monitor 4, 5, false⟩
         let w := { run .wait .probe with raised := [lost] }
         w.raised = lost :: [] ∧ lost.span = .one .es ∧ w.actionOf lost.event = .shutSpan ∧ (w.st .es).state = .probe)
      ∧ (let w := { s with tableLen := 32, table := State.reset.table.set 5 ⟨.lockSpan, true⟩ }
         w.actionOf ev.event = .lockSpan ∧ (w.st .ws).state ≠ .unused)
      ∧ (let low : Raised := ⟨.supplyMonitor, .supplyLow, .both, .none_, 5, false⟩
         let w := { run .service .wait with raised := [low] }
         w.pins.resetLine = false ∧ w.part.run = true ∧ w.raised = low :: [] ∧ low.span = .both ∧ w.actionOf low.event = .shutSpan
           ∧ low.event ≠ .lightLost) := by decide +kernel

/-- The LOCK_SPAN clauses for a span in UNUSED and for both spans, and the notice clauses: an empty queue with room for exactly the two
notices told, and 32 notices waiting before a full local queue. -/
theorem witness_ShutSpanTripsLitSpan_notices :
    let low : Raised := ⟨.supplyMonitor, .supplyLow, .both, .none_, 5, false⟩
    let hit : Raised := ⟨.monitorUnit, .reflect, .one .ws, .monitor 6, 5, false⟩
    let table := (State.reset.table.set 5 ⟨.lockSpan, true⟩).set 7 ⟨.lockSpan, true⟩
    let six : List Msg := List.replicate 6 (replyTo (ask []) 2 1 0 [])
    let s := { run .service .wait with raised := [low], tableLen := 32, table := table, localPort := { PortBase.reset with queue := six } }
    let u := { run .unused .wait with raised := [hit], tableLen := 32, table := table }
    let full := { s with
      notices := List.replicate 32 ⟨.reflect, .none_, none, 1, false⟩
      localPort := { PortBase.reset with queue := six ++ six.take 2 } }
    (s.pins.resetLine = false ∧ s.part.run = true ∧ s.raised = low :: [] ∧ low.span = .both ∧ s.actionOf low.event = .lockSpan)
      ∧ (u.raised = hit :: [] ∧ hit.span = .one .ws ∧ u.actionOf hit.event = .lockSpan ∧ (u.st .ws).state = .unused)
      ∧ (s.notices = [] ∧ s.notifyOf low.event = true ∧ s.addsNewly .ws low.event = true ∧ s.addsNewly .es low.event = true
        ∧ (s.base s.part.noticePort).queue.length + 2 = 8)
      ∧ (full.notices.length = 32 ∧ (full.base full.part.noticePort).queue.length = 8) := by decide +kernel

theorem witness_SnuffAllLocksEverySpan :
    let ev : Raised := ⟨.engine .ws, .darkFail, .one .ws, .none_, 5, false⟩
    let s := { run .shut .service with raised := [ev] }
    (s.pins.resetLine = false ∧ s.part.run = true ∧ s.raised = ev :: [] ∧ ev.span = .one .ws ∧ s.actionOf ev.event = .snuffAll
        ∧ s.notices = [] ∧ (s.base s.part.noticePort).queue.length + 2 ≤ 8 ∧ s.notifyOf ev.event = true
        ∧ s.addsNewly .ws ev.event = true ∧ s.addsNewly .es ev.event = true)
      ∧ s.LinesFollow :=
  ⟨by decide +kernel, rfl, rfl, rfl⟩

/-- R152 at its edge: EXPOSURE, identifier 9, under table lengths 9 and 10. -/
theorem witness_NoteActionOnlyNotifies_table :
    let s (n : Nat) := { State.reset with tableLen := n, table := State.reset.table.set 9 ⟨.lockSpan, false⟩ }
    ((s 10).tableLen = Event.exposure.id + 1 ∧ (s 10).actionOf .exposure = .lockSpan ∧ (s 10).notifyOf .exposure = false)
      ∧ ((s 9).tableLen = Event.exposure.id ∧ (s 9).actionOf .exposure = .shutSpan ∧ (s 9).notifyOf .exposure = true) := by
  decide +kernel

/-- Behind a REFLECT and the LOCKOUT of WS stands the second LOCKOUT of their action; without that first one it is taken from behind; no event of
the supply monitor is raised. -/
theorem witness_NoteActionOnlyNotifies_taking :
    let hit : Raised := ⟨.monitorUnit, .reflect, .one .ws, .monitor 6, 5, false⟩
    let first : Raised := ⟨.engine .ws, .lockout, .one .ws, .none_, 5, false⟩
    let second : Raised := ⟨.engine .es, .lockout, .one .es, .none_, 5, true⟩
    let s (before : List Raised) := { run .locked .locked with raised := before ++ second :: [hit] }
    (s []).pins.resetLine = false ∧ (∀ e ∈ (s [hit, first]).raised, e.src ≠ .supplyMonitor) ∧ (∀ e ∈ [hit, first], e.src ≠ second.src)
      ∧ (∀ e ∈ [hit], e.event ≠ .lockout) ∧ second.second = true ∧ first ∈ [hit, first] ∧ first.event = .lockout
      ∧ ((∀ e ∈ [hit], e.src ≠ first.src) ∧ first.second = false) := by decide +kernel

/-- A NOTE action in RUN, an event in STANDBY, one for both spans in STANDBY with room for two, and one for no span. -/
theorem witness_NoteActionOnlyNotifies :
    let ev : Raised := ⟨.linePort .ws, .framesLost, .one .ws, .port .west, 5, false⟩
    let s := { run .shut .service with raised := [ev] }
    let t := { State.reset with raised := [ev] }
    (s.pins.resetLine = false ∧ s.raised = ev :: [] ∧ ev.span = .one .ws ∧ s.actionOf ev.event = .note ∧ s.notices = []
        ∧ (s.base s.part.noticePort).queue.length < 8)
      ∧ (t.pins.resetLine = false ∧ t.raised = ev :: [] ∧ t.part.run = false ∧ t.notices = []
        ∧ (t.base t.part.noticePort).queue.length < 8)
      ∧ (let low : Raised := ⟨.supplyMonitor, .supplyLow, .both, .none_, 5, false⟩
         let u := { State.reset with raised := [low] }
         u.raised = low :: [] ∧ low.span = .both ∧ u.part.run = false ∧ u.notices = []
           ∧ (u.base u.part.noticePort).queue.length + 2 ≤ 8)
      ∧ (let part : Raised := ⟨.partControl, .partState, .none_, .none_, 5, false⟩
         let u := { run .shut .service with raised := [part] }
         u.raised = part :: [] ∧ part.span = .none_ ∧ u.notices = [] ∧ (u.base u.part.noticePort).queue.length + 1 ≤ 8) := by
  decide +kernel

/-- Any state out of RESET; then an event for both spans before a full local queue, with 30, 31 and 32 notices waiting. -/
theorem witness_NoticesDepartOldestFirst :
    let low : Raised := ⟨.supplyMonitor, .supplyLow, .both, .none_, 5, false⟩
    let s (n : Nat) := { State.reset with
      raised := [low], notices := List.replicate n ⟨.reflect, .none_, none, 1, false⟩
      localPort := { PortBase.reset with queue := List.replicate 8 (replyTo (ask []) 2 1 0 []) } }
    (run .service .wait).pins.resetLine = false
      ∧ ((s 30).pins.resetLine = false ∧ (s 30).raised = low :: [] ∧ 8 ≤ ((s 30).base (s 30).part.noticePort).queue.length
        ∧ (s 30).notifyOf low.event = true ∧ (s 30).part.run = false ∧ low.span = .both)
      ∧ (s 30).notices.length + 2 ≤ 32 ∧ (s 31).notices.length = 31 ∧ (s 32).notices.length = 32 := by decide +kernel

theorem witness_ReadAnswersAndChangesNothing :
    State.reset.pins.resetLine = false ∧ (ask [6, 7]).body = [6, 7] ∧ ((0 : BitVec 5) = 0 ∧ 18 < (29 : BitVec 5).toNat ∧ (29 : BitVec 5).toNat < 30)
      ∧ (9 < (10 : Byte).toNat ∧ 1 < (2 : Byte).toNat ∧ 21 ≤ 31 ∧ 31 < 32) := by decide

/-- Every numbered field has a value of its width; the duration at the edge of T below W and at W; present and mode written to each value and
beyond; present written in RUN to yes and to no. -/
theorem witness_WriteSpanTakesEffect :
    let c := SpanConfig.reset
    let u := { run .service .unused with cfg := ⟨{ SpanConfig.reset with present := true }, SpanConfig.reset⟩ }
    (u.pins.resetLine = false ∧ u.classUsed (ask []) = 0
        ∧ (∀ w ∈ [1, 2, 3, 4, 5], (beBytes w 100).length = w ∧ (c.numbered (beNat (beBytes w 100))).map (fun f => (f.1, f.2.1)) =
            [(2, 2), (4, 1), (5, 4), (6, 2), (7, 5), (8, 1), (9, 3), (10, 2), (11, 1), (12, 1), (13, 1), (14, 2), (15, 1), (16, 1)])
        ∧ (4, 1, 1, 255, { c with duration := 127 }) ∈ c.numbered (beNat [127])
        ∧ (4, 1, 1, 255, { c with duration := 128 }) ∈ c.numbered (beNat [128]) ∧ c.window ≤ 128
        ∧ (ask [0, 4, 127]).body = (if Span.ws = .ws then 0 else 1) :: BitVec.ofNat 8 4 :: [127])
      ∧ (c.duration < c.window ∧ c.ceiling * c.duration ≤ c.limit ∧ (0 : Byte).toNat ≤ 1 ∧ (1 : Byte).toNat ≤ 1 ∧ 1 < (2 : Byte).toNat
        ∧ State.reset.part.run = false ∧ (State.reset.st .ws).state = .unused ∧ decide ((1 : Byte) = 1) ≠ (State.reset.config .ws).present
        ∧ (u.st .ws).state = .service ∧ decide ((0 : Byte) = 1) ≠ (u.config .ws).present)
      ∧ (u.part.run = true ∧ (u.config .es).duration < (u.config .es).window
        ∧ (u.config .es).ceiling * (u.config .es).duration ≤ (u.config .es).limit
        ∧ (u.config .es).present = false ∧ (u.st .es).state = .unused)
      ∧ (((run .wait .wait).config .ws).present = true ∧ ((run .wait .wait).st .ws).state = .wait
        ∧ ((run .wait .wait).config .ws).duration < ((run .wait .wait).config .ws).window
        ∧ ((run .wait .wait).config .ws).ceiling * ((run .wait .wait).config .ws).duration ≤ ((run .wait .wait).config .ws).limit) := by
  decide +kernel

/-- The WRITE_PUMP clauses: a role that moves a LIT pump and one that moves a dark one, the role held; setpoints of 4000 above the ceiling,
in PULSING, in WAIT and in SERVICE; a ceiling of 0 for a DARK pump. -/
theorem witness_PumpRequestsTaken_writes :
    let s (x : SpanState) (p : PumpState) (level : Nat) := (run x .wait).setPump 7 (launch p level)
    ((∀ x ∈ [s .service .lit 900, s .wait .dark 0, s .probe .pulsing 200],
          x.pins.resetLine = false ∧ x.classUsed (ask [7, 1, 2]) = 0 ∧ x.part.run = true)
        ∧ (∀ p ∈ [launch .lit 900, launch .dark 0, launch .pulsing 200], p.BelowCeiling)
        ∧ ((ask [7, 1, 2]).body = [BitVec.ofNat 8 (7 : Chan).val, 1, 2] ∧ (2 : Byte).toNat ≤ 3 ∧ (launch .lit 900).role = .launch
          ∧ (launch .dark 0).role = .launch ∧ (launch .dark 0).lights = some .ws ∧ ((s .wait .dark 0).st .ws).state = .wait)
        ∧ ((15 : Byte).toNat * 256 + (160 : Byte).toNat = 4000 ∧ (launch .pulsing 200).ceiling < 4000)
        ∧ (((s .service .lit 900).st .ws).state = .service ∧ (launch .lit 900).level ≠ min 4000 (launch .lit 900).ceiling
          ∧ (launch .lit 900).service ≠ min 4000 (launch .lit 900).ceiling)
        ∧ ((launch .dark 0).level = 0 ∧ (launch .dark 0).target = none ∧ (launch .dark 0).rise = none ∧ 0 < (launch .dark 0).service))
      ∧ (s .service .lit 900).CompletesPromptly ∧ (s .wait .dark 0).CompletesPromptly ∧ (s .probe .pulsing 200).CompletesPromptly :=
  ⟨by unfold Pump.BelowCeiling; decide +kernel, ⟨nofun, fun sp => by cases sp <;> decide +kernel⟩,
    ⟨nofun, fun sp => by cases sp <;> decide +kernel⟩, nofun, fun sp => by cases sp <;> decide +kernel⟩

/-- A ceiling one below the level; a setpoint at 4000. -/
theorem witness_PumpRequestsTaken :
    let s := (run .service .wait).setPump 7 { launch .lit 1001 with service := 1000 }
    let f := (run .wait .wait).setPump 7 (launch .faulted 0)
    (s.pins.resetLine = false ∧ s.classUsed (ask [7, 4, 3, 232]) = 0 ∧ (ask [7, 4, 3, 232]).body = [BitVec.ofNat 8 (7 : Chan).val, 4, 3, 232]
        ∧ 1 ≤ (3 : Byte).toNat * 256 + (232 : Byte).toNat ∧ (3 : Byte).toNat * 256 + (232 : Byte).toNat < (s.pump 7).level
        ∧ (s.pump 7).state = .lit ∧ (s.pump 7).target = none ∧ (s.pump 7).rise = none ∧ (s.pump 7).service ≤ 1000
        ∧ (s.pump 7).probe ≤ 1000 ∧ (s.pump 7).lights = some .ws ∧ (s.st .ws).state = .service)
      ∧ ((ask [7, 15, 160]).body = [BitVec.ofNat 8 (7 : Chan).val, 15, 160] ∧ (15 : Byte).toNat * 256 + (160 : Byte).toNat ≤ 4000
        ∧ (f.pump 7).lights = some .ws ∧ (f.st .ws).state ≠ .service ∧ (f.st .ws).state ≠ .confirm)
      ∧ (s.part.run = true ∧ (s.pump 7).role = .launch ∧ (s.st (s.pump 7).span).state = .service
        ∧ (s.pump 7).level ≠ min 4000 (s.pump 7).ceiling)
      ∧ ((ask [7]).body = [BitVec.ofNat 8 (7 : Chan).val] ∧ (f.pump 7).state = .faulted ∧ (s.pump 7).state ≠ .faulted) := by
  decide +kernel

/-- Thresholds of ES, channel 4, one for channel 7; the last event with the strongest action, DARK_FAIL with notify clear; values one beyond. -/
theorem witness_MonitorAndEventTablesWritten :
    State.reset.pins.resetLine = false ∧ State.reset.classUsed (ask [4, 5, 0, 0, 20]) = 0 ∧ (State.reset.inp .es).hi ≤ 16776704
      ∧ (ask [4, 5, 0, 0, 30, 6, 0, 0, 30]).body = [if Span.es = .ws then 0 else 4, 5, 0, 0, 30, 6, 0, 0, 30]
      ∧ ((7 : Chan) ≠ 0 ∧ (7 : Chan) ≠ 4 ∧ (ask [7, 6, 0, 0, 30]).body = [BitVec.ofNat 8 (7 : Chan).val, 6, 0, 0, 30])
      ∧ (ask [1, 20, 2, 3]).body = [1, BitVec.ofNat 8 Event.partState.id, 2, 3] ∧ (3 : Byte).toNat ≤ 3
      ∧ (ask [1, 12, 2, 3, 3, 0]).body = [1, BitVec.ofNat 8 Event.darkFail.id, 2, 3, 3, 0] ∧ (1 : Byte).toNat ≤ 1
      ∧ 20 < (21 : Byte).toNat ∧ 3 < (4 : Byte).toNat ∧ 1 < (2 : Byte).toNat ∧ 32 < (33 : Byte).toNat := by decide +kernel

theorem witness_InterlockRequestsTaken :
    let s := (run .wait .wait).setIlLine 7 ⟨.ws, .fall, some false, true⟩
    s.pins.resetLine = false ∧ s.classUsed (ask [7, 1, 2]) = 0 ∧ (ask [7, 1, 2]).body = [BitVec.ofNat 8 (7 : Chan).val, 1, 2]
      ∧ (s.ilLine 7).active = true ∧ (s.ilLine 7).assign = .ws
      ∧ (∀ m, m ≠ 7 → (s.ilLine m).guards .ws = false ∧ (s.ilLine m).guards .es = false)
      ∧ ((ask [7, 2, 3]).body = [BitVec.ofNat 8 (7 : Chan).val, 2, 3] ∧ (3 : Byte).toNat ≤ 3
        ∧ (ask [7, 1, 3, 2, 1]).body = [BitVec.ofNat 8 (7 : Chan).val, 1, 3, 2, 1])
      ∧ (let u := (run .wait .wait).setIlLine 7 ⟨.both, .fall, some false, false⟩
         (u.ilLine 7).active = false ∧ ({ u.ilLine 7 with sense := .fallLow } : IlLine).active = true)
      ∧ (ask [7]).body = [BitVec.ofNat 8 (7 : Chan).val] := by decide +kernel

theorem witness_HoldResumeReleaseTaken :
    let s := (run .locked .wait).setHeld .ws true
    s.pins.resetLine = false ∧ (ask [0]).body = [if Span.ws = .ws then 0 else 1] ∧ s.classUsed (ask [0]) = 0 ∧ s.held .ws = true
      ∧ (s.st .ws).state = .locked ∧ (s.st .es).state ≠ .locked := by decide +kernel

theorem witness_LoopAndSiteWritten :
    let s := run .wait .service
    s.pins.resetLine = false ∧ s.classUsed (ask [0, 2]) = 0 ∧ s.part.run = true ∧ (s.line .ws).loop = .normal
      ∧ (s.st .ws).state = .wait ∧ (2 : Byte).toNat ≤ 2 ∧ (s.st .es).state = .service
      ∧ (3 : Byte).toNat * 256 + (254 : Byte).toNat ≤ 1022 ∧ s.part.site ≠ BitVec.ofNat 10 1022
      ∧ (let looped (x : SpanState) := (run x .wait).setLine .ws { LinePort.reset with loop := .inner }
         (State.reset.pins.resetLine = false ∧ State.reset.classUsed (ask [0, 2]) = 0 ∧ (State.reset.line .ws).loop ≠ .outer
             ∧ (State.reset.st .ws).state = .unused)
           ∧ (((looped .locked).line .ws).loop ≠ .normal ∧ ((looped .locked).st .ws).state = .locked)
           ∧ (((looped .maint).line .ws).loop ≠ .normal ∧ ((looped .maint).st .ws).state = .maint ∧ (looped .maint).part.run = true)) := by
  decide +kernel

theorem witness_StartAndHaltMovePart :
    State.reset.pins.resetLine = false ∧ State.reset.classUsed (ask []) = 0 ∧ (ask []).body = [] ∧ State.reset.part.run = false
      ∧ State.reset.StandbyUnused ∧ (State.reset.setConfig .ws { SpanConfig.reset with present := true }).StandbyUnused
      ∧ (run .service .wait).pins.resetLine = false ∧ (run .service .wait).classUsed (ask []) = 0
      ∧ (run .service .wait).part.run = true :=
  ⟨rfl, by decide, rfl, rfl, fun _ sp => by cases sp <;> rfl, fun _ sp => by cases sp <;> rfl, rfl, by decide, rfl⟩

theorem witness_ClearForgetsTraffic :
    (run .service .wait).pins.resetLine = false ∧ (run .service .wait).classUsed (ask []) = 0 ∧ (ask []).body = []
      ∧ (run .service .wait).StandbyUnused ∧ (run .service .wait).LinesFollow ∧ ((run .service .wait).st .ws).state ≠ .unused
      ∧ State.reset.LinesFollow ∧ (State.reset.st .ws).state = .unused :=
  ⟨rfl, by decide, rfl, nofun, ⟨rfl, rfl, rfl⟩, by decide, ⟨rfl, rfl, rfl⟩, rfl⟩

/-- Group 8 with class 3; map length 9 with safety level 3; a request of class 1. -/
theorem witness_GrantTableWritten :
    State.reset.pins.resetLine = false ∧ State.reset.classUsed (ask [1, 1, 8, 7]) = 0 ∧ (8 : Byte).toNat ≤ 8
      ∧ (7 : Byte).toNat / 2 % 4 ≠ 0 ∧ (ask [2, 9, 3, 3]).body = [2, 9, 3, 3] ∧ (3 : Byte).toNat ≤ 3
      ∧ State.reset.classUsed { ask [2, 1] with cls := 1 } ≠ 0 := by decide

/-- A request of class 1 without grants; one of class 2 above safety level 1 whose grant the map holds, at map length 9, with the ranges of
each field. -/
theorem witness_GrantsDecideRights :
    State.reset.pins.resetLine = false ∧ State.reset.classUsed { ask [] with cls := 1 } ≠ 0 ∧ State.reset.grants.length = 0
      ∧ ({ ask [1] with cls := 1 } : Req).body = [1]
      ∧ (let s := { run .locked .wait with grants := ⟨(Vector.replicate 27 false).set 4 true, 9, 1⟩ }
         let r (b : List Byte) : Req := { ask b with cls := 2 }
         (s.pins.resetLine = false ∧ s.classUsed (r [0]) = 2 ∧ s.classUsed { r [0] with cls := 0 } = 0 ∧ 1 < s.grants.length
             ∧ s.grants.map.toList.getD (3 * 1 + 2 - 1) false = true
             ∧ s.grants.map.toList.getD (3 * 0 + 2 - 1) false = false ∧ ¬ 2 ≤ s.grants.safety)
           ∧ ((s.st .ws).state = .locked ∧ (s.st .es).state ≠ .locked ∧ (s.pump 0).state ≠ .faulted ∧ (2 : Byte).toNat ≤ 2)
           ∧ (1 ≤ (15 : Byte).toNat ∧ (15 : Byte).toNat ≤ 15 ∧ (s.config .ws).duration < (s.config .ws).window
             ∧ (s.config .ws).ceiling * (s.config .ws).duration ≤ (s.config .ws).limit ∧ (r [0, 12, 15, 4, 9]).body = [0, 12, 15, 4, 9])
           ∧ (s.inp .ws).lo ≤ (s.inp .ws).hi ∧ (s.inp .es).lo ≤ (s.inp .es).hi ∧ (32 : Byte).toNat ≤ 32 ∧ (3 : Byte).toNat ≤ 3) := by
  decide +kernel

/-! A lit part that meets every invariant, with a command waiting. -/

/-- WS in SERVICE with a pump LIT, ES in LOCKED. -/
def busy : State := { (run .service .locked).setPump 0 (launch .lit 1000) with pending := [.douse 0] }

theorem witness_EnableLinesFollowSpans : busy.LinesFollow ∧ ∃ t, step busy = .next t := ⟨⟨rfl, rfl, rfl⟩, _, rfl⟩

theorem busy_pumpsSound : busy.PumpsSound := by
  unfold State.PumpsSound Pump.BelowCeiling Pump.FitsState; decide +kernel

theorem busy_eyeSafe : busy.EyeSafe := by
  refine ⟨⟨nofun, by decide +kernel⟩, fun ch h => ⟨.ws, ?_⟩⟩
  revert ch; decide +kernel

theorem witness_PumpsStayWithinCeilings : busy.PumpsSound ∧ ∃ t, step busy = .next t := ⟨busy_pumpsSound, _, rfl⟩

/-- WS in PROBE with its LAUNCH pump in PULSING at the probe setpoint. -/
def probing : State :=
  { (run .probe .locked).setPump 0 { launch .pulsing 200 with pulseLen := some 20 } with pending := [.pulse 0 200 20] }

theorem witness_LightOnlyWhereSpanAllows_probe :
    probing.EyeSafe ∧ probing.PumpsSound ∧ probing.ProbeBounded
      ∧ (∀ ch level len, probing.pending.head? = some (.pulse ch level len) → level ≤ (probing.pump ch).probe)
      ∧ ∃ t, step probing = .next t := by
  refine ⟨⟨⟨nofun, by decide +kernel⟩, fun ch h => ⟨.ws, ?_⟩⟩, ?_, ?_, ?_, _, rfl⟩
  · revert ch; decide +kernel
  · unfold State.PumpsSound Pump.BelowCeiling Pump.FitsState; decide +kernel
  · unfold State.ProbeBounded; decide +kernel
  · rintro ch level len ⟨rfl⟩; decide +kernel

theorem witness_LightOnlyWhereSpanAllows :
    busy.EyeSafe ∧ busy.PumpsSound ∧ (∀ ch, busy.pending.head? = some (.douse ch) → (busy.pump ch).state ≠ .pulsing)
      ∧ ∃ t, step busy = .next t :=
  ⟨busy_eyeSafe, busy_pumpsSound, by decide +kernel, _, rfl⟩

/-- WS in SERVICE holds INTERLOCK, whose line is active. -/
theorem witness_StandingCausesFollowConditions :
    let s := { (busy.setSt .ws { record .service with causes := [.interlock] }).setIlLine 7 ⟨.ws, .fall, some false, true⟩ with
      pending := [.clearInterlock (ask [7])] }
    s.CausesStand ∧ s.CauseSets ∧ ∃ t, step s = .next t :=
  ⟨fun sp e => by cases sp <;> cases e <;> decide +kernel, fun sp => by cases sp <;> decide +kernel, _, rfl⟩

theorem witness_LitSpansHoldNoStandingCause : busy.LitHoldsNoStanding ∧ ∃ t, step busy = .next t :=
  ⟨fun sp => by cases sp <;> decide +kernel, _, rfl⟩

theorem witness_SpanRecordsFitStates :
    busy.StandbyUnused ∧ busy.FailuresCounted ∧ busy.FieldsFitSpan ∧ busy.LoopsFitSpans ∧ ∃ t, step busy = .next t :=
  ⟨nofun, fun sp => by cases sp <;> decide +kernel, fun sp => by cases sp <;> decide +kernel, fun sp => by cases sp <;> decide +kernel, _, rfl⟩

theorem witness_TablesStayInRange :
    busy.ConfigsInRange ∧ busy.PowersInRange ∧ busy.TableFloors ∧ busy.CountsInRange ∧ ∃ t, step busy = .next t :=
  ⟨fun sp => by cases sp <;> (unfold SpanConfig.InRange; decide +kernel),
    ⟨by unfold MonChan.InRange; decide +kernel,
      fun sp => by cases sp <;> (unfold InputChan.InRange ReflChan.InRange; decide +kernel)⟩,
    fun e => by cases e <;> decide +kernel,
    ⟨by unfold Pump.RatesInRange; decide +kernel, by unfold State.RecordsInRange; decide +kernel, by decide +kernel,
      fun p => by cases p <;> decide +kernel, fun sp => by cases sp <;> decide +kernel, by decide +kernel⟩, _, rfl⟩

theorem witness_QueuesBoundedAndNoticesMoveUp : busy.QueuesWithinRoom ∧ busy.NoticesMovedUp ∧ ∃ t, step busy = .next t :=
  ⟨⟨fun p => by cases p <;> decide +kernel, fun sp => by cases sp <;> decide +kernel, by decide +kernel⟩, .inl rfl, _, rfl⟩

/-- WS in CONFIRM, with only the far word missing for SERVICE. -/
theorem witness_ServiceEnteredAtFirstEvent :
    let s := { ready (run .confirm .wait) with
      pending := [.frameReceived .west ⟨false, false, false⟩ (frameBytes (farWord .service) none)] }
    s.CompletesPromptly ∧ ∃ t, step s = .next t :=
  ⟨⟨nofun, fun sp => by cases sp <;> decide +kernel⟩, _, rfl⟩

theorem witness_LockedSpanStaysDark : (busy.st .es).state = .locked ∧ ∃ t, step busy = .next t := ⟨rfl, _, rfl⟩

/-- A message with a body of 51 bytes. -/
theorem witness_FrameReadsAsBuilt : ∀ x ∈ some { mail 7 with body := List.replicate 51 0 }, x.body.length ≤ 51 := by decide

theorem witness_FrameCheckDetectsOneByte : (0 : Byte) ≠ 128 := by decide

end Sys2Proof.Tests
end

section
/-!
SUPPORT. The moves of the part: every command is a chain of changes, each of one kind of record and under the conditions it is
made in. `Move` lists the kinds, with what the invariants need to know of each; `Run` chains them, with the completion test of R30 as a
move of its own. An invariant is then proved once for each kind of move.
-/

namespace Sys2Proof.Machine

open Relation (ReflTransGen)

/-! ### Records by themselves -/

/-- A pump of a span that keeps the span from SERVICE: a nonzero service setpoint and not LIT (R30). -/
def Pump.blocks (p : Pump) (sp : Span) : Bool := p.of sp && decide (p.service ≠ 0) && decide (p.state ≠ .lit)

theorem Pump.blocks_iff (p : Pump) (sp : Span) : p.blocks sp = true ↔ p.of sp = true ∧ p.service ≠ 0 ∧ p.state ≠ .lit := by
  simp [Pump.blocks, and_assoc]

theorem mem_chans (ch : Chan) : ch ∈ Config.chans := by revert ch; decide

theorem pumpsLit_iff (sp : Span) (s : State) : pumpsLit sp s = true ↔ ∀ ch, (s.pump ch).blocks sp = false := by
  simp only [pumpsLit, List.all_eq_true, mem_chans, true_imp_iff, Pump.blocks]
  refine forall_congr' fun ch => ?_
  by_cases h : (s.pump ch).state = .lit <;> simp [h, Classical.or_iff_not_imp_left]

/-- The fields of a span's record that belong to one state are clear in the others: `State.FieldsFitSpan` of one record. -/
def SpanStatus.Fits (x : SpanStatus) : Prop :=
  (x.state ≠ .wait → x.callPending = false ∧ x.offTicks = 0 ∧ x.offExpired = false)
    ∧ (x.state ≠ .shut → x.state ≠ .probe → x.state ≠ .confirm → x.ticks = 0)
    ∧ x.probeLength.isSome = decide (x.state = .probe) ∧ x.offTicks ≤ 15 ∧ x.ticks ≤ 65535

theorem fieldsFitSpan_iff (s : State) : s.FieldsFitSpan ↔ ∀ sp, (s.st sp).Fits := Iff.rfl

/-- Port counts and silence counts within their ranges (R103). -/
def State.PortCounts (s : State) : Prop :=
  (∀ p : Port, (s.base p).accepted ≤ 65535 ∧ (s.base p).discarded ≤ 65535) ∧ ∀ sp : Span, (s.line sp).silence ≤ 15

/-- The settle count within its range (R134). -/
def Supply.InRange (x : Supply) : Prop := x.count ≤ 65535 ∧ (x.state = .settling → x.count < 65535)

/-- The place within a tick (R138). -/
def TimeBase.InRange (x : TimeBase) : Prop := x.prescaler < 16384 ∧ x.slotNext ≤ 8

theorem countsInRange_iff (s : State) :
    s.CountsInRange ↔ (∀ ch, (s.pump ch).RatesInRange) ∧ s.RecordsInRange ∧ s.tableLen ≤ 32 ∧ s.PortCounts ∧ s.supply.InRange
      ∧ s.time.InRange := by
  simp only [State.CountsInRange, State.PortCounts, Supply.InRange, TimeBase.InRange, and_assoc]

/-- The state in which a span leaves UNUSED or LOCKED: WAIT, or MAINT with its port in a loop mode (R9, R33). -/
def State.restState (s : State) (sp : Span) : SpanState := if (s.line sp).loop = .normal then .wait else .maint

/-! ### Moves -/

/-- What is known of the place a move is made in: whether consumers take a tick, for which spans the completion test of R30 is still to
follow, and whether no span is out of UNUSED at a START (R183). -/
structure Scope where
  tick : Bool
  free : Span → Prop
  standby : Prop

/-- A place where no test follows. -/
def Scope.calm (tick : Bool) : Scope := ⟨tick, fun _ => False, True⟩

/-- A place where the test of one span follows. -/
def Scope.testing (tick : Bool) (sp : Span) : Scope := ⟨tick, (· = sp), True⟩

/-- The completion conditions of a span may come true: a test follows, or the span is not in CONFIRM. -/
def Scope.Loose (c : Scope) (s : State) (sp : Span) : Prop := c.free sp ∨ s.part.run = false ∨ (s.st sp).state ≠ .confirm

/-- A record that a span takes without a change of state: causes leave it, or enter it where their condition stands and the state lets
them. -/
structure Mark (c : Scope) (s : State) (sp : Span) (y : SpanStatus) : Prop where
  state : y.state = (s.st sp).state
  failures : y.failures = (s.st sp).failures
  fits : (s.st sp).Fits → y.Fits
  nodup : (s.st sp).causes.Nodup → y.causes.Nodup
  causes : ∀ e ∈ y.causes, e ∈ (s.st sp).causes ∨
    (s.stands sp e = true ∧ y.state ≠ .unused ∧ y.state ≠ .service ∧ (y.state.lit = true → e.standing = false))
  far : c.Loose s sp ∨ y.far = (s.st sp).far ∨ y.far = none

/-- The changes of a span's state (R7): the new state, failure count and cause set. -/
inductive Shift (c : Scope) (s : State) (sp : Span) : SpanState → Nat → List Event → Prop
  | dark : (s.st sp).state = .shut → Shift c s sp .wait (s.st sp).failures (s.st sp).causes
  | retry (n : Nat) : (s.st sp).state = .probe → n ≤ 15 → ¬ ((s.config sp).lockout ≠ 0 ∧ (s.config sp).lockout ≤ n) →
      Shift c s sp .wait n (s.st sp).causes
  | fail (n : Nat) : (s.st sp).state = .probe → n ≤ 15 → Shift c s sp .locked n (s.st sp).causes
  | trip : (s.st sp).state.lit = true → Shift c s sp .shut (s.st sp).failures (s.st sp).causes
  | lock : (s.st sp).state ≠ .unused → Shift c s sp .locked (s.st sp).failures (s.st sp).causes
  | probe : c.tick = true → (s.st sp).state = .wait → holdsStanding (s.st sp).causes = false →
      Shift c s sp .probe (s.st sp).failures (s.st sp).causes
  | confirm : c.free sp → (s.st sp).state = .probe → Shift c s sp .confirm (s.st sp).failures (s.st sp).causes
  | serve : (s.st sp).state = .confirm → Shift c s sp .service 0 (standingOnly (s.st sp).causes)
  | release : c.tick = false → (s.st sp).state = .locked → Shift c s sp (s.restState sp) 0 (s.st sp).causes
  | leave (n : Nat) : c.tick = false → s.part.run = true → (c.standby → (s.st sp).state = .unused) →
      n = (s.st sp).failures ∨ n = 0 → Shift c s sp (s.restState sp) n (s.st sp).causes
  | retire : c.tick = false → Shift c s sp .unused 0 []

/-- A span moves with a change of its port's loop mode (R34, R189): the new mode, state and failure count. -/
inductive Remode (s : State) (sp : Span) : Loop → SpanState → Nat → Prop
  | toMaint (m : Loop) : (s.st sp).state = .wait ∨ (s.st sp).state = .locked → m ≠ .normal → Remode s sp m .maint 0
  | toWait : (s.st sp).state = .maint → Remode s sp .normal .wait (s.st sp).failures

/-- A span's new record, with the enable lines driven (R8). -/
def shift (sp : Span) (y : SpanStatus) (s : State) : State := driveLines (s.setSt sp y)

/-- One change of the state, of one kind of record. -/
inductive Move (c : Scope) (s : State) : State → Prop
  /-- What no rule of spans, tables or counts speaks of. -/
  | aside (time : TimeBase) (notices : List Notice) (raised : List Raised) (interlock : BitVec 8) (supplyGood resetLine : Bool)
      (owed : List TickJob) (out : List Output) (pending : List Instr) : (s.time.InRange → time.InRange) →
      Move c s { s with
        time := time, notices := notices, raised := raised, owed := owed, out := out, pending := pending
        pins := { s.pins with interlock := interlock, supplyGood := supplyGood, resetLine := resetLine } }
  /-- Ports: queues, receivers and counts. -/
  | ports (lines : PerSpan LinePort) (localPort : PortBase) :
      (s.PortCounts → { s with lines := lines, localPort := localPort }.PortCounts) →
      (∀ sp, (lines.get sp).loop = (s.line sp).loop) → Move c s { s with lines := lines, localPort := localPort }
  /-- Pump channels. -/
  | pumps (pumps : Vector Pump 8) : (∀ ch : Chan, (s.pump ch).RatesInRange → pumps[ch].RatesInRange) →
      (∀ (ch : Chan) (sp : Span), c.Loose s sp ∨ ((s.pump ch).blocks sp = true → pumps[ch].blocks sp = true)) →
      Move c s { s with pumps := pumps }
  /-- Monitor channels and rings. -/
  | powers (mon : Vector MonChan 8) (input : PerSpan InputChan) (refl : PerSpan ReflChan) (ring : PerSpan (List Nat)) :
      (s.PowersInRange → { s with mon := mon, input := input, refl := refl, ring := ring }.PowersInRange) →
      (∀ sp, c.Loose s sp ∨ (input.get sp).light = (s.inp sp).light) →
      Move c s { s with mon := mon, input := input, refl := refl, ring := ring }
  /-- A span configuration record. -/
  | config (sp : Span) (k : SpanConfig) : ((s.config sp).InRange → k.InRange) →
      k.lockout = (s.config sp).lockout ∨ (k.lockout ≠ 0 → k.lockout ≤ (s.st sp).failures → (s.st sp).state = .locked) →
      c.Loose s sp ∨ k.mode = (s.config sp).mode → Move c s (s.setConfig sp k)
  /-- The event table, the grant record and the part identity record. -/
  | tables (table : Vector EvEntry 32) (tableLen : Nat) (grants : Grants) (part : Part) : part.run = s.part.run →
      (s.TableFloors → { s with table := table }.TableFloors) → (s.tableLen ≤ 32 → tableLen ≤ 32) →
      (s.RecordsInRange → { s with grants := grants, part := part }.RecordsInRange) →
      Move c s { s with table := table, tableLen := tableLen, grants := grants, part := part }
  /-- A span's record without a change of state. -/
  | mark (sp : Span) (y : SpanStatus) : Mark c s sp y → Move c s (s.setSt sp y)
  /-- A change of a span's state. -/
  | shift (sp : Span) (y : SpanStatus) : Shift c s sp y.state y.failures y.causes → y.Fits → y.far = (s.st sp).far →
      Move c s (shift sp y s)
  /-- A new loop mode that moves no span (R189). -/
  | reloop (sp : Span) (m : Loop) : c.tick = false →
      (s.part.run = true → (s.st sp).state = .unused ∨ (m ≠ .normal ∧ (s.st sp).state = .maint)
        ∨ ((s.st sp).state = .locked ∨ (s.st sp).state = .wait) ∧ (s.line sp).loop ≠ .normal) →
      Move c s (s.setLine sp { s.line sp with loop := m, mismatch := false })
  /-- A new loop mode that moves its span (R34, R189). -/
  | remode (sp : Span) (m : Loop) (y : SpanStatus) : c.tick = false → Remode s sp m y.state y.failures →
      y.causes = (s.st sp).causes → y.Fits → y.far = (s.st sp).far →
      Move c s (shift sp y (s.setLine sp { s.line sp with loop := m, mismatch := false }))
  /-- The standing conditions: interlock lines, supply state, hold flags. -/
  | conditions (il : Vector IlLine 8) (supply : Supply) (hold : PerSpan Bool) : (s.RecordsInRange → s.supply.InRange → supply.InRange) →
      (∀ sp, ∀ e ∈ (s.st sp).causes, e.standing = true → s.stands sp e = true →
        { s with il := il, supply := supply, hold := hold }.stands sp e = true) →
      Move c s { s with il := il, supply := supply, hold := hold }
  /-- STANDBY to RUN (R185). -/
  | go : c.tick = false → s.part.run = false → Move c s (setRun true s)
  /-- RUN to STANDBY, with both spans in UNUSED (R183). -/
  | stop : c.tick = false → (∀ sp, (s.st sp).state = .unused) → Move c s (setRun false s)
  /-- A reset (R184). -/
  | reset : c.tick = false → Move c s (resetPart s)

/-- Moves one after the other. -/
def Moves (c : Scope) : State → State → Prop := ReflTransGen (Move c)

/-- Effects between which no completion test is owed: a move that makes no completion condition true, moves that are followed by the test
of the span they may serve (R30), or the moves of a START, which find the spans as they stood in STANDBY (R185). -/
inductive Effect (tick : Bool) : State → State → Prop
  | calm {s t : State} : Move (.calm tick) s t → Effect tick s t
  | tested {s u : State} (sp : Span) : Moves (.testing tick sp) s u → Effect tick s (completionTest sp u)
  | started {s t : State} : Moves { Scope.calm tick with standby := s.StandbyUnused } s t → Effect tick s t

/-- Effects one after the other. -/
def Run (tick : Bool) : State → State → Prop := ReflTransGen (Effect tick)

/-! ### Chains -/

theorem Moves.refl {c : Scope} {s : State} : Moves c s s := ReflTransGen.refl

theorem Moves.trans {c : Scope} {s t u : State} (h : Moves c s t) (g : Moves c t u) : Moves c s u := ReflTransGen.trans h g

theorem Move.moves {c : Scope} {s t : State} (h : Move c s t) : Moves c s t := ReflTransGen.single h

theorem Run.refl {tick : Bool} {s : State} : Run tick s s := ReflTransGen.refl

theorem Run.trans {tick : Bool} {s t u : State} (h : Run tick s t) (g : Run tick t u) : Run tick s u := ReflTransGen.trans h g

theorem Effect.run {tick : Bool} {s t : State} (h : Effect tick s t) : Run tick s t := ReflTransGen.single h

/-- Moves that make no completion condition true. -/
theorem Moves.run {tick : Bool} {s t : State} (h : Moves (.calm tick) s t) : Run tick s t :=
  ReflTransGen.mono (fun _ _ => Effect.calm) _ _ h

theorem Shift.mono {c d : Scope} (ht : c.tick = d.tick) (hf : ∀ sp, c.free sp → d.free sp) (hs : d.standby → c.standby)
    {s : State} {sp : Span} {x : SpanState} {n : Nat} {cs : List Event} (h : Shift c s sp x n cs) : Shift d s sp x n cs := by
  cases h with
  | dark h => exact .dark h
  | retry n h hn hl => exact .retry n h hn hl
  | fail n h hn => exact .fail n h hn
  | trip h => exact .trip h
  | lock h => exact .lock h
  | probe hb h hc => exact .probe (ht ▸ hb) h hc
  | confirm hp h => exact .confirm (hf sp hp) h
  | serve h => exact .serve h
  | release hb h => exact .release (ht ▸ hb) h
  | leave n hb hr h hn => exact .leave n (ht ▸ hb) hr (fun g => h (hs g)) hn
  | retire hb => exact .retire (ht ▸ hb)

theorem Scope.Loose.mono {c d : Scope} (hf : ∀ sp, c.free sp → d.free sp) {s : State} {sp : Span} (h : c.Loose s sp) : d.Loose s sp :=
  h.imp_left (hf sp)

theorem Mark.mono {c d : Scope} (hf : ∀ sp, c.free sp → d.free sp) {s : State} {sp : Span} {y : SpanStatus} (h : Mark c s sp y) :
    Mark d s sp y :=
  { h with far := h.far.imp_left (Scope.Loose.mono hf) }

/-- A move stays one where more tests follow and less is known of a START. -/
theorem Move.mono {c d : Scope} (ht : c.tick = d.tick) (hf : ∀ sp, c.free sp → d.free sp) (hs : d.standby → c.standby)
    {s t : State} (h : Move c s t) : Move d s t := by
  have loose {sp : Span} {q : Prop} : c.Loose s sp ∨ q → d.Loose s sp ∨ q := Or.imp_left (Scope.Loose.mono hf)
  cases h with
  | aside time notices raised interlock supplyGood resetLine owed out pending h => exact .aside _ _ _ _ _ _ _ _ _ h
  | ports lines localPort h hl => exact .ports _ _ h hl
  | pumps pumps h hb => exact .pumps _ h fun ch sp => loose (hb ch sp)
  | powers mon input refl ring h hl => exact .powers _ _ _ _ h fun sp => loose (hl sp)
  | config sp k h hk hm => exact .config _ _ h hk (loose hm)
  | tables table tableLen grants part hr hf hl hp => exact .tables _ _ _ _ hr hf hl hp
  | mark sp y h => exact .mark _ _ (h.mono hf)
  | shift sp y h hy hw => exact .shift _ _ (h.mono ht hf hs) hy hw
  | reloop sp m hb h => exact .reloop _ _ (ht ▸ hb) h
  | remode sp m y hb h hc hy hw => exact .remode _ _ _ (ht ▸ hb) h hc hy hw
  | conditions il supply hold h hc => exact .conditions _ _ _ h hc
  | go hb h => exact .go (ht ▸ hb) h
  | stop hb h => exact .stop (ht ▸ hb) h
  | reset hb => exact .reset (ht ▸ hb)

theorem Moves.mono {c d : Scope} (ht : c.tick = d.tick) (hf : ∀ sp, c.free sp → d.free sp) (hs : d.standby → c.standby)
    {s t : State} (h : Moves c s t) : Moves d s t :=
  ReflTransGen.mono (fun _ _ => Move.mono ht hf hs) _ _ h

end Sys2Proof.Machine
end

section
/-! SUPPORT. Pump channels, monitor channels, ports and outputs as moves. -/

namespace Sys2Proof.Machine

variable {c : Scope} {s t : State}

/-! ### What is put aside -/

/-- A state that differs in outputs, events, notices and owed ticks only. -/
theorem Moves.of_aside
    (h : { t with notices := s.notices, raised := s.raised, owed := s.owed, out := s.out, pending := s.pending } = s) :
    Moves c s t := by
  have e : t = { s with notices := t.notices, raised := t.raised, owed := t.owed, out := t.out, pending := t.pending } := by
    conv_rhs => rw [← h]
  rw [e]
  exact (Move.aside s.time _ _ s.pins.interlock s.pins.supplyGood s.pins.resetLine _ _ _ id).moves

theorem raise_moves (s : State) (src : Block) (e : Event) (span : EvSpan) (subject : Subject) :
    Moves c s (s.raise src e span subject) := .of_aside rfl

theorem emit_moves (s : State) (o : Output) : Moves c s (s.emit o) := .of_aside rfl

theorem dropJob_moves (s : State) (j : TickJob) : Moves c s (s.dropJob j) := .of_aside rfl

theorem fresh_moves (s : State) : Moves c s s.fresh := .of_aside rfl

theorem pending_moves (s : State) (q : List Instr) : Moves c s { s with pending := q } := .of_aside rfl

theorem engineRaise_moves (sp : Span) (e : Event) (subject : Subject) (s : State) : Moves c s (engineRaise sp e subject s) :=
  raise_moves ..

theorem sendRecord_moves (ch : Chan) (s : State) : Moves c s (sendRecord ch s) := by
  rw [sendRecord_spec]; exact .of_aside rfl

theorem forChans_moves {f : Chan → State → State} (hf : ∀ ch s, Moves c s (f ch s)) (s : State) : Moves c s (forChans f s) :=
  forChans_inv (Q := Moves c) (fun _ => .refl) .trans hf s

/-! ### A pump channel by itself -/

/-- A command or step keeps a channel's table entry, and min-dark remaining is at most restarted. -/
structure Pump.KeepsEntry (p q : Pump) : Prop where
  role : q.role = p.role
  span : q.span = p.span
  dir : q.dir = p.dir
  service : q.service = p.service
  up : q.up = p.up
  down : q.down = p.down
  minDark : q.minDark = p.minDark
  darkLeft : q.darkLeft ≤ max p.darkLeft p.minDark

theorem Pump.KeepsEntry.rates {p q : Pump} (h : p.KeepsEntry q) (hp : p.RatesInRange) : q.RatesInRange := by
  obtain ⟨h1, h2, h3, h4, h5, h6⟩ := hp
  have := h.darkLeft
  exact ⟨h.up ▸ h1, h.up ▸ h2, h.down ▸ h3, h.down ▸ h4, h.minDark ▸ h5, by omega⟩

theorem Pump.KeepsEntry.of_eq {p q : Pump} (h : p.KeepsEntry q) (sp : Span) : q.of sp = p.of sp := by
  simp only [Pump.of, h.role, h.span]

theorem Pump.KeepsEntry.lights_eq {p q : Pump} (h : p.KeepsEntry q) : q.lights = p.lights := by
  simp only [Pump.lights, h.role, h.span, h.dir]

/-- A channel that does not become LIT keeps holding its span from SERVICE. -/
theorem Pump.KeepsEntry.blocks {p q : Pump} (h : p.KeepsEntry q) (hl : q.state = .lit → p.state = .lit) (sp : Span)
    (hp : p.blocks sp = true) : q.blocks sp = true := by
  rw [Pump.blocks_iff] at hp ⊢
  obtain ⟨h1, h2, h3⟩ := hp
  exact ⟨h.of_eq sp ▸ h1, h.service ▸ h2, fun g => h3 (hl g)⟩

theorem Pump.KeepsEntry.refl (p : Pump) : p.KeepsEntry p := ⟨rfl, rfl, rfl, rfl, rfl, rfl, rfl, le_max_left ..⟩

theorem goHold_keeps (p : Pump) : p.KeepsEntry p.goHold := ⟨rfl, rfl, rfl, rfl, rfl, rfl, rfl, le_max_right ..⟩

theorem goFaulted_keeps (p : Pump) : p.KeepsEntry p.goFaulted := ⟨rfl, rfl, rfl, rfl, rfl, rfl, rfl, le_max_left ..⟩

theorem retarget_keeps (p : Pump) (x : Nat) : p.KeepsEntry (p.retarget x) := by
  obtain ⟨-, e⟩ | ⟨-, e⟩ | ⟨-, -, e⟩ | ⟨-, -, e⟩ := retarget_cases p x <;> rw [e]
  case inr.inr.inl => exact goHold_keeps p
  all_goals exact ⟨rfl, rfl, rfl, rfl, rfl, rfl, rfl, le_max_left ..⟩

theorem takeRise_keeps (p : Pump) (x : Nat) : p.KeepsEntry (p.takeRise x) := by
  cases h : p.state <;> simp only [Pump.takeRise, h]
  case dark => split <;> exact ⟨rfl, rfl, rfl, rfl, rfl, rfl, rfl, le_max_left ..⟩
  case darkHold => exact ⟨rfl, rfl, rfl, rfl, rfl, rfl, rfl, le_max_left ..⟩
  case faulted => exact .refl p
  all_goals exact retarget_keeps p _

theorem takePulse_keeps (p : Pump) (x n : Nat) : p.KeepsEntry (p.takePulse x n) := by
  unfold Pump.takePulse
  split <;> exact ⟨rfl, rfl, rfl, rfl, rfl, rfl, rfl, le_max_left ..⟩

theorem takeDouse_keeps (p : Pump) : p.KeepsEntry p.takeDouse := by
  unfold Pump.takeDouse
  split
  case h_3 | h_4 | h_5 =>
    split
    · exact goHold_keeps p
    · exact ⟨rfl, rfl, rfl, rfl, rfl, rfl, rfl, le_max_left ..⟩
  all_goals exact ⟨rfl, rfl, rfl, rfl, rfl, rfl, rfl, le_max_left ..⟩

theorem takeSnuff_keeps (p : Pump) : p.KeepsEntry p.takeSnuff := by
  obtain ⟨-, e⟩ | ⟨-, -, e⟩ := takeSnuff_cases p <;> rw [e]
  · exact .refl p
  · exact goHold_keeps p

theorem takeStep_keeps (p : Pump) (o : Bool) : p.KeepsEntry (p.takeStep o) := by
  cases h : p.state <;> simp only [Pump.takeStep, h]
  case dark | lit | faulted => exact .refl p
  case rising => split <;> exact ⟨rfl, rfl, rfl, rfl, rfl, rfl, rfl, le_max_left ..⟩
  case falling =>
    split
    · split
      · exact goHold_keeps p
      · exact ⟨rfl, rfl, rfl, rfl, rfl, rfl, rfl, le_max_left ..⟩
    · exact ⟨rfl, rfl, rfl, rfl, rfl, rfl, rfl, le_max_left ..⟩
  case pulsing =>
    split
    · exact goHold_keeps p
    · exact ⟨rfl, rfl, rfl, rfl, rfl, rfl, rfl, le_max_left ..⟩
  case darkHold =>
    split
    · split
      · exact ⟨rfl, rfl, rfl, rfl, rfl, rfl, rfl, Nat.zero_le _⟩
      · split <;> exact ⟨rfl, rfl, rfl, rfl, rfl, rfl, rfl, Nat.zero_le _⟩
    · exact ⟨rfl, rfl, rfl, rfl, rfl, rfl, rfl, le_max_of_le_left (Nat.sub_le ..)⟩

theorem takeSnuff_not_lit (p : Pump) : p.takeSnuff.state ≠ .lit := by
  have h := takeSnuff_isDark p
  intro g; rw [g] at h; cases h

theorem takeDouse_not_lit (p : Pump) : p.takeDouse.state ≠ .lit := by
  cases h : p.state <;> simp only [Pump.takeDouse, h]
  case rising | lit | falling => split <;> simp [Pump.goHold]
  all_goals simp

theorem takePulse_lit {p : Pump} {x n : Nat} (h : (p.takePulse x n).state = .lit) : p.state = .lit := by
  unfold Pump.takePulse at h
  split at h
  · cases h
  · exact h

theorem of_lights {p : Pump} {sp : Span} (h : p.of sp = true) : p.lights = some sp := by
  simp only [Pump.of, Bool.and_eq_true, Bool.or_eq_true, decide_eq_true_eq] at h
  obtain ⟨hr | hr, rfl⟩ := h <;> simp [Pump.lights, hr]

/-! ### Pump channels of the part -/

/-- A channel's new record that keeps the ranges and, where no test follows, holds its span from SERVICE as before. -/
theorem setPump_moves {ch : Chan} {q : Pump} (hr : (s.pump ch).RatesInRange → q.RatesInRange)
    (hb : ∀ sp, c.Loose s sp ∨ ((s.pump ch).blocks sp = true → q.blocks sp = true)) : Moves c s (s.setPump ch q) := by
  refine (Move.pumps (s.pumps.set ch q) (fun x h => ?_) fun x sp => ?_).moves
  all_goals
    have e : (s.pumps.set ch q)[x] = if x = ch then q else s.pump x := State.setPump_pump s ch x q
    rw [e]; split
  · subst x; exact hr h
  · exact h
  · subst x; exact hb sp
  · exact .inr id

theorem putPump_moves {ch : Chan} {q : Pump} (hr : (s.pump ch).RatesInRange → q.RatesInRange)
    (hb : ∀ sp, c.Loose s sp ∨ ((s.pump ch).blocks sp = true → q.blocks sp = true)) : Moves c s (s.putPump ch q) := by
  obtain e | e := putPump_spec s ch q <;> rw [e]
  · exact setPump_moves hr hb
  · exact (setPump_moves hr hb).trans (dropJob_moves ..)

/-- A change of what the Pump Link remembers of a channel. -/
theorem setPump_link_moves (s : State) (ch : Chan) (sent answered : Bool) (noReply : Nat) :
    Moves c s (s.setPump ch { s.pump ch with sent := sent, answered := answered, noReply := noReply }) :=
  setPump_moves id fun _ => .inr id

theorem snuffChannel_moves (ch : Chan) (s : State) : Moves c s (snuffChannel ch s) := by
  obtain ⟨o, -, e⟩ := snuffChannel_spec ch s
  rw [e]
  refine (setPump_moves (q := (s.pump ch).takeSnuff) (takeSnuff_keeps _).rates fun sp => .inr ?_).trans (.of_aside rfl)
  exact (takeSnuff_keeps _).blocks (fun h => absurd h (takeSnuff_not_lit _)) sp

theorem faultChannel_moves (e : Event) (ch : Chan) (s : State) : Moves c s (faultChannel e ch s) := by
  have h : (s.pump ch).goFaulted.state ≠ .lit := by simp [Pump.goFaulted]
  have put : Moves c s (s.putPump ch (s.pump ch).goFaulted) :=
    putPump_moves (goFaulted_keeps _).rates fun sp => .inr ((goFaulted_keeps (s.pump ch)).blocks (fun g => absurd g h) sp)
  refine put.trans (.trans (sendRecord_moves ch _) ?_)
  exact raise_moves _ _ _ _ _

theorem checkTick_moves (ch : Chan) (s : State) : Moves c s (checkTick ch s) := by
  obtain ⟨-, e⟩ | ⟨-, e⟩ := checkTick_cases ch s <;> rw [e]
  · exact (setPump_link_moves ..).trans (faultChannel_moves ..)
  · exact setPump_link_moves ..

theorem takeCheck_moves (ch : Chan) (s : State) : Moves c s (takeCheck ch s) := by
  obtain ⟨-, e⟩ | ⟨-, e⟩ := takeCheck_cases ch s <;> rw [e]
  · exact (dropJob_moves ..).trans (checkTick_moves ..)
  · exact .refl

theorem linkTick_moves (ch : Chan) (s : State) : Moves c s (linkTick ch s) := by
  rw [linkTick_spec]
  refine (forChans_moves takeCheck_moves s).trans ?_
  generalize forChans takeCheck s = u
  have mark : Moves c u (u.setPump ch { u.pump ch with sent := decide ((u.pump ch).role ≠ .unused) }) :=
    setPump_moves id fun _ => .inr id
  exact mark.trans (.of_aside rfl)

theorem takeLink_moves (ch : Chan) (s : State) : Moves c s (takeLink ch s) := by
  obtain ⟨-, e⟩ | ⟨-, e⟩ := takeLink_cases ch s <;> rw [e]
  · exact (dropJob_moves ..).trans (linkTick_moves ..)
  · exact .refl

/-- RISE taken by a channel whose spans' tests follow. -/
theorem riseChannel_moves {ch : Chan} (x : Nat) (h : ∀ sp, (s.pump ch).of sp = true → c.Loose s sp) :
    Moves c s (riseChannel ch x s) := by
  obtain ⟨-, e⟩ | ⟨-, e⟩ := riseChannel_cases ch x s <;> rw [e]
  · refine putPump_moves (takeRise_keeps _ _).rates fun sp => ?_
    cases g : (s.pump ch).of sp
    · exact .inr fun hb => by simp [Pump.blocks, g] at hb
    · exact .inl (h sp g)
  · exact .refl

theorem riseStage_moves (d : Dir) (s : State) : Moves c s (riseStage d s) := by
  refine forChans_moves (fun ch s => ?_) s
  split
  next h => exact riseChannel_moves _ fun sp g => by simp [Pump.of, h.1] at g
  next => exact .refl

theorem pulseChannel_moves (ch : Chan) (level length : Nat) (s : State) : Moves c s (pulseChannel ch level length s) := by
  unfold pulseChannel
  dsimp only
  split
  · refine (takeLink_moves ch s).trans (putPump_moves (takePulse_keeps ..).rates fun sp => .inr ?_)
    exact (takePulse_keeps ..).blocks takePulse_lit sp
  · exact .refl

theorem douseChannel_moves (ch : Chan) (s : State) : Moves c s (douseChannel ch s) :=
  putPump_moves (takeDouse_keeps _).rates fun sp =>
    .inr ((takeDouse_keeps _).blocks (fun h => absurd h (takeDouse_not_lit _)) sp)

theorem douseStage_moves (d : Dir) (s : State) : Moves c s (douseStage d s) := by
  refine forChans_moves (fun ch s => ?_) s
  split
  · exact douseChannel_moves ch s
  · exact .refl

theorem snuffAll_moves (s : State) : Moves c s (snuffAll s) := forChans_moves snuffChannel_moves s

theorem snuffSpan_moves (sp : Span) (s : State) : Moves c s (snuffSpan sp s) := by
  refine forChans_moves (fun ch s => ?_) s
  split
  · exact snuffChannel_moves ch s
  · exact .refl

theorem snuffPulsing_moves (sp : Span) (s : State) : Moves c s (snuffPulsing sp s) := by
  refine forChans_moves (fun ch s => ?_) s
  split
  · exact snuffChannel_moves ch s
  · exact .refl

theorem pulseSpan_moves (sp : Span) (s : State) : Moves c s (pulseSpan sp s) := by
  refine forChans_moves (fun ch s => ?_) s
  split
  · exact pulseChannel_moves ..
  · exact .refl

/-- RISE to the pumps of a span whose test follows (R29). -/
theorem riseSpan_moves {sp : Span} (hf : c.free sp) (s : State) : Moves c s (riseSpan sp s) := by
  refine forChans_moves (fun ch s => ?_) s
  dsimp only
  split
  next h =>
    refine riseChannel_moves _ fun x g => .inl ?_
    obtain h | ⟨h, -⟩ := h
    · have : sp = x := by simpa using (of_lights h).symm.trans (of_lights g)
      exact this ▸ hf
    · simp [Pump.of, h] at g
  next => exact .refl

/-! ### Monitor channels and rings -/

theorem setChan_moves {ch : Chan} {k : MonChan} (h : (s.chan ch).InRange → k.InRange) : Moves c s (s.setChan ch k) := by
  refine (Move.powers (s.mon.set ch k) s.input s.refl s.ring (fun ⟨hm, hs⟩ => ⟨fun x => ?_, hs⟩) fun _ => .inr rfl).moves
  have e : (s.setChan ch k).chan x = if x = ch then k else s.chan x := State.setChan_chan ..
  change ((s.setChan ch k).chan x).InRange
  rw [e]; split
  · exact h (hm ch)
  · exact hm x

theorem setInp_moves {sp : Span} {k : InputChan} (h : (s.inp sp).InRange → k.InRange)
    (hl : c.Loose s sp ∨ k.light = (s.inp sp).light) : Moves c s (s.setInp sp k) := by
  refine (Move.powers s.mon (s.input.set sp k) s.refl s.ring (fun ⟨hm, hs⟩ => ⟨hm, fun x => ?_⟩) fun x => ?_).moves
  · obtain ⟨hi, hr⟩ := hs x
    refine ⟨?_, hr⟩
    change ((s.input.set sp k).get x).InRange
    rw [PerSpan.get_set]; split
    · exact h (hs sp).1
    · exact hi
  · rw [PerSpan.get_set]; split
    · subst x; exact hl
    · exact .inr rfl

theorem setReflection_moves {sp : Span} {k : ReflChan} (h : (s.reflection sp).InRange → k.InRange) :
    Moves c s (s.setReflection sp k) := by
  refine (Move.powers s.mon s.input (s.refl.set sp k) s.ring (fun ⟨hm, hs⟩ => ⟨hm, fun x => ?_⟩) fun _ => .inr rfl).moves
  obtain ⟨hi, hr, hl⟩ := hs x
  refine ⟨hi, ?_, hl⟩
  change ((s.refl.set sp k).get x).InRange
  rw [PerSpan.get_set]; split
  · exact h (hs sp).2.1
  · exact hr

theorem setSlots_moves {sp : Span} {r : List Nat} (h : s.PowersInRange → r.length = Config.ringSlots ∧ ∀ x ∈ r, x ≤ 33553408) :
    Moves c s (s.setSlots sp r) := by
  refine (Move.powers s.mon s.input s.refl (s.ring.set sp r) (fun hp => ⟨hp.1, fun x => ?_⟩) fun _ => .inr rfl).moves
  obtain ⟨hi, hr, hl⟩ := hp.2 x
  refine ⟨hi, hr, ?_⟩
  change ((s.ring.set sp r).get x).length = Config.ringSlots ∧ ∀ y ∈ (s.ring.set sp r).get x, y ≤ 33553408
  rw [PerSpan.get_set]; split
  · exact h hp
  · exact hl

/-! ### Ports -/

/-- A line port's counts stay within their ranges. -/
def LinePort.CountsKept (l k : LinePort) : Prop :=
  (l.base.accepted ≤ 65535 → k.base.accepted ≤ 65535) ∧ (l.base.discarded ≤ 65535 → k.base.discarded ≤ 65535)
    ∧ (l.silence ≤ 15 → k.silence ≤ 15)

/-- What a line port holds but its loop mode, with its counts in their ranges. -/
theorem setLine_portCounts {sp : Span} {l : LinePort} (hc : (s.line sp).CountsKept l) (h : s.PortCounts) :
    (s.setLine sp l).PortCounts := by
  obtain ⟨hb, hs⟩ := h
  have hp : (s.base sp.port) = (s.line sp).base := by cases sp <;> rfl
  obtain ⟨ha, hd⟩ := hb sp.port
  rw [hp] at ha hd
  refine ⟨fun p => ?_, fun x => ?_⟩
  · rw [State.setLine_base]; split
    · exact ⟨hc.1 ha, hc.2.1 hd⟩
    · exact hb p
  · rw [State.setLine_line]; split
    · exact hc.2.2 (hs sp)
    · exact hs x

theorem setLine_moves {sp : Span} {l : LinePort} (hc : (s.line sp).CountsKept l) (hl : l.loop = (s.line sp).loop) :
    Moves c s (s.setLine sp l) := by
  refine (Move.ports (s.lines.set sp l) s.localPort (setLine_portCounts hc) fun x => ?_).moves
  rw [PerSpan.get_set]; split
  · subst x; exact hl
  · rfl

/-- What a port holds changes, its counts staying in their ranges. -/
theorem setBase_moves {p : Port} {b : PortBase} (ha : (s.base p).accepted ≤ 65535 → b.accepted ≤ 65535)
    (hd : (s.base p).discarded ≤ 65535 → b.discarded ≤ 65535) : Moves c s (s.setBase p b) := by
  cases p
  case west => exact setLine_moves (sp := .ws) (l := { s.line .ws with base := b }) ⟨ha, hd, id⟩ rfl
  case east => exact setLine_moves (sp := .es) (l := { s.line .es with base := b }) ⟨ha, hd, id⟩ rfl
  case loc =>
    refine (Move.ports s.lines b (fun ⟨hb, hs⟩ => ⟨fun p => ?_, hs⟩) fun _ => rfl).moves
    cases p
    · exact hb .west
    · exact hb .east
    · exact ⟨ha (hb .loc).1, hd (hb .loc).2⟩

theorem toLocalQueue_moves (s : State) (p : Port) (m : Msg) : Moves c s (s.toLocalQueue p m) := setBase_moves id id

theorem toForwardQueue_moves (s : State) (sp : Span) (m : Msg) : Moves c s (s.toForwardQueue sp m) :=
  setLine_moves ⟨id, id, id⟩ rfl

theorem setRx_moves (p : Port) (rx : Receiver) (s : State) : Moves c s (setRx p rx s) := setBase_moves id id

theorem satSucc_le (top n : Nat) : satSucc top n ≤ top := min_le_left ..

theorem countDiscard_moves (p : Port) (s : State) : Moves c s (countDiscard p s) := setBase_moves id fun _ => satSucc_le ..

theorem countKept_moves (p : Port) (s : State) : Moves c s (countKept p s) := setBase_moves (fun _ => satSucc_le ..) id

theorem clearMismatch_moves (sp : Span) (s : State) : Moves c s (clearMismatch sp s) := setLine_moves ⟨id, id, id⟩ rfl

/-! ### Notices -/

theorem departNotices_moves (s : State) : Moves c s (departNotices s) := by
  obtain ⟨k, -, e⟩ := departures_spec Config.queueRoom s
  rw [departNotices, e]
  exact (Moves.of_aside (t := { s with notices := s.notices.drop k }) rfl).trans
    (setBase_moves (by cases s.part.noticePort <;> exact id) (by cases s.part.noticePort <;> exact id))

theorem offerNotice_moves (n : Notice) (s : State) : Moves c s (offerNotice n s) := by
  unfold offerNotice
  split
  · exact (Moves.of_aside (t := { s with notices := s.notices ++ [n] }) rfl).trans (departNotices_moves _)
  · exact .of_aside rfl

theorem offerAll_moves (ns : List Notice) (s : State) : Moves c s (offerAll ns s) := by
  induction ns generalizing s with
  | nil => exact .refl
  | cons n ns ih => exact (offerNotice_moves n s).trans (ih _)

theorem sendReply_moves (kind : BitVec 5) (r : Req) (a : Answer) : Moves c a.s (sendReply kind r a) := by
  obtain ⟨-, e⟩ | ⟨-, e⟩ := sendReply_cases kind r a <;> rw [e]
  · exact toLocalQueue_moves ..
  · exact (toLocalQueue_moves ..).trans (departNotices_moves _)

theorem pairLockouts_moves (n : Nat) (s : State) : Moves c s (pairLockouts n s) := by
  rw [pairLockouts_spec]; exact .of_aside rfl

end Sys2Proof.Machine
end

section
/-! SUPPORT. The Span Engine's functions in closed form, and as moves. -/

namespace Sys2Proof.Machine

variable {c : Scope} {s t : State} {sp : Span}

/-! ### A record that enters a state -/

/-- A span's record on entry to a state (R5, R6, R20, R21). -/
def SpanStatus.enter (r : SpanStatus) (x : SpanState) (owes : Bool) : SpanStatus :=
  { r with
    state := x, ticks := 0, callPending := false, offTicks := 0, offExpired := false, probeLength := none
    startsNext := x.timed && owes }

theorem enter_fits (r : SpanStatus) {x : SpanState} (b : Bool) (h : x ≠ .probe) : (r.enter x b).Fits := by
  simp [SpanStatus.Fits, SpanStatus.enter, h]

theorem setSpanState_eq (sp : Span) (x : SpanState) (s : State) :
    setSpanState sp x s = shift sp ((s.st sp).enter x (s.owes (.slot sp))) s := rfl

@[simp] theorem shift_st_self (sp : Span) (y : SpanStatus) (s : State) : (shift sp y s).st sp = y := PerSpan.get_set_self ..

@[simp] theorem shift_st_other (sp : Span) (y : SpanStatus) (s : State) : (shift sp y s).st sp.other = s.st sp.other :=
  PerSpan.get_set_other ..

theorem shift_st (sp sp' : Span) (y : SpanStatus) (s : State) : (shift sp y s).st sp' = if sp' = sp then y else s.st sp' :=
  PerSpan.get_set ..

@[simp] theorem shift_setSt (sp : Span) (y z : SpanStatus) (s : State) : shift sp y (s.setSt sp z) = shift sp y s := by
  simp [shift]

/-- A record changed after the entry, its state standing, might as well enter changed. -/
theorem setSt_shift {y z : SpanStatus} (h : z.state = y.state) : (shift sp y s).setSt sp z = shift sp z s := by
  cases sp <;> simp [shift, driveLines, State.setSt, State.enableOf, State.st, PerSpan.set, PerSpan.get, h]

theorem shift_raise (sp : Span) (y : SpanStatus) (s : State) (src : Block) (e : Event) (span : EvSpan) (subject : Subject) :
    shift sp y (s.raise src e span subject) = (shift sp y s).raise src e span subject := rfl

/-- Everything but the record and the enable lines is kept. -/
theorem shift_frame (sp : Span) (y : SpanStatus) (s : State) :
    { shift sp y s with status := s.status, pins := s.pins } = s := rfl

theorem enterWait_eq (sp : Span) (expired : Bool) (s : State) :
    enterWait sp expired s = shift sp { (s.st sp).enter .wait false with offExpired := expired } s := by
  simp only [enterWait, setSpanState_eq, shift_st_self]
  exact setSt_shift rfl

theorem enterMaint_eq (sp : Span) (s : State) :
    enterMaint sp s = shift sp { (s.st sp).enter .maint false with failures := 0 } s := by
  simp only [enterMaint, setSpanState_eq, shift_st_self]
  exact setSt_shift rfl

theorem enterShut_eq (sp : Span) (s : State) :
    enterShut sp s
      = shift sp { ((snuffSpan sp s).st sp).enter .shut ((snuffSpan sp s).owes (.slot sp)) with darkFailRaised := false }
          (snuffSpan sp s) := by
  simp only [enterShut, setSpanState_eq, shift_st_self]
  exact setSt_shift rfl

theorem enterLocked_eq (sp : Span) (s : State) :
    enterLocked sp s = engineRaise sp .lockout .none_ (shift sp ((s.st sp).enter .locked false) s) := rfl

theorem enterService_eq (sp : Span) (s : State) :
    enterService sp s
      = breakTest sp (engineRaise sp .serviceRestored .none_
          (shift sp { (s.st sp).enter .service false with causes := standingOnly (s.st sp).causes, failures := 0 } s)) := by
  simp only [enterService, setSpanState_eq, shift_st_self]
  rw [setSt_shift (by rfl)]; rfl

/-- A span's record in CONFIRM as its probe is proved (R29). -/
def SpanStatus.proved (r : SpanStatus) (owes : Bool) : SpanStatus := { r.enter .confirm owes with confirmRaised := false }

theorem enterConfirm_eq (sp : Span) (s : State) :
    enterConfirm sp s
      = completionTest sp (breakTest sp (riseSpan sp (shift sp ((s.st sp).proved (s.owes (.slot sp))) s))) := by
  simp only [enterConfirm, setSpanState_eq, shift_st_self]
  rw [setSt_shift (by rfl)]; rfl

/-- A span's record as its probe starts (R42). -/
def SpanStatus.probing (r : SpanStatus) (length : Nat) (owes : Bool) : SpanStatus :=
  { r.enter .probe owes with
    tag := r.tag + 1, probeLength := some length, overshootRaised := false, exposureRaised := false }

theorem startProbe_eq (sp : Span) (s : State) :
    startProbe sp s
      = pulseSpan sp (shift sp ((s.st sp).probing ((s.config sp).duration + (s.config sp).grace) (s.owes (.slot sp))) s) := by
  simp only [startProbe, setSpanState_eq, shift_st_self]
  rw [setSt_shift (by rfl)]; rfl

/-- A span's record on entry to UNUSED (R9). -/
def SpanStatus.emptied (r : SpanStatus) : SpanStatus :=
  { r.enter .unused false with
    causes := [], failures := 0, overshootRaised := false, exposureRaised := false, darkFailRaised := false
    confirmRaised := false, entryInterlock := false, entrySupply := false }

theorem emptySpan_eq (sp : Span) (s : State) : emptySpan sp s = (shift sp (s.st sp).emptied s).setHeld sp false := by
  simp only [emptySpan, setSpanState_eq, shift_st_self]
  rw [setSt_shift (by rfl)]; rfl

/-! ### Work on the pump channels under a span's record -/

theorem forChans_comm {f : Chan → State → State} {g : State → State} (h : ∀ ch s, f ch (g s) = g (f ch s)) (s : State) :
    forChans f (g s) = g (forChans f s) := by
  have go : ∀ (l : List Chan) (s : State), l.foldl (fun s ch => f ch s) (g s) = g (l.foldl (fun s ch => f ch s) s) := by
    intro l
    induction l with
    | nil => intro s; rfl
    | cons a l ih => intro s; simp only [List.foldl_cons, h, ih]
  exact go _ s

theorem snuffChannel_setSt (ch : Chan) (sp : Span) (y : SpanStatus) (s : State) :
    snuffChannel ch (s.setSt sp y) = (snuffChannel ch s).setSt sp y := by
  simp only [snuffChannel, sendRecord]
  split_ifs <;> simp_all <;> rfl

theorem snuffSpan_setSt (sp x : Span) (y : SpanStatus) (s : State) :
    snuffSpan sp (s.setSt x y) = (snuffSpan sp s).setSt x y :=
  forChans_comm (g := (·.setSt x y)) (fun ch s => by simp only [State.setSt_pump, snuffChannel_setSt]; split <;> rfl) s

/-- What work on the pump channels leaves as it was: all but the channels, the owed ticks and the outputs. -/
def PumpFrame (s t : State) : Prop := { t with pumps := s.pumps, owed := s.owed, out := s.out } = s

theorem PumpFrame.eq (h : PumpFrame s t) : t = { s with pumps := t.pumps, owed := t.owed, out := t.out } := by
  conv_rhs => rw [← show _ = s from h]

theorem PumpFrame.st (h : PumpFrame s t) (x : Span) : t.st x = s.st x := by rw [← show _ = s from h]; rfl

theorem PumpFrame.config (h : PumpFrame s t) (x : Span) : t.config x = s.config x := by rw [← show _ = s from h]; rfl

theorem PumpFrame.line (h : PumpFrame s t) (x : Span) : t.line x = s.line x := by rw [← show _ = s from h]; rfl

theorem PumpFrame.inp (h : PumpFrame s t) (x : Span) : t.inp x = s.inp x := by rw [← show _ = s from h]; rfl

theorem PumpFrame.part (h : PumpFrame s t) : t.part = s.part := by rw [← show _ = s from h]

theorem PumpFrame.stands (h : PumpFrame s t) (x : Span) (e : Event) : t.stands x e = s.stands x e := by
  rw [← show _ = s from h]; cases e <;> rfl

@[simp] theorem snuffSpan_st (sp x : Span) (s : State) : (snuffSpan sp s).st x = s.st x := PumpFrame.st (snuffSpan_frame sp s) x

@[simp] theorem snuffSpan_stands (sp x : Span) (e : Event) (s : State) : (snuffSpan sp s).stands x e = s.stands x e :=
  PumpFrame.stands (snuffSpan_frame sp s) x e

/-! ### Actions in closed form -/

theorem clearEntry_eq (x : SpanStatus) (e : Event) :
    x.clearEntry e
      = { x with
          entryInterlock := x.entryInterlock && decide (e ≠ .interlock)
          entrySupply := x.entrySupply && decide (e ≠ .supplyLow) } := by
  cases e <;> simp [SpanStatus.clearEntry]

/-- A span's record with the cause of an action in its set, or out of it where its condition does not stand (R10, R129, R156). -/
def SpanStatus.blamed (x : SpanStatus) (e : Event) (stands : Bool) : SpanStatus :=
  { x with
    causes := if stands then addCause e x.causes else removeCause e (addCause e x.causes)
    entryInterlock := x.entryInterlock && decide (e ≠ .interlock)
    entrySupply := x.entrySupply && decide (e ≠ .supplyLow) }

theorem mem_blamed {x : SpanStatus} {e e' : Event} {b : Bool} :
    e' ∈ (x.blamed e b).causes ↔ if e' = e then b = true else e' ∈ x.causes := by
  cases b <;> by_cases h : e' = e <;> simp [SpanStatus.blamed, h]

theorem blamed_nodup (x : SpanStatus) (e : Event) (b : Bool) : (x.blamed e b).causes.Nodup := by
  cases b
  · exact removeCause_nodup e (addCause_nodup e _)
  · exact addCause_nodup e _

theorem addToCauses_eq (sp : Span) (e : Event) (s : State) : addToCauses sp e s = s.setSt sp ((s.st sp).blamed e true) := by
  simp only [addToCauses, clearEntry_eq]; rfl

/-- A span's record at the end of a standing condition (R11). -/
def SpanStatus.ended (x : SpanStatus) (e : Event) : SpanStatus :=
  { x with
    causes := removeCause e x.causes
    entryInterlock := x.entryInterlock && decide (e ≠ .interlock)
    entrySupply := x.entrySupply && decide (e ≠ .supplyLow) }

theorem endStanding_eq (sp : Span) (e : Event) (s : State) : endStanding sp e s = s.setSt sp ((s.st sp).ended e) := by
  simp only [endStanding, clearEntry_eq]; rfl

theorem ended_blamed (x : SpanStatus) (e : Event) : (x.blamed e true).ended e = x.blamed e false := by
  simp [SpanStatus.ended, SpanStatus.blamed]

/-- A SHUT_SPAN action trips a span in PROBE, CONFIRM or SERVICE, but LIGHT_LOST leaves PROBE running (R14, R15). -/
def trips (x : SpanState) (e : Event) : Bool := x.lit && !(decide (x = .probe) && decide (e = .lightLost))

theorem trips_iff (x : SpanState) (e : Event) : trips x e = true ↔ x.lit = true ∧ ¬ (x = .probe ∧ e = .lightLost) := by
  simp [trips, Classical.or_iff_not_imp_left]

/-- The pumps of a lit span are snuffed, as its line goes off. -/
def snuffLit (sp : Span) (s : State) : State := if (s.st sp).state.lit then snuffSpan sp s else s

theorem snuffLit_frame (sp : Span) (s : State) : PumpFrame s (snuffLit sp s) := by
  unfold snuffLit
  split
  · exact snuffSpan_frame sp s
  · exact rfl

@[simp] theorem snuffLit_st (sp x : Span) (s : State) : (snuffLit sp s).st x = s.st x := (snuffLit_frame sp s).st x

theorem snuffLit_setSt {y : SpanStatus} (h : y.state = (s.st sp).state) :
    snuffLit sp (s.setSt sp y) = (snuffLit sp s).setSt sp y := by
  simp only [snuffLit, State.setSt_st_self, h]
  split
  · exact snuffSpan_setSt ..
  · rfl

@[simp] theorem State.setSt_owes (s : State) (sp : Span) (y : SpanStatus) (j : TickJob) : (s.setSt sp y).owes j = s.owes j := rfl

theorem shutSpan_eq (sp : Span) (e : Event) (s : State) :
    shutSpan sp e s = if trips (s.st sp).state e then enterShut sp s else s := by
  simp only [shutSpan, trips_iff]

theorem lockSpan_eq (sp : Span) (s : State) :
    lockSpan sp s = if (s.st sp).state = .locked then s else enterLocked sp (snuffLit sp s) := rfl

theorem endStanding_shift (sp : Span) (e : Event) (y : SpanStatus) (s : State) :
    endStanding sp e (shift sp y s) = shift sp (y.ended e) s := by
  rw [endStanding_eq, shift_st_self, setSt_shift (by rfl)]

theorem endStanding_setSt (sp : Span) (e : Event) (y : SpanStatus) (s : State) :
    endStanding sp e (s.setSt sp y) = s.setSt sp (y.ended e) := by
  rw [endStanding_eq, State.setSt_st_self, State.setSt_setSt]

theorem endStanding_engineRaise (sp x : Span) (e e' : Event) (subject : Subject) (s : State) :
    endStanding sp e (engineRaise x e' subject s) = engineRaise x e' subject (endStanding sp e s) := rfl

/-- A trip of a span whose cause is added already. -/
theorem shutSpan_addToCauses (sp : Span) (e : Event) (s : State) :
    shutSpan sp e (addToCauses sp e s) =
      if trips (s.st sp).state e then
        shift sp { ((s.st sp).blamed e true).enter .shut ((snuffSpan sp s).owes (.slot sp)) with darkFailRaised := false }
          (snuffSpan sp s)
      else s.setSt sp ((s.st sp).blamed e true) := by
  have h : ((s.st sp).blamed e true).state = (s.st sp).state := rfl
  simp only [addToCauses_eq, shutSpan_eq, State.setSt_st_self, enterShut_eq, snuffSpan_setSt, shift_setSt, h, State.setSt_owes]

/-- A lock of a span whose cause is added already. -/
theorem lockSpan_addToCauses (sp : Span) (e : Event) (s : State) :
    lockSpan sp (addToCauses sp e s) =
      if (s.st sp).state = .locked then s.setSt sp ((s.st sp).blamed e true)
      else engineRaise sp .lockout .none_ (shift sp (((s.st sp).blamed e true).enter .locked false) (snuffLit sp s)) := by
  have h : ((s.st sp).blamed e true).state = (s.st sp).state := rfl
  rw [addToCauses_eq, lockSpan_eq, snuffLit_setSt h, enterLocked_eq, shift_setSt, State.setSt_st_self, State.setSt_st_self, h]

/-- What an action makes of a span: a record that only takes the cause, a trip to SHUT, or entry to LOCKED (R14 to R17). -/
theorem actOn_eq {act : Action} {e : Event} (hu : (s.st sp).state ≠ .unused) (ha : act ≠ .note) :
    actOn sp act e s =
      let y := (s.st sp).blamed e (s.stands sp e)
      if act = .shutSpan then
        (if trips (s.st sp).state e then
          shift sp { y.enter .shut ((snuffSpan sp s).owes (.slot sp)) with darkFailRaised := false } (snuffSpan sp s)
        else s.setSt sp y)
      else if (s.st sp).state = .locked then s.setSt sp y
      else engineRaise sp .lockout .none_ (shift sp (y.enter .locked false) (snuffLit sp s)) := by
  unfold actOn
  rw [if_neg (by simp [hu, ha])]
  simp only [shutSpan_addToCauses, lockSpan_addToCauses]
  generalize snuffSpan sp s = u, snuffLit sp s = v
  cases s.stands sp e
  case true => rfl
  case false =>
    simp only [Bool.false_eq_true, if_false, ← ended_blamed]
    split_ifs
    · exact endStanding_shift ..
    · exact endStanding_setSt ..
    · exact endStanding_setSt ..
    · rw [endStanding_engineRaise, endStanding_shift]; rfl

end Sys2Proof.Machine
end

section
/-! SUPPORT. The Span Engine, the Monitor Unit, the Interlock Unit and the Event Unit as moves. -/

namespace Sys2Proof.Machine

variable {c : Scope} {s t : State} {sp : Span} {tick : Bool}

/-! ### Records -/

/-- A record in which a field that belongs to no invariant but the fit to its state changes. -/
theorem mark_moves {y : SpanStatus} (hs : y.state = (s.st sp).state) (hn : y.failures = (s.st sp).failures)
    (hc : y.causes = (s.st sp).causes) (hw : y.far = (s.st sp).far) (hf : (s.st sp).Fits → y.Fits) : Moves c s (s.setSt sp y) :=
  (Move.mark sp y ⟨hs, hn, hf, fun h => hc ▸ h, fun _ h => .inl (hc ▸ h), .inr (.inl hw)⟩).moves

/-- A cause leaves a record. -/
theorem endStanding_moves (sp : Span) (e : Event) (s : State) : Moves c s (endStanding sp e s) := by
  rw [endStanding_eq]
  have mark : Mark c s sp ((s.st sp).ended e) :=
    ⟨rfl, rfl, id, removeCause_nodup e, fun x hx => .inl (mem_removeCause.mp hx).1, .inr (.inl rfl)⟩
  exact (Move.mark sp _ mark).moves

theorem shift_moves {y : SpanStatus} (hs : Shift c s sp y.state y.failures y.causes) (hf : y.Fits)
    (hw : y.far = (s.st sp).far) : Moves c s (shift sp y s) := (Move.shift sp y hs hf hw).moves

@[simp] theorem shift_stands (sp x : Span) (y : SpanStatus) (e : Event) (s : State) : (shift sp y s).stands x e = s.stands x e := by
  cases e <;> rfl

/-- A change of state whose record takes or loses causes besides. -/
theorem shift_mark_moves {y : SpanStatus} (hs : Shift c s sp y.state y.failures (s.st sp).causes) (hf : y.Fits)
    (hw : y.far = (s.st sp).far) (hn : (s.st sp).causes.Nodup → y.causes.Nodup)
    (hc : ∀ e ∈ y.causes, e ∈ (s.st sp).causes ∨
      (s.stands sp e = true ∧ y.state ≠ .unused ∧ y.state ≠ .service ∧ (y.state.lit = true → e.standing = false))) :
    Moves c s (shift sp y s) := by
  have enter : Moves c s (shift sp { y with causes := (s.st sp).causes } s) := shift_moves hs hf hw
  have mark : Moves c (shift sp { y with causes := (s.st sp).causes } s) (shift sp y s) := by
    rw [← setSt_shift (s := s) (z := y) (y := { y with causes := (s.st sp).causes }) rfl]
    refine (Move.mark sp y ⟨?_, ?_, fun _ => hf, ?_, ?_, .inr (.inl ?_)⟩).moves
    · rw [shift_st_self]
    · rw [shift_st_self]
    · rwa [shift_st_self]
    · rw [shift_st_self]; simpa using hc
    · rw [shift_st_self]
  exact enter.trans mark

/-! ### Entries -/

theorem enterWait_moves (expired : Bool) (h : Shift c s sp .wait (s.st sp).failures (s.st sp).causes) :
    Moves c s (enterWait sp expired s) := by
  rw [enterWait_eq]
  exact shift_moves h (by simp [SpanStatus.Fits, SpanStatus.enter]) rfl

theorem enterLocked_moves (h : Shift c s sp .locked (s.st sp).failures (s.st sp).causes) : Moves c s (enterLocked sp s) := by
  rw [enterLocked_eq]
  exact (shift_moves h (enter_fits _ _ (by decide)) rfl).trans (engineRaise_moves ..)

theorem enterShut_moves (h : (s.st sp).state.lit = true) : Moves c s (enterShut sp s) := by
  rw [enterShut_eq]
  refine (snuffSpan_moves sp s).trans (shift_moves (.trip ?_) (by simp [SpanStatus.Fits, SpanStatus.enter]) rfl)
  rwa [snuffSpan_st]

/-! ### Tests -/

theorem breakTest_moves (sp : Span) (s : State) : Moves c s (breakTest sp s) := by
  obtain e | e := breakTest_cases sp s <;> rw [e]
  · exact .refl
  · exact raise_moves ..

theorem signalLossTest_moves (sp : Span) (s : State) : Moves c s (signalLossTest sp s) := by
  unfold signalLossTest
  split
  · exact engineRaise_moves ..
  · exact .refl

theorem lightLostTest_moves (sp : Span) (s : State) : Moves c s (lightLostTest sp s) := by
  unfold lightLostTest
  split
  · exact engineRaise_moves ..
  · exact .refl

theorem completes_state (h : completes sp s = true) : (s.st sp).state = .confirm := by
  simp only [completes, Bool.and_eq_true, decide_eq_true_eq] at h
  exact h.1.1

theorem enterService_moves (h : (s.st sp).state = .confirm) : Moves c s (enterService sp s) := by
  rw [enterService_eq]
  refine .trans ?_ ((engineRaise_moves ..).trans (breakTest_moves ..))
  exact shift_moves (.serve h) (by simp [SpanStatus.Fits, SpanStatus.enter]) rfl

/-- The completion test is made of moves. -/
theorem completionTest_moves (sp : Span) (s : State) : Moves c s (completionTest sp s) := by
  obtain ⟨h, e⟩ | ⟨-, e⟩ := completionTest_cases sp s <;> rw [e]
  · exact enterService_moves (completes_state h)
  · exact .refl

theorem completionTest_run (sp : Span) (s : State) : Run tick s (completionTest sp s) := (Effect.tested sp .refl).run

/-- Proof of a probe: the pumps rise and the completion test follows (R29, R30). -/
theorem enterConfirm_run (h : (s.st sp).state = .probe) : Run tick s (enterConfirm sp s) := by
  rw [enterConfirm_eq]
  refine (Effect.tested sp ?_).run
  have enter : Moves (.testing tick sp) s (shift sp ((s.st sp).proved (s.owes (.slot sp))) s) :=
    shift_moves (.confirm rfl h) (by simp [SpanStatus.Fits, SpanStatus.proved, SpanStatus.enter]) rfl
  exact enter.trans ((riseSpan_moves (c := .testing tick sp) rfl _).trans (breakTest_moves ..))

/-! ### Actions and events -/

theorem actOn_moves (sp : Span) (act : Action) (e : Event) (s : State) : Moves c s (actOn sp act e s) := by
  by_cases h : (s.st sp).state = .unused ∨ act = .note
  · rw [actOn, if_pos h]; exact .refl
  obtain ⟨hu, ha⟩ := not_or.mp h
  rw [actOn_eq hu ha]
  have causes {u : State} (hst : u.st sp = s.st sp) (hsd : u.stands sp e = s.stands sp e) (z : SpanState)
      (hz : z ≠ .unused ∧ z ≠ .service ∧ (z.lit = true → e.standing = false)) :
      ∀ x ∈ ((s.st sp).blamed e (s.stands sp e)).causes, x ∈ (u.st sp).causes ∨
        (u.stands sp x = true ∧ z ≠ .unused ∧ z ≠ .service ∧ (z.lit = true → x.standing = false)) := by
    intro x hx
    rw [mem_blamed] at hx
    split at hx
    next hxe => subst hxe; exact .inr ⟨hsd ▸ hx, hz⟩
    next => exact .inl (hst ▸ hx)
  have lock (v : State) (hv : PumpFrame s v) (hm : Moves c s v) :
      Moves c s (engineRaise sp .lockout .none_ (shift sp (((s.st sp).blamed e (s.stands sp e)).enter .locked false) v)) := by
    refine hm.trans (.trans ?_ (engineRaise_moves ..))
    refine shift_mark_moves ?_ (enter_fits _ _ (by decide)) (by rw [hv.st]; rfl) (fun _ => blamed_nodup ..)
      (causes (hv.st sp) (hv.stands sp e) _ (by simp [SpanStatus.enter, SpanState.lit]))
    have := Shift.lock (c := c) (s := v) (sp := sp) (by rwa [hv.st])
    rw [hv.st] at this ⊢
    exact this
  have take (hz : (s.st sp).state.lit = true → (s.st sp).state = .probe ∧ e = .lightLost) :
      Moves c s (s.setSt sp ((s.st sp).blamed e (s.stands sp e))) := by
    have nodup := blamed_nodup (s.st sp) e (s.stands sp e)
    suffices h : Mark c s sp ((s.st sp).blamed e (s.stands sp e)) from (Move.mark sp _ h).moves
    refine ⟨rfl, rfl, id, fun _ => nodup, causes rfl rfl _ ⟨hu, ?_, ?_⟩, .inr (.inl rfl)⟩
    · intro (h : (s.st sp).state = .service)
      rw [h] at hz
      cases (hz rfl).1
    · intro h; rw [(hz h).2]; rfl
  dsimp only
  split_ifs with h1 h2 h3
  · have hv := snuffSpan_frame sp s
    refine (snuffSpan_moves sp s).trans (shift_mark_moves ?_ (by simp [SpanStatus.Fits, SpanStatus.enter]) (by rw [snuffSpan_st]; rfl)
      (fun _ => blamed_nodup ..) (causes (snuffSpan_st ..) (snuffSpan_stands ..) _ (by simp [SpanStatus.enter, SpanState.lit])))
    have := Shift.trip (c := c) (s := snuffSpan sp s) (sp := sp) (by rw [snuffSpan_st]; exact ((trips_iff _ _).mp h2).1)
    rw [snuffSpan_st] at this ⊢
    exact this
  · exact take fun hl => not_not.mp fun h => h2 ((trips_iff _ _).mpr ⟨hl, h⟩)
  · exact take fun hl => by rw [h3] at hl; cases hl
  · refine lock _ (snuffLit_frame sp s) ?_
    unfold snuffLit
    split
    · exact snuffSpan_moves sp s
    · exact .refl

theorem handAction_moves (act : Action) (e : Event) (sps : List Span) (s : State) : Moves c s (handAction act e sps s).1 := by
  induction sps generalizing s with
  | nil => exact .refl
  | cons sp sps ih => exact (actOn_moves sp act e s).trans (ih _)

theorem takeEvent_moves (ev : Raised) (s : State) : Moves c s (takeEvent ev s) := by
  unfold takeEvent
  dsimp only
  split
  · split
    · exact offerAll_moves ..
    · exact .refl
  · have acted (u : State) : Moves c u (pairLockouts s.raised.length
        (handAction (actingAction s ev) ev.event (actionSpans (actingAction s ev) ev) u).1) :=
      (handAction_moves ..).trans (pairLockouts_moves ..)
    have all : Moves c s (pairLockouts s.raised.length (handAction (actingAction s ev) ev.event
        (actionSpans (actingAction s ev) ev) (if actingAction s ev = .snuffAll then snuffAll s else s)).1) := by
      split
      · exact (snuffAll_moves s).trans (acted _)
      · exact acted _
    split
    · exact all.trans (offerAll_moves ..)
    · exact all

theorem takeOldest_moves (src : Block) (s : State) : Moves c s (takeOldest src s) := by
  unfold takeOldest
  split
  next ev left _ => exact (Moves.of_aside (t := { s with raised := left }) rfl).trans (takeEvent_moves ev _)
  next => exact .refl

/-! ### Ranges of samples -/

/-- The converted power of any code lies within the range of a channel (R64). -/
theorem convert_le {code offset gain : Nat} (hc : code ≤ 65535) (hg : gain ≤ 65535) :
    convert code offset gain ≤ Config.maxPower := by
  have h : (code - offset) * gain ≤ 65535 * 65535 := Nat.mul_le_mul ((Nat.sub_le ..).trans hc) hg
  exact (Nat.div_le_div_right h).trans (by decide)

theorem sampleCode_le (b1 b2 : Byte) : sampleCode b1 b2 ≤ 65535 := by
  have h1 := b1.isLt
  have h2 := b2.isLt
  simp only [sampleCode, beNat, List.foldl_cons, List.foldl_nil]
  omega

theorem sample_inRange {k : InputChan} (h : k.InRange) (below restored : Bool) : (k.sample below restored).InRange := by
  obtain ⟨h1, h2, h3, h4, h5, h6, h7, h8⟩ := h
  have go (l : Light) (n : Nat) (hn : n ≤ 63) (hz : l = .present ∨ l = .absent → n = 0) :
      ({ k with light := l, run := n } : InputChan).InRange := ⟨h1, h2, h3, h4, h5, h6, hn, hz⟩
  have hk : k.InRange := ⟨h1, h2, h3, h4, h5, h6, h7, h8⟩
  unfold InputChan.sample
  split
  next hl =>
    split_ifs
    · exact go .absent 0 (by omega) fun _ => rfl
    · exact go .fading 1 (by omega) (by simp)
    · exact hk
  next hl =>
    split_ifs
    · exact go .absent 0 (by omega) fun _ => rfl
    · have := go .fading (k.run + 1) (by omega) (by simp)
      rwa [← hl] at this
    · exact go .present 0 (by omega) fun _ => rfl
  next hl =>
    split_ifs
    · exact go .present 0 (by omega) fun _ => rfl
    · exact go .returning 1 (by omega) (by simp)
    · exact hk
  next hl =>
    split_ifs
    · exact go .present 0 (by omega) fun _ => rfl
    · have := go .returning (k.run + 1) (by omega) (by simp)
      rwa [← hl] at this
    · exact go .absent 0 (by omega) fun _ => rfl

/-! ### Light -/

/-- The tests of a change of light raise events only. -/
theorem lightTests_spec (sp : Span) (old new : Light) (s : State) :
    ∃ r, (if isLoss old new then lightLostTest sp (signalLossTest sp (if new = .absent then breakTest sp s else s))
      else if new = .absent then breakTest sp s else s) = { s with raised := r } := by
  have b (s : State) : ∃ r, breakTest sp s = { s with raised := r } := by
    obtain e | e := breakTest_cases sp s <;> exact ⟨_, e⟩
  have g (s : State) : ∃ r, signalLossTest sp s = { s with raised := r } := by
    unfold signalLossTest; split <;> exact ⟨_, rfl⟩
  have l (s : State) : ∃ r, lightLostTest sp s = { s with raised := r } := by
    unfold lightLostTest; split <;> exact ⟨_, rfl⟩
  obtain ⟨r, e⟩ : ∃ r, (if new = .absent then breakTest sp s else s) = { s with raised := r } := by
    split
    · exact b s
    · exact ⟨_, rfl⟩
  rw [e]
  split
  · obtain ⟨r', e'⟩ := g { s with raised := r }
    obtain ⟨r'', e''⟩ := l { s with raised := r' }
    exact ⟨r'', by rw [e']; exact e''⟩
  · exact ⟨r, rfl⟩

theorem stageFollow_moves (d : Dir) (old new : Light) (s : State) : Moves c s (stageFollow d old new s) := by
  unfold stageFollow
  split_ifs
  · exact .refl
  · exact riseStage_moves d s
  · exact douseStage_moves d s
  · exact .refl

/-- The engine's part in a change of light that it is about to see. -/
theorem engineLight_run {k : InputChan} (old new : Light) (hk : (s.inp sp).InRange → k.InRange) :
    Run tick s (engineLight sp old new (s.setInp sp k)) := by
  unfold engineLight
  dsimp only
  obtain ⟨r, e⟩ := lightTests_spec sp old new (s.setInp sp k)
  rw [e]
  have st : ({ s.setInp sp k with raised := r } : State).st sp = s.st sp := rfl
  have calm (h : (s.st sp).state ≠ .confirm) : Run tick s { s.setInp sp k with raised := r } :=
    Moves.run (.trans (setInp_moves hk (.inl (.inr (.inr h)))) (.of_aside rfl))
  split
  next h =>
    refine (calm (by rw [← st, h]; decide)).trans ?_
    split
    · refine Moves.run (mark_moves rfl rfl rfl rfl fun hf => ?_)
      exact ⟨fun hw => absurd h hw, hf.2⟩
    · exact .refl
  next h =>
    refine (calm (by rw [← st, h]; decide)).trans ?_
    split
    · exact enterConfirm_run h
    · exact .refl
  next h =>
    exact (Effect.tested sp (.trans (setInp_moves hk (.inl (.inl rfl))) (.of_aside rfl))).run
  all_goals
    next h => exact calm (by rw [← st, h]; decide)

/-- An input channel's new light state, handed on (R68). -/
theorem lightChanged_run {k : InputChan} (hk : (s.inp sp).InRange → k.InRange) :
    Run tick s (lightChanged sp (s.inp sp).light k.light (s.setInp sp k)) := by
  unfold lightChanged
  split
  next h => exact Moves.run (setInp_moves hk (.inr h.symm))
  next => exact (engineLight_run _ _ hk).trans (Moves.run (stageFollow_moves ..))

theorem advanceLight_run (sp : Span) (below restored : Bool) (s : State) : Run tick s (advanceLight sp below restored s) :=
  lightChanged_run fun h => sample_inRange h _ _

theorem reflectionSample_moves (sp : Span) (power : Nat) (s : State) : Moves c s (reflectionSample sp power s) := by
  have put (n : Nat) (h : n < (s.reflection sp).nRef ∨ n = 0) : Moves c s (s.setReflection sp { s.reflection sp with run := n }) :=
    setReflection_moves fun ⟨h1, h2, h3, h4, h5, _⟩ => ⟨h1, h2, h3, h4, h5, by dsimp only; omega⟩
  have ends (n : Nat) : Moves c s (if 0 < n ∧ (s.reflection sp).nRef ≤ n then
      (s.setReflection sp { s.reflection sp with run := 0 }).raise .monitorUnit .reflect (.one sp)
        (.monitor (Config.reflChan sp))
      else s.setReflection sp { s.reflection sp with run := n }) := by
    split
    · refine .trans ?_ (raise_moves ..)
      exact put 0 (.inr rfl)
    · exact put n (by omega)
  exact ends _

theorem takeSample_run (ch : Chan) {code : Nat} (hc : code ≤ 65535) (s : State) : Run tick s (takeSample ch code s) := by
  unfold takeSample
  dsimp only
  have taken : Run tick s (s.setChan ch
      { s.chan ch with latest := convert code (s.chan ch).offset (s.chan ch).gain, fresh := 0, stale := false }) :=
    Moves.run (setChan_moves fun ⟨h1, h2, h3, h4, h5, h6, _, _⟩ => ⟨h1, h2, h3, h4, h5, h6, convert_le hc h3, Nat.zero_le _⟩)
  split
  · exact taken.trans (advanceLight_run ..)
  · exact taken
  · exact taken.trans (Moves.run (reflectionSample_moves ..))

theorem goStale_moves (ch : Chan) (s : State) : Moves c s (goStale ch s) := by
  unfold goStale
  dsimp only
  have stale : Moves c s ((s.setChan ch { s.chan ch with stale := true }).raise
      .monitorUnit .monitorStale (.one (Config.monSpan ch)) (.monitor ch)) :=
    (setChan_moves (k := { s.chan ch with stale := true }) id).trans (raise_moves ..)
  split
  · refine stale.trans (setReflection_moves ?_)
    exact fun ⟨h1, h2, h3, h4, h5, _⟩ => ⟨h1, h2, h3, h4, h5, Nat.zero_le _⟩
  · exact stale
  · exact stale

theorem zeroSample_run (ch : Chan) (s : State) : Run tick s (zeroSample ch s) := by
  unfold zeroSample
  split
  · exact advanceLight_run ..
  · exact .refl
  · exact .refl

theorem monitorTick_run (ch : Chan) (s : State) : Run tick s (monitorTick ch s) := by
  unfold monitorTick
  dsimp only
  have count : Run tick s (s.setChan ch { s.chan ch with fresh := satSucc 255 (s.chan ch).fresh }) :=
    Moves.run (setChan_moves fun ⟨h1, h2, h3, h4, h5, h6, h7, _⟩ => ⟨h1, h2, h3, h4, h5, h6, h7, satSucc_le ..⟩)
  have zero {u : State} (h : Run tick s u) : Run tick s (if (u.chan ch).stale then zeroSample ch u else u) := by
    split
    · exact h.trans (zeroSample_run ..)
    · exact h
  refine zero ?_
  split
  · exact count.trans (Moves.run (goStale_moves ..))
  · exact count

/-! ### The slot of a tick -/

theorem slotValue_le (h : s.PowersInRange) (sp : Span) : s.slotValue sp ≤ 33553408 := by
  have v (ch : Chan) : (s.chan ch).value ≤ 16776704 := by
    obtain ⟨-, -, -, -, -, h6, h7, -⟩ := h.1 ch
    unfold MonChan.value
    split
    · exact h6
    · exact h7
  have := v (Config.outChan sp)
  have := v (Config.ramanChan sp)
  simp only [State.slotValue]
  omega

theorem recordSlot_moves (sp : Span) (s : State) :
    Moves c s (s.setSlots sp (s.slotValue sp :: (s.slots sp).take (Config.ringSlots - 1))) := by
  refine setSlots_moves fun h => ?_
  obtain ⟨-, -, hl, hx⟩ := h.2 sp
  refine ⟨by simp [hl, Config.ringSlots], fun x hm => ?_⟩
  rcases List.mem_cons.mp hm with rfl | hm
  · exact slotValue_le h sp
  · exact hx x (List.mem_of_mem_take hm)

/-- A timed state counts a tick. -/
theorem countTick_moves {n : Nat} {dark confirm : Bool} (hn : n ≤ 65535)
    (h : (s.st sp).state = .shut ∨ (s.st sp).state = .probe ∨ (s.st sp).state = .confirm) :
    Moves c s (s.setSt sp { s.st sp with ticks := n, darkFailRaised := dark, confirmRaised := confirm }) := by
  refine mark_moves rfl rfl rfl rfl fun ⟨h1, _, h3, h4, _⟩ => ⟨h1, fun a b d => ?_, h3, h4, hn⟩
  obtain h | h | h := h
  · exact absurd h a
  · exact absurd h b
  · exact absurd h d

theorem darkTest_moves (slot : Nat) (h : (s.st sp).state = .shut) : Moves c s (darkTest sp slot s) := by
  unfold darkTest
  dsimp only
  split_ifs
  · exact enterWait_moves false (.dark h)
  · exact .trans (countTick_moves (satSucc_le ..) (.inl h)) (engineRaise_moves ..)
  · exact countTick_moves (satSucc_le ..) (.inl h)

theorem startProbe_moves (ht : c.tick = true) (h : (s.st sp).state = .wait) (hc : holdsStanding (s.st sp).causes = false) :
    Moves c s (startProbe sp s) := by
  rw [startProbe_eq]
  refine .trans ?_ (pulseSpan_moves ..)
  exact shift_moves (.probe ht h hc) (by simp [SpanStatus.Fits, SpanStatus.probing, SpanStatus.enter]) rfl

theorem expireProbe_moves (h : (s.st sp).state = .probe) : Moves c s (expireProbe sp s) := by
  unfold expireProbe
  dsimp only
  have before : Moves c s (engineRaise sp .probeFailed .none_ (snuffPulsing sp s)) :=
    (snuffPulsing_moves sp s).trans (engineRaise_moves ..)
  have st : (engineRaise sp .probeFailed .none_ (snuffPulsing sp s)).st sp = s.st sp := by
    rw [engineRaise, State.raise_st]
    exact PumpFrame.st (snuffPulsing_frame sp s) sp
  generalize engineRaise sp .probeFailed .none_ (snuffPulsing sp s) = u at before st ⊢
  have hu : (u.st sp).state = .probe := by rw [st, h]
  refine before.trans ?_
  split_ifs with hl
  · rw [enterLocked_eq, shift_setSt, State.setSt_st_self]
    refine .trans ?_ (engineRaise_moves ..)
    exact shift_moves (.fail _ hu (satSucc_le ..)) (enter_fits _ _ (by decide)) rfl
  · rw [enterWait_eq, shift_setSt, State.setSt_st_self]
    exact shift_moves (.retry _ hu (satSucc_le ..) hl) (by simp [SpanStatus.Fits, SpanStatus.enter]) rfl

theorem overshootTest_moves (sp : Span) (slot : Nat) (s : State) : Moves c s (overshootTest sp slot s) := by
  unfold overshootTest
  dsimp only
  split_ifs
  · refine .trans ?_ (engineRaise_moves ..)
    exact mark_moves rfl rfl rfl rfl id
  · exact .refl

theorem exposureTest_moves (sp : Span) (s : State) : Moves c s (exposureTest sp s) := by
  unfold exposureTest
  dsimp only
  split_ifs
  · refine .trans ?_ (engineRaise_moves ..)
    exact mark_moves rfl rfl rfl rfl id
  · exact .refl

theorem overshootTest_state (sp : Span) (slot : Nat) (s : State) : ((overshootTest sp slot s).st sp).state = (s.st sp).state := by
  unfold overshootTest
  dsimp only
  split_ifs
  · simp [engineRaise]
  · rfl

theorem exposureTest_state (sp : Span) (s : State) : ((exposureTest sp s).st sp).state = (s.st sp).state := by
  unfold exposureTest
  dsimp only
  split_ifs
  · simp [engineRaise]
  · rfl

theorem probeTick_run (slot : Nat) (h : (s.st sp).state = .probe) : Run tick s (probeTick sp slot s) := by
  unfold probeTick
  dsimp only
  have before : Run tick s (exposureTest sp (overshootTest sp slot
      (s.setSt sp { s.st sp with ticks := satSucc 65535 (s.st sp).ticks }))) :=
    Moves.run (.trans (countTick_moves (satSucc_le ..) (.inr (.inl h))) ((overshootTest_moves ..).trans (exposureTest_moves ..)))
  have st : ((exposureTest sp (overshootTest sp slot
      (s.setSt sp { s.st sp with ticks := satSucc 65535 (s.st sp).ticks }))).st sp).state = .probe := by
    rw [exposureTest_state, overshootTest_state, State.setSt_st_self, h]
  refine before.trans ?_
  split
  · exact enterConfirm_run st
  · split
    · split
      · exact Moves.run (expireProbe_moves st)
      · exact .refl
    · exact .refl

theorem confirmTick_moves (h : (s.st sp).state = .confirm) : Moves c s (confirmTick sp s) := by
  unfold confirmTick
  dsimp only
  split_ifs
  · exact .trans (countTick_moves (satSucc_le ..) (.inr (.inr h))) (engineRaise_moves ..)
  · exact countTick_moves (satSucc_le ..) (.inr (.inr h))

theorem engineTick_run (sp : Span) (slot : Nat) (s : State) : Run true s (engineTick sp slot s) := by
  unfold engineTick
  split
  next h => exact Moves.run (darkTest_moves slot h)
  next h =>
    split
    next ht =>
      simp only [startTest, Bool.and_eq_true, Bool.not_eq_true'] at ht
      exact Moves.run (startProbe_moves rfl h ht.1.1.1.1.2)
    next => exact .refl
  next h => exact probeTick_run slot h
  next h => exact Moves.run (confirmTick_moves h)
  all_goals exact .refl

theorem slotTick_run (sp : Span) (s : State) : Run true s (slotTick sp s) := by
  unfold slotTick
  dsimp only
  refine (Moves.run (recordSlot_moves sp s)).trans ?_
  split
  · exact Moves.run (mark_moves rfl rfl rfl rfl id)
  · exact engineTick_run ..

theorem offTick_moves (sp : Span) (s : State) : Moves c s (offTick sp s) := by
  unfold offTick
  dsimp only
  split
  next h =>
    refine mark_moves rfl rfl rfl rfl fun ⟨_, h2, h3, _, h5⟩ => ⟨fun g => absurd h.1 g, h2, h3, satSucc_le .., h5⟩
  next => exact .refl

/-! ### Lines, supply and ports at a tick -/

/-- What a line's new entry brings about for a span before the entry stands: an event, the end of the cause, or nothing. -/
theorem interlockEffect_cases (n : Chan) (old : IlLine) (b : Bool) (sp : Span) (s : State) :
    (interlockEffect n old b sp s = interlockRaise n sp s ∧ ((!old.active && (s.ilLine n).guards sp) || (!b && s.interlocked sp)) = true)
      ∨ (interlockEffect n old b sp s = endStanding sp .interlock s ∧ b = true ∧ s.interlocked sp = false)
      ∨ (interlockEffect n old b sp s = s ∧ (b = true → s.interlocked sp = true)) := by
  unfold interlockEffect
  dsimp only
  split
  next h => exact .inl ⟨rfl, h⟩
  next h =>
    split
    next g => exact .inr (.inl ⟨rfl, by simpa using g⟩)
    next g => exact .inr (.inr ⟨rfl, by simpa using g⟩)

/-- One part of what a line's new entry brings about: the record of one span, short of INTERLOCK where its condition is to end. -/
theorem interlockEffect_before (n : Chan) (old l : IlLine) (b : Bool) (sp : Span) (s : State) :
    ∃ u, interlockEffect n old b sp (s.setIlLine n l) = u.setIlLine n l ∧ Moves c s u
      ∧ (∀ x e, e ∈ (u.st x).causes → e ∈ (s.st x).causes) ∧ u.il = s.il ∧ u.supply = s.supply ∧ u.hold = s.hold
      ∧ (.interlock ∈ (u.st sp).causes → b = true → (s.setIlLine n l).interlocked sp = true) := by
  obtain ⟨e, h⟩ | ⟨e, -, -⟩ | ⟨e, h⟩ := interlockEffect_cases n old b sp (s.setIlLine n l)
  · refine ⟨interlockRaise n sp s, e, raise_moves .., fun _ _ => id, rfl, rfl, rfl, fun _ hb => ?_⟩
    rw [hb] at h
    simp only [Bool.not_true, Bool.false_and, Bool.or_false, Bool.and_eq_true] at h
    exact List.any_eq_true.mpr ⟨n, mem_chans n, h.2⟩
  · refine ⟨endStanding sp .interlock s, e, endStanding_moves .., fun x e h => ?_, rfl, rfl, rfl, fun h => ?_⟩
    · rw [endStanding_eq, State.setSt_st] at h
      split at h
      next hx => subst hx; exact (mem_removeCause.mp h).1
      next => exact h
    · rw [endStanding_eq, State.setSt_st_self] at h
      exact absurd rfl (mem_removeCause.mp h).2
  · exact ⟨s, e, .refl, fun _ _ => id, rfl, rfl, rfl, fun _ => h⟩

theorem putLine_moves (n : Chan) (l : IlLine) (s : State) : Moves c s (putLine n l s) := by
  obtain ⟨u, eu, mu, cu, iu, su, hu, gu⟩ := interlockEffect_before (c := c) n (s.ilLine n) l (s.interlocked .ws) .ws s
  obtain ⟨v, ev, mv, cv, iv, sv, hv, gv⟩ := interlockEffect_before (c := c) n (s.ilLine n) l (s.interlocked .es) .es u
  have e : putLine n l s = v.setIlLine n l := by simp only [putLine, eu, ev]
  rw [e]
  refine (mu.trans mv).trans ?_
  refine (Move.conditions (v.il.set n l) v.supply v.hold (fun _ => id) fun x e he hs hst => ?_).moves
  obtain rfl | rfl | rfl := standing_cases hs
  · have hil : v.il = s.il := iv.trans iu
    have stood : s.interlocked x = true := by
      have : v.interlocked x = true := hst
      simpa only [State.interlocked, State.ilLine, hil] using this
    have now : (s.setIlLine n l).interlocked x = true := by
      cases x
      · exact gu (cv _ _ he) stood
      · have := gv he stood
        simpa only [State.interlocked, State.ilLine, State.setIlLine, iu] using this
    change (v.setIlLine n l).interlocked x = true
    simpa only [State.interlocked, State.ilLine, State.setIlLine, hil] using now
  · exact hst
  · exact hst

theorem interlockTick_moves (n : Chan) (s : State) : Moves c s (interlockTick n s) := putLine_moves ..

theorem endStanding_mem {x : Span} {e e' : Event} (h : e' ∈ ((endStanding sp e s).st x).causes) :
    e' ∈ (s.st x).causes ∧ (x = sp → e' ≠ e) := by
  rw [endStanding_eq, State.setSt_st] at h
  split at h
  next hx => subst hx; exact ⟨(mem_removeCause.mp h).1, fun _ => (mem_removeCause.mp h).2⟩
  next hx => exact ⟨h, fun g => absurd g hx⟩

/-- A supply state other than GOOD ends no condition. -/
theorem setSupply_moves {x : Supply} (hr : s.RecordsInRange → s.supply.InRange → x.InRange)
    (h : x.state = .good → ∀ sp, .supplyLow ∈ (s.st sp).causes → s.supply.state = .good) : Moves c s { s with supply := x } := by
  refine (Move.conditions s.il x s.hold hr fun sp e he hs hst => ?_).moves
  obtain rfl | rfl | rfl := standing_cases hs
  · exact hst
  · have stood : s.supply.state ≠ .good := of_decide_eq_true hst
    exact decide_eq_true fun g => stood (h g sp he)
  · exact hst

theorem settleTick_moves (s : State) : Moves c s (settleTick s) := by
  unfold settleTick
  split
  next hs =>
    dsimp only
    split
    next hn =>
      have swap : endStanding .es .supplyLow (endStanding .ws .supplyLow { s with supply := ⟨.good, s.supply.count + 1⟩ })
          = { endStanding .es .supplyLow (endStanding .ws .supplyLow s) with supply := ⟨.good, s.supply.count + 1⟩ } := rfl
      rw [swap]
      refine ((endStanding_moves ..).trans (endStanding_moves ..)).trans (setSupply_moves ?_ fun _ sp he => ?_)
      · rintro - ⟨-, h⟩
        exact ⟨h hs, nofun⟩
      · obtain ⟨he, h2⟩ := endStanding_mem he
        obtain ⟨-, h1⟩ := endStanding_mem he
        cases sp
        · exact absurd rfl (h1 rfl)
        · exact absurd rfl (h2 rfl)
    next hn =>
      refine setSupply_moves (fun hp _ => ?_) nofun
      have := hp.2.2.2.2
      exact ⟨by dsimp only; omega, fun _ => by dsimp only; omega⟩
  next => exact .refl

theorem supplyFall_moves (s : State) : Moves c s (supplyFall s) := by
  unfold supplyFall
  split
  · exact .refl
  · exact (setSupply_moves (x := ⟨.low, 0⟩) (fun _ _ => ⟨Nat.zero_le _, nofun⟩) nofun).trans ((snuffAll_moves _).trans (raise_moves ..))

theorem supplyRise_moves (s : State) : Moves c s (supplyRise s) := by
  unfold supplyRise
  split
  · exact (setSupply_moves (x := ⟨.settling, 0⟩) (fun _ _ => ⟨Nat.zero_le _, fun _ => by decide⟩) nofun).trans (dropJob_moves ..)
  · exact .refl

theorem silenceTick_moves (sp : Span) (s : State) : Moves c s (silenceTick sp s) := by
  unfold silenceTick
  dsimp only
  split
  · split
    · refine .trans (.trans ?_ (raise_moves ..)) (breakTest_moves ..)
      exact setLine_moves ⟨id, id, fun _ => satSucc_le ..⟩ rfl
    · exact setLine_moves ⟨id, id, fun _ => satSucc_le ..⟩ rfl
  · exact .refl

end Sys2Proof.Machine
end

section
/-! SUPPORT. Requests as moves: the checks of each write give the conditions its moves are made under. -/

namespace Sys2Proof.Machine

variable {c : Scope} {s t u : State} {sp : Span} {ch : Chan} {tick : Bool}

/-! ### Values of writes -/

/-- The code of an item that is found among checked ones lies in a range, and its value within it. -/
theorem itemVal_range {ranges : List (Nat × Nat)} {items : List Item} {code v : Nat} (h : inRanges ranges items = true)
    (hv : itemVal items code = some v) : ∃ r, ranges[code - 1]? = some r ∧ r.1 ≤ v ∧ v ≤ r.2 := by
  obtain ⟨it, hf, rfl⟩ := Option.map_eq_some_iff.mp hv
  have hc : it.1 = code := by simpa using List.find?_some hf
  have hr := List.all_eq_true.mp h it (List.mem_of_find?_eq_some hf)
  subst hc
  split at hr
  next lo hi e => exact ⟨_, e, by simpa using hr⟩
  next => cases hr

/-- A field written from a value within its range, or left as it was, satisfies what both do. -/
theorem written_holds {α : Type} {P : α → Prop} {ranges : List (Nat × Nat)} {items : List Item} {code lo hi : Nat} {read : Nat → α} {old : α}
    (h : inRanges ranges items = true) (hr : ranges[code - 1]? = some (lo, hi)) (hold : P old)
    (hnew : ∀ v, lo ≤ v → v ≤ hi → P (read v)) : P (written items code read old) := by
  unfold written
  split
  next v e =>
    obtain ⟨r, hr', hlo, hhi⟩ := itemVal_range h e
    obtain rfl := Option.some.inj (hr.symm.trans hr')
    exact hnew v hlo hhi
  next => exact hold

theorem written_range {ranges : List (Nat × Nat)} {items : List Item} {code lo hi old : Nat}
    (h : inRanges ranges items = true) (hr : ranges[code - 1]? = some (lo, hi)) (hold : lo ≤ old ∧ old ≤ hi) :
    lo ≤ written items code id old ∧ written items code id old ≤ hi :=
  written_holds (P := fun x => lo ≤ x ∧ x ≤ hi) h hr hold fun _ h1 h2 => ⟨h1, h2⟩

theorem written_of_not_carries {α : Type} {items : List Item} {code : Nat} (h : carries items code = false) (read : Nat → α) (old : α) :
    written items code read old = old := by
  have e : itemVal items code = none := by
    simp only [itemVal, Option.map_eq_none_iff, List.find?_eq_none]
    intro it hit hc
    simp only [carries, List.any_eq_false] at h
    exact h it hit hc
  simp only [written, e]

@[simp] theorem applied_s (s : State) (withheld : List Nat) (adjusted : Bool) (named : List Nat) :
    (applied s withheld adjusted named).s = s := by
  unfold applied
  split
  · rfl
  · split <;> rfl

/-! ### WRITE_SPAN -/

theorem spanConfig_write_inRange {k : SpanConfig} {items : List Item} (hb : spanRangeBad (k.write items) items = false)
    (h : k.InRange) : (k.write items).InRange := by
  simp only [spanRangeBad, Bool.or_eq_false_iff, Bool.not_eq_false', decide_eq_false_iff_not, not_le, not_lt] at hb
  obtain ⟨⟨hr, hw⟩, hl⟩ := hb
  obtain ⟨n1, n2, d1, d2, c1, c2, w1, w2, l1, l2, lo, dt, t1, t2, o1, o2, q1, q2, g, f1, f2, st, k1, k2, -, -⟩ := h
  have site : 1 ≤ (k.write items).neighbour.toNat ∧ (k.write items).neighbour.toNat ≤ 1022 :=
    written_holds (P := fun x : Site => 1 ≤ x.toNat ∧ x.toNat ≤ 1022) hr rfl ⟨n1, n2⟩ fun v h1 h2 => by
      rw [BitVec.toNat_ofNat, Nat.mod_eq_of_lt (by omega)]; exact ⟨h1, h2⟩
  have field {code lo hi old : Nat} (e : spanRanges[code - 1]? = some (lo, hi)) (h1 : lo ≤ old) (h2 : old ≤ hi) :
      lo ≤ written items code id old ∧ written items code id old ≤ hi := written_range hr e ⟨h1, h2⟩
  have low : (0 : Nat) ≤ k.lockout := Nat.zero_le _
  exact ⟨site.1, site.2, (field (code := 4) rfl d1 d2).1, (field (code := 4) rfl d1 d2).2,
    (field (code := 5) rfl c1 c2).1, (field (code := 5) rfl c1 c2).2, (field (code := 6) rfl w1 w2).1,
    (field (code := 6) rfl w1 w2).2, (field (code := 7) rfl l1 l2).1, (field (code := 7) rfl l1 l2).2,
    (field (code := 8) rfl (Nat.zero_le _) lo).2, (field (code := 9) rfl (Nat.zero_le _) dt).2,
    (field (code := 10) rfl t1 t2).1, (field (code := 10) rfl t1 t2).2, (field (code := 11) rfl o1 o2).1,
    (field (code := 11) rfl o1 o2).2, (field (code := 12) rfl q1 q2).1, (field (code := 12) rfl q1 q2).2,
    (field (code := 13) rfl (Nat.zero_le _) g).2, (field (code := 14) rfl f1 f2).1, (field (code := 14) rfl f1 f2).2,
    (field (code := 15) rfl (Nat.zero_le _) st).2, (field (code := 16) rfl k1 k2).1, (field (code := 16) rfl k1 k2).2, hw, hl⟩

/-- A span's record on entry to WAIT, or to MAINT with its port in a loop mode (R9, R20, R34). -/
def SpanStatus.rested (r : SpanStatus) (looped expired : Bool) : SpanStatus :=
  if looped then { r.enter .maint false with failures := 0 } else { r.enter .wait false with offExpired := expired }

/-- The standing conditions that stand in the cause set, with the entry report flag of each (R132, R137). -/
def SpanStatus.reported (x : SpanStatus) (interlocked supplyDown : Bool) : SpanStatus :=
  let cs := if interlocked then addCause .interlock x.causes else x.causes
  { x with
    causes := if supplyDown then addCause .supplyLow cs else cs
    entryInterlock := x.entryInterlock || interlocked
    entrySupply := x.entrySupply || supplyDown }

theorem rested_state (r : SpanStatus) (looped expired : Bool) : (r.rested looped expired).state = if looped then .maint else .wait := by
  cases looped <;> rfl

theorem rested_causes (r : SpanStatus) (looped expired : Bool) : (r.rested looped expired).causes = r.causes := by
  cases looped <;> rfl

theorem rested_far (r : SpanStatus) (looped expired : Bool) : (r.rested looped expired).far = r.far := by
  cases looped <;> rfl

theorem rested_fits (r : SpanStatus) (looped expired : Bool) : (r.rested looped expired).Fits := by
  cases looped <;> simp [SpanStatus.Fits, SpanStatus.rested, SpanStatus.enter]

theorem mem_reported {x : SpanStatus} {i d : Bool} {e : Event} (h : e ∈ (x.reported i d).causes) :
    e ∈ x.causes ∨ (e = .interlock ∧ i = true) ∨ (e = .supplyLow ∧ d = true) := by
  cases i <;> cases d <;> simp_all [SpanStatus.reported] <;> tauto

theorem activeLine_eq_none : s.activeLine sp = none ↔ s.interlocked sp = false := by
  simp [State.activeLine, State.interlocked, List.find?_eq_none]

theorem interlocked_of_activeLine {n : Chan} (h : s.activeLine sp = some n) : s.interlocked sp = true := by
  by_contra g
  rw [activeLine_eq_none.mpr (by simpa using g)] at h
  cases h

/-- INTERLOCK raised for a span that leaves UNUSED with an active line guarding it (R132). -/
def raiseActive (sp : Span) (line : Option Chan) (s : State) : State :=
  match line with
  | some n => interlockRaise n sp s
  | none => s

theorem enterInterlock_eq (sp : Span) (s : State) :
    enterInterlock sp s = raiseActive sp (s.activeLine sp)
      (if s.interlocked sp then
        s.setSt sp { s.st sp with causes := addCause .interlock (s.st sp).causes, entryInterlock := true }
      else s) := by
  unfold enterInterlock raiseActive
  cases h : s.activeLine sp with
  | some n => rw [if_pos (interlocked_of_activeLine h)]; rfl
  | none => rw [activeLine_eq_none.mp h]; rfl

theorem enterSupply_raiseActive (sp : Span) (line : Option Chan) (s : State) :
    enterSupply sp (raiseActive sp line s) = raiseActive sp line (enterSupply sp s) := by
  cases line with
  | none => rfl
  | some n =>
    change enterSupply sp (s.raise _ _ _ _) = (enterSupply sp s).raise _ _ _ _
    unfold enterSupply
    cases h : s.supplyDown
    · rw [if_neg (by exact ne_true_of_eq_false h), if_neg (by decide)]
    · rw [if_pos (by exact h), if_pos rfl]; rfl

theorem enterRest_eq (sp : Span) (expired : Bool) (s : State) :
    (if (s.line sp).loop = .normal then enterWait sp expired s else enterMaint sp s)
      = shift sp ((s.st sp).rested (decide ((s.line sp).loop ≠ .normal)) expired) s := by
  split
  next h => rw [enterWait_eq]; simp [SpanStatus.rested, h]
  next h => rw [enterMaint_eq]; simp [SpanStatus.rested, h]

theorem enterInterlock_shift (sp : Span) (x : SpanStatus) (s : State) :
    enterInterlock sp (shift sp x s)
      = raiseActive sp (s.activeLine sp) (shift sp (x.reported (s.interlocked sp) false) s) := by
  have locked : (shift sp x s).interlocked sp = s.interlocked sp := rfl
  rw [enterInterlock_eq, locked, shift_st_self]
  refine congrArg (raiseActive sp (s.activeLine sp)) ?_
  cases s.interlocked sp
  · simp [SpanStatus.reported]
  · rw [if_pos rfl, setSt_shift (by rfl)]; simp [SpanStatus.reported]

theorem enterSupply_shift (sp : Span) (x : SpanStatus) (i : Bool) (s : State) :
    enterSupply sp (shift sp (x.reported i false) s) = shift sp (x.reported i s.supplyDown) s := by
  have down : (shift sp (x.reported i false) s).supplyDown = s.supplyDown := rfl
  rw [enterSupply, down, shift_st_self]
  cases s.supplyDown
  · rfl
  · rw [if_pos rfl, setSt_shift (by rfl)]; simp [SpanStatus.reported]

/-- A span leaves UNUSED by one entry and at most one event (R9, R132). -/
theorem leaveUnused_eq (sp : Span) (expired : Bool) (s : State) :
    leaveUnused sp expired s = raiseActive sp (s.activeLine sp)
      (shift sp
        (((s.st sp).rested (decide ((s.line sp).loop ≠ .normal)) expired).reported (s.interlocked sp) s.supplyDown) s) := by
  rw [leaveUnused, enterRest_eq, enterInterlock_shift, enterSupply_raiseActive, enterSupply_shift]

/-! ### Leaving and entering UNUSED -/

theorem raiseActive_moves (sp : Span) (line : Option Chan) (s : State) : Moves c s (raiseActive sp line s) := by
  cases line
  · exact .refl
  · exact raise_moves ..

theorem leaveUnused_moves (expired : Bool) (ht : c.tick = false) (hr : s.part.run = true)
    (hu : c.standby → (s.st sp).state = .unused) : Moves c s (leaveUnused sp expired s) := by
  rw [leaveUnused_eq]
  refine .trans (shift_mark_moves ?_ ?_ ?_ ?_ ?_) (raiseActive_moves ..)
  · by_cases h : (s.line sp).loop = .normal
    · have := Shift.leave (c := c) (s := s) (sp := sp) _ ht hr hu (.inl rfl)
      simpa [State.restState, SpanStatus.rested, SpanStatus.reported, SpanStatus.enter, h] using this
    · have := Shift.leave (c := c) (s := s) (sp := sp) _ ht hr hu (.inr rfl)
      simpa [State.restState, SpanStatus.rested, SpanStatus.reported, SpanStatus.enter, h] using this
  · exact rested_fits ..
  · exact rested_far ..
  · intro h
    unfold SpanStatus.reported
    rw [rested_causes]
    dsimp only
    split
    · exact addCause_nodup ..
    · split
      · exact addCause_nodup ..
      · exact h
  · have state : ((s.st sp).rested (decide ((s.line sp).loop ≠ .normal)) expired).state ≠ .unused ∧
        ((s.st sp).rested (decide ((s.line sp).loop ≠ .normal)) expired).state ≠ .service ∧
        (((s.st sp).rested (decide ((s.line sp).loop ≠ .normal)) expired).state.lit = true → ∀ e : Event, e.standing = false) := by
      rw [rested_state]; split <;> simp [SpanState.lit]
    obtain ⟨hu, hs, hl⟩ := state
    intro e he
    rcases mem_reported he with h | ⟨rfl, h⟩ | ⟨rfl, h⟩
    · rw [rested_causes] at h; exact .inl h
    · exact .inr ⟨h, hu, hs, fun g => hl g _⟩
    · exact .inr ⟨h, hu, hs, fun g => hl g _⟩

/-- A hold flag is cleared where the span holds no cause for it. -/
theorem setHeld_moves {b : Bool} (h : b = false → .manualHold ∉ (s.st sp).causes) : Moves c s (s.setHeld sp b) := by
  refine (Move.conditions s.il s.supply (s.hold.set sp b) (fun _ => id) fun x e he hs hst => ?_).moves
  obtain rfl | rfl | rfl := standing_cases hs
  · exact hst
  · exact hst
  · change (s.hold.set sp b).get x = true
    rw [PerSpan.get_set]
    split
    · subst x
      cases b
      · exact absurd he (h rfl)
      · rfl
    · exact hst

theorem emptySpan_moves (ht : c.tick = false) (sp : Span) (s : State) : Moves c s (emptySpan sp s) := by
  rw [emptySpan_eq]
  refine .trans ?_ (setHeld_moves fun _ => by rw [shift_st_self]; exact List.not_mem_nil)
  exact shift_moves (.retire ht) (by simp [SpanStatus.Fits, SpanStatus.emptied, SpanStatus.enter]) rfl

theorem enterUnused_moves (ht : c.tick = false) (sp : Span) (s : State) : Moves c s (enterUnused sp s) := by
  unfold enterUnused
  split
  · exact (snuffSpan_moves sp s).trans (emptySpan_moves ht ..)
  · exact emptySpan_moves ht ..

theorem presentChanged_moves (ht : c.tick = false) (sp : Span) (now : Bool) (s : State) : Moves c s (presentChanged sp now s) := by
  unfold presentChanged
  split
  · exact .refl
  next hr =>
    split
    · split
      next hu =>
        have left : Moves c s (leaveUnused sp false s) := leaveUnused_moves false ht (by simpa using hr) fun _ => hu
        dsimp only
        split
        · exact left.trans (raise_moves ..)
        · exact left
      next => exact .refl
    · split
      · exact enterUnused_moves ht ..
      · exact .refl

theorem modeChanged_moves (sp : Span) (s : State) : Moves c s (modeChanged sp s) := by
  unfold modeChanged
  split
  · split
    · exact breakTest_moves ..
    · exact engineRaise_moves ..
  · exact .refl

/-- A step that is taken only where something changed. -/
theorem Moves.unless {p : Prop} [Decidable p] {f : State → State} (h : Moves c s u) (hf : Moves c u (f u)) :
    Moves c s (if p then u else f u) := by
  split
  · exact h
  · exact h.trans hf

/-- A changed neighbour site makes the far word absent and mismatch reported no (R109). -/
def forgetFar (sp : Span) (s : State) : State := clearMismatch sp (s.setSt sp { s.st sp with far := none })

/-- A changed off stage sets the off-timer count to 0 (R145). -/
def restartOff (sp : Span) (s : State) : State := s.setSt sp { s.st sp with offTicks := 0 }

/-- A changed silence stage sets the silence count to 0 (R145). -/
def restartSilence (sp : Span) (s : State) : State := s.setLine sp { s.line sp with silence := 0 }

theorem applySpan_eq (sp : Span) (k : SpanConfig) (s : State) :
    applySpan sp k s =
      let s2 := if k.neighbour = (s.config sp).neighbour then s.setConfig sp k else forgetFar sp (s.setConfig sp k)
      let s3 := if k.offStage = (s.config sp).offStage then s2 else restartOff sp s2
      let s4 := if k.silenceStage = (s.config sp).silenceStage then s3 else restartSilence sp s3
      let s5 := if k.present = (s.config sp).present then s4 else presentChanged sp k.present s4
      if k.mode = (s.config sp).mode then s5 else modeChanged sp s5 := rfl

theorem forgetFar_moves (sp : Span) (s : State) : Moves c s (forgetFar sp s) := by
  refine .trans ?_ (clearMismatch_moves ..)
  have mark : Mark c s sp { s.st sp with far := none } := ⟨rfl, rfl, id, id, fun _ => .inl, .inr (.inr rfl)⟩
  exact (Move.mark sp _ mark).moves

theorem restartOff_moves (sp : Span) (s : State) : Moves c s (restartOff sp s) :=
  mark_moves rfl rfl rfl rfl fun ⟨h1, h2, h3, _, h5⟩ => ⟨fun h => ⟨(h1 h).1, rfl, (h1 h).2.2⟩, h2, h3, Nat.zero_le _, h5⟩

theorem restartSilence_moves (sp : Span) (s : State) : Moves c s (restartSilence sp s) :=
  setLine_moves ⟨id, id, fun _ => Nat.zero_le _⟩ rfl

theorem applySpan_moves {k : SpanConfig} (ht : c.tick = false) (hr : (s.config sp).InRange → k.InRange)
    (hl : k.lockout = (s.config sp).lockout ∨ (k.lockout ≠ 0 → k.lockout ≤ (s.st sp).failures → (s.st sp).state = .locked))
    (hm : c.Loose s sp ∨ k.mode = (s.config sp).mode) : Moves c s (applySpan sp k s) := by
  have stored : Moves c s (s.setConfig sp k) := (Move.config sp k hr hl hm).moves
  have far := stored.unless (p := k.neighbour = (s.config sp).neighbour) (forgetFar_moves sp _)
  have off := far.unless (p := k.offStage = (s.config sp).offStage) (restartOff_moves sp _)
  have silence := off.unless (p := k.silenceStage = (s.config sp).silenceStage) (restartSilence_moves sp _)
  have present := silence.unless (p := k.present = (s.config sp).present) (presentChanged_moves ht sp k.present _)
  rw [applySpan_eq]
  exact present.unless (modeChanged_moves sp _)

theorem ownerWriteSpan_run (sp : Span) (items : List Item) (withheld : List Nat) (s : State) :
    Run false s (ownerWriteSpan sp items withheld s).s := by
  unfold ownerWriteSpan
  dsimp only
  split
  · exact .refl
  next hr =>
    split
    · exact .refl
    next hb =>
      rw [applied_s]
      simp only [Bool.not_eq_true, spanStateBad, Bool.or_eq_false_iff] at hb
      obtain ⟨⟨⟨hm, -⟩, -⟩, hl⟩ := hb
      refine Moves.run (applySpan_moves rfl (spanConfig_write_inRange (by simpa using hr)) ?_ ?_)
      · cases hc : carries items 8
        · exact .inl (written_of_not_carries hc ..)
        · refine .inr fun h0 hle => ?_
          by_contra hs
          rw [hc, decide_eq_true h0, decide_eq_true hle, decide_eq_true hs] at hl
          cases hl
      · refine or_iff_not_imp_right.mpr fun h => .inr (.inr fun hs => ?_)
        rw [decide_eq_true (.inl h), decide_eq_true (.inr hs)] at hm
        cases hm

theorem writeSpan_run (r : Req) (s : State) : Run false s (writeSpan r s).s := by
  unfold writeSpan
  split
  · exact .refl
  · split
    · exact .refl
    · split
      · exact .refl
      · dsimp only
        split
        · exact .refl
        · split
          · exact .refl
          · exact ownerWriteSpan_run ..

end Sys2Proof.Machine
end

section
/-! SUPPORT. Pump requests and the other writes as moves. -/

namespace Sys2Proof.Machine

variable {c : Scope} {s t u : State} {sp : Span} {ch : Chan} {tick : Bool}

/-! ### The completion test of the span a pump lights -/

/-- The span a pump lights is tested next. -/
def Scope.serving (tick : Bool) (p : Pump) : Scope := ⟨tick, fun sp => p.lights = some sp, True⟩

/-- Moves that may serve the span a pump lights, followed by that span's test. -/
theorem tested_run {p : Pump} (h : Moves (.serving tick p) s u) (hl : p.lights = some sp) : Run tick s (completionTest sp u) := by
  have free : ∀ x, (Scope.serving tick p).free x → (Scope.testing tick sp).free x := fun x hx => (Option.some.inj (hl.symm.trans hx)).symm
  exact (Effect.tested sp (Moves.mono (c := .serving tick p) (d := .testing tick sp) rfl free id h)).run

/-- Moves of a pump that lights no span need no test. -/
theorem untested_run {p : Pump} (h : Moves (.serving tick p) s u) (hl : p.lights = none) : Run tick s u := by
  have free : ∀ x, (Scope.serving tick p).free x → (Scope.calm tick).free x := fun x hx => by
    cases hl.symm.trans hx
  exact Moves.run (Moves.mono (c := .serving tick p) (d := .calm tick) rfl free id h)

theorem testCompletion_some (h : (s.pump ch).lights = some sp) : testCompletion ch s = completionTest sp s := by
  simp only [testCompletion, h]

theorem testCompletion_none (h : (s.pump ch).lights = none) : testCompletion ch s = s := by
  simp only [testCompletion, h]

theorem testCompletion_run (h : Moves (.serving tick (u.pump ch)) s u) : Run tick s (testCompletion ch u) := by
  cases hl : (u.pump ch).lights with
  | some sp => rw [testCompletion_some hl]; exact tested_run h hl
  | none => rw [testCompletion_none hl]; exact untested_run h hl

/-- A channel's new record that lights the span it lit before, or one that is out of CONFIRM or in STANDBY. -/
theorem serving_loose {p q : Pump} (h : p.lights = q.lights ∨ ∀ sp, p.lights = some sp → (Scope.serving tick q).Loose s sp) (sp : Span) :
    (Scope.serving tick q).Loose s sp ∨ (p.blocks sp = true → q.blocks sp = true) := by
  cases hb : p.blocks sp
  · exact .inr nofun
  · have hl : p.lights = some sp := of_lights (Pump.blocks_iff p sp |>.mp hb).1
    obtain h | h := h
    · exact .inl (.inl (h.symm.trans hl))
    · exact .inl (h sp hl)

theorem setPump_serving {q : Pump} (hr : (s.pump ch).RatesInRange → q.RatesInRange)
    (h : (s.pump ch).lights = q.lights ∨ ∀ sp, (s.pump ch).lights = some sp → (Scope.serving tick q).Loose s sp) :
    Moves (.serving tick q) s (s.setPump ch q) := setPump_moves hr (serving_loose h)

theorem putPump_serving {q : Pump} (hr : (s.pump ch).RatesInRange → q.RatesInRange)
    (h : (s.pump ch).lights = q.lights ∨ ∀ sp, (s.pump ch).lights = some sp → (Scope.serving tick q).Loose s sp) :
    Moves (.serving tick q) s (s.putPump ch q) := putPump_moves hr (serving_loose h)

theorem riseChannel_serving (x : Nat) : Moves (.serving tick (s.pump ch)) s (riseChannel ch x s) :=
  riseChannel_moves x fun _ h => .inl (of_lights h)

theorem riseChannel_lights (ch : Chan) (x : Nat) (s : State) : ((riseChannel ch x s).pump ch).lights = (s.pump ch).lights := by
  obtain ⟨-, e⟩ | ⟨-, e⟩ := riseChannel_cases ch x s <;> rw [e]
  rw [putPump_pump, if_pos rfl, (takeRise_keeps _ _).lights_eq]

theorem Scope.serving_congr {p q : Pump} (h : p.lights = q.lights) : Scope.serving tick p = Scope.serving tick q := by
  simp only [Scope.serving, h]

/-- RISE from outside: the channel takes it and its span is tested (R84, R30). -/
theorem rise_run (ch : Chan) (x : Nat) (s : State) : Run tick s (testCompletion ch (riseChannel ch x s)) := by
  refine testCompletion_run ?_
  rw [Scope.serving_congr (riseChannel_lights ch x s)]
  exact riseChannel_serving x

/-- A pump channel's step of a tick and the test of its span (R88, R30). -/
theorem stepTick_run (ch : Chan) (s : State) : Run tick s (stepTick ch s) := by
  unfold stepTick
  dsimp only
  refine (Moves.run (forChans_moves takeLink_moves s)).trans ?_
  generalize forChans takeLink s = u
  have keeps := takeStep_keeps (u.pump ch) (u.mayRise (u.pump ch))
  refine testCompletion_run ?_
  rw [State.setPump_pump_self]
  exact setPump_serving keeps.rates (.inl keeps.lights_eq.symm)

/-! ### WRITE_PUMP -/

theorem setpointActs_some (h : (s.pump ch).lights = some sp) :
    setpointActs ch s = completionTest sp
      (if (s.st sp).state = .service ∧ ((s.pump ch).role = .stage → s.lightOf (Config.inSpan (s.pump ch).dir) = .present) then
        riseChannel ch (s.pump ch).service s
      else s) := by
  simp only [setpointActs, h]

theorem setpointActs_none (h : (s.pump ch).lights = none) : setpointActs ch s = s := by
  simp only [setpointActs, h]

theorem setpointActs_run (h : Moves (.serving tick (u.pump ch)) s u) : Run tick s (setpointActs ch u) := by
  cases hl : (u.pump ch).lights with
  | none => rw [setpointActs_none hl]; exact untested_run h hl
  | some sp =>
    rw [setpointActs_some hl]
    refine tested_run (p := u.pump ch) ?_ hl
    split
    · exact h.trans (riseChannel_serving _)
    · exact h

theorem clampWork_rates {p : Pump} (h : p.RatesInRange) : p.clampWork.RatesInRange := by
  have hold (q : Pump) (hq : q.RatesInRange) : q.goHold.RatesInRange := (goHold_keeps q).rates hq
  unfold Pump.clampWork
  dsimp only
  split
  case h_1 | h_2 =>
    split
    · exact hold _ h
    · split <;> exact h
  case h_3 =>
    split
    · exact hold _ h
    · split <;> exact h
  all_goals exact h

/-- A clamp of the work keeps the entry's role, span and direction. -/
theorem clampWork_bindings (p : Pump) : p.clampWork.role = p.role ∧ p.clampWork.span = p.span ∧ p.clampWork.dir = p.dir := by
  unfold Pump.clampWork
  dsimp only
  split
  case h_1 | h_2 =>
    split
    · exact ⟨rfl, rfl, rfl⟩
    · split <;> exact ⟨rfl, rfl, rfl⟩
  case h_3 =>
    split
    · exact ⟨rfl, rfl, rfl⟩
    · split <;> exact ⟨rfl, rfl, rfl⟩
  all_goals exact ⟨rfl, rfl, rfl⟩

theorem lights_of_bindings {p q : Pump} (h : q.role = p.role ∧ q.span = p.span ∧ q.dir = p.dir) : q.lights = p.lights := by
  obtain ⟨h1, h2, h3⟩ := h
  simp only [Pump.lights, h1, h2, h3]

theorem pump_write_rates {p : Pump} {items : List Item} (h : inRanges pumpRanges items = true) (hp : p.RatesInRange) :
    (p.write items).RatesInRange := by
  obtain ⟨h1, h2, h3, h4, h5, h6⟩ := hp
  have up := written_range (code := 7) h rfl ⟨h1, h2⟩
  have down := written_range (code := 8) h rfl ⟨h3, h4⟩
  have minDark := written_range (code := 9) h rfl ⟨Nat.zero_le _, h5⟩
  exact ⟨up.1, up.2, down.1, down.2, minDark.2, h6⟩

/-- A new binding is refused unless the spans lit before and after are dark or the part is in STANDBY (R78). -/
theorem loose_of_pumpStateBad {p p' : Pump} (h : pumpStateBad p p' s = false) (hr : rebinds p p' = true) (hl : p.lights = some sp) :
    c.Loose s sp := by
  simp only [pumpStateBad, hr, Bool.true_and, Bool.or_eq_false_iff, Bool.and_eq_false_iff] at h
  obtain ⟨hrun | ⟨⟨-, hp⟩, -⟩, -⟩ := h
  · exact .inr (.inl hrun)
  · refine .inr (.inr fun hs => ?_)
    simp [State.litSpan, hl, hs, SpanState.lit] at hp

theorem lights_of_not_rebinds {p p' : Pump} (h : rebinds p p' = false) : p'.lights = p.lights := by
  have h' : p'.role = p.role ∧ p'.span = p.span ∧ p'.dir = p.dir := by simpa [rebinds, not_or] using h
  exact lights_of_bindings h'

theorem applyPump_run {p' : Pump} (hr : (s.pump ch).RatesInRange → p'.RatesInRange) (hb : pumpStateBad (s.pump ch) p' s = false) :
    Run tick s (applyPump ch p' s) := by
  unfold applyPump
  dsimp only
  have bindings := clampWork_bindings p'.clampSetpoints
  have rates (h : p'.RatesInRange) : p'.clampSetpoints.clampWork.RatesInRange := clampWork_rates (p := p'.clampSetpoints) h
  generalize p'.clampSetpoints.clampWork = q at bindings rates
  have bound (n : Nat) (x : Option Nat) : ({ q with rise := x, noReply := n } : Pump).lights = p'.lights := lights_of_bindings bindings
  have main (q1 : Pump) (hq : q1.lights = p'.lights) (hq' : p'.RatesInRange → q1.RatesInRange) :
      Run tick s (if q1.service = (s.pump ch).service then
          testCompletion ch (if q1.level < (s.pump ch).level then sendRecord ch (s.putPump ch q1) else s.putPump ch q1)
        else setpointActs ch (if q1.level < (s.pump ch).level then sendRecord ch (s.putPump ch q1) else s.putPump ch q1)) := by
    have put : Moves (.serving tick q1) s (s.putPump ch q1) := by
      refine putPump_serving (hq' ∘ hr) ?_
      cases hre : rebinds (s.pump ch) p'
      · exact .inl (hq.trans (lights_of_not_rebinds hre)).symm
      · exact .inr fun sp hl => loose_of_pumpStateBad hb hre hl
    have sent : Moves (.serving tick q1) s (if q1.level < (s.pump ch).level then sendRecord ch (s.putPump ch q1) else s.putPump ch q1) := by
      split
      · exact put.trans (sendRecord_moves ..)
      · exact put
    have pump : (if q1.level < (s.pump ch).level then sendRecord ch (s.putPump ch q1) else s.putPump ch q1).pump ch = q1 := by
      split
      · rw [sendRecord_spec, State.pump]; exact (putPump_pump s ch ch q1).trans (if_pos rfl)
      · exact (putPump_pump s ch ch q1).trans (if_pos rfl)
    split
    · exact testCompletion_run (by rwa [pump])
    · exact setpointActs_run (by rwa [pump])
  split
  · exact main _ (bound _ _) rates
  · exact main _ (lights_of_bindings bindings) rates

theorem ownerWritePump_run (ch : Chan) (items : List Item) (withheld : List Nat) (s : State) :
    Run false s (ownerWritePump ch items withheld s).s := by
  unfold ownerWritePump
  dsimp only
  split
  · exact .refl
  next hr =>
    split
    · exact .refl
    next hb =>
      rw [applied_s]
      exact applyPump_run (pump_write_rates (by simpa using hr)) (by simpa using hb)

theorem writePump_run (r : Req) (s : State) : Run false s (writePump r s).s := by
  unfold writePump
  split
  · exact .refl
  · split
    · exact .refl
    · split
      · exact .refl
      · dsimp only
        split
        · exact .refl
        · split
          · exact .refl
          · exact ownerWritePump_run ..

theorem ownerSetSetpoint_run (ch : Chan) (v : Nat) (s : State) : Run false s (ownerSetSetpoint ch v s).s := by
  unfold ownerSetSetpoint
  dsimp only
  have acts : Run false s (setpointActs ch (s.setPump ch { s.pump ch with service := min v (s.pump ch).ceiling })) := by
    refine setpointActs_run ?_
    rw [State.setPump_pump_self]
    exact setPump_serving id (.inl rfl)
  split
  · exact .refl
  · split <;> exact acts

theorem setSetpoint_run (r : Req) (s : State) : Run false s (setSetpoint r s).s := by
  unfold setSetpoint
  split
  · split
    · exact .refl
    · dsimp only
      split
      · exact .refl
      · exact ownerSetSetpoint_run ..
  · exact .refl

theorem ownerClearPump_moves (ch : Chan) (s : State) : Moves c s (ownerClearPump ch s).s := by
  unfold ownerClearPump
  dsimp only
  split
  · exact .refl
  · have dark : (s.pump ch).goHold.state = .lit → (s.pump ch).state = .lit := nofun
    exact putPump_moves (goHold_keeps _).rates fun sp => .inr ((goHold_keeps _).blocks dark sp)

theorem clearPump_run (r : Req) (s : State) : Run false s (clearPump r s).s := by
  unfold clearPump
  split
  · split
    · exact .refl
    · dsimp only
      split
      · exact .refl
      · exact Moves.run (ownerClearPump_moves ..)
  · exact .refl

/-- A driver's status record (R99). -/
theorem takeStatus_moves (ch : Chan) (fault : Bool) (s : State) : Moves c s (takeStatus ch fault s) := by
  unfold takeStatus
  dsimp only
  have answered : Moves c s (s.setPump ch { s.pump ch with answered := true, noReply := 0 }) := setPump_link_moves ..
  split
  · exact .refl
  · split
    · exact answered.trans (faultChannel_moves ..)
    · exact answered

end Sys2Proof.Machine
end

section
/-! SUPPORT. The remaining requests, Part Control and the resets as moves. -/

namespace Sys2Proof.Machine

variable {c : Scope} {s t u : State} {sp : Span} {ch : Chan} {tick : Bool}

/-! ### WRITE_MONITOR, WRITE_EVENT, WRITE_INTERLOCK -/

theorem monChan_write_inRange {k : MonChan} {items : List Item} (h : inRanges monitorRanges items = true) (hk : k.InRange) :
    (k.write items).InRange := by
  obtain ⟨h1, h2, h3, h4, h5, h6, h7, h8⟩ := hk
  have offset := written_range (code := 1) h rfl ⟨Nat.zero_le _, h1⟩
  have gain := written_range (code := 2) h rfl ⟨h2, h3⟩
  have window := written_range (code := 3) h rfl ⟨h4, h5⟩
  have substitute := written_range (code := 4) h rfl ⟨Nat.zero_le _, h6⟩
  exact ⟨offset.2, gain.1, gain.2, window.1, window.2, substitute.2, h7, h8⟩

theorem inputChan_write_inRange {k : InputChan} {items : List Item} (h : inRanges monitorRanges items = true)
    (ht : (k.write items).lo ≤ (k.write items).hi) (hk : k.InRange) : (k.write items).InRange := by
  obtain ⟨-, h2, h3, h4, h5, h6, h7, h8⟩ := hk
  have hi := written_range (code := 6) h rfl ⟨Nat.zero_le _, h2⟩
  have nLoss := written_range (code := 7) h rfl ⟨h3, h4⟩
  have nRest := written_range (code := 8) h rfl ⟨h5, h6⟩
  exact ⟨ht, hi.2, nLoss.1, nLoss.2, nRest.1, nRest.2, h7, h8⟩

theorem reflChan_write_inRange {k : ReflChan} {items : List Item} (h : inRanges monitorRanges items = true) (hk : k.InRange) :
    (k.write items).InRange := by
  obtain ⟨h1, h2, h3, h4, h5, h6⟩ := hk
  have floor := written_range (code := 9) h rfl ⟨Nat.zero_le _, h1⟩
  have kRef := written_range (code := 10) h rfl ⟨h2, h3⟩
  have nRef := written_range (code := 11) h rfl ⟨h4, h5⟩
  exact ⟨floor.2, kRef.1, kRef.2, nRef.1, nRef.2, h6⟩

theorem ownerWriteMonitor_moves (ch : Chan) (items : List Item) (s : State) : Moves c s (ownerWriteMonitor ch items s).s := by
  unfold ownerWriteMonitor
  split
  · exact .refl
  next h =>
    obtain ⟨hr, h⟩ := not_or.mp h
    obtain ⟨-, ht⟩ := not_or.mp h
    replace hr : inRanges monitorRanges items = true := by simpa using hr
    have stored : Moves c s (s.setChan ch ((s.chan ch).write items)) := setChan_moves (monChan_write_inRange hr)
    dsimp only
    split
    next sp hm =>
      refine stored.trans (setInp_moves (inputChan_write_inRange hr ?_) (.inr rfl))
      simp only [thresholdsBad, hm, decide_eq_true_eq, not_lt] at ht
      exact ht
    next => exact stored
    next => exact stored.trans (setReflection_moves (reflChan_write_inRange hr))

theorem writeMonitor_moves (r : Req) (s : State) : Moves c s (writeMonitor r s).s := by
  unfold writeMonitor
  split
  · exact .refl
  · split
    · exact .refl
    · split
      · exact .refl
      · split
        · exact .refl
        · exact ownerWriteMonitor_moves ..

/-- What a WRITE_EVENT stores stands at or above the floor (R153). -/
theorem storedAction_floor (e : Event) (a : Action) :
    e.floor.code ≤ (storedAction e a).code ∧ (e.fixed = true → storedAction e a = e.floor) := by
  unfold storedAction
  split
  next h => exact ⟨le_rfl, fun _ => rfl⟩
  next h => exact ⟨not_lt.mp fun g => h (.inr g), fun g => absurd (.inl g) h⟩

theorem event_id_lt (e : Event) : e.id < 32 := by cases e <;> decide

theorem event_id_inj {e e' : Event} (h : e.id = e'.id) : e = e' := by
  revert h; cases e <;> cases e' <;> decide

/-- An event's table entry as a write leaves it (R153). -/
def EvEntry.write (x : EvEntry) (e : Event) (items : List Item) : EvEntry :=
  ⟨written items 2 (fun v => storedAction e (Action.ofCode v)) x.action,
   written items 3 (fun v => storedNotify e (decide (v = 1))) x.notify⟩

theorem ownerWriteEntry_entry (e e' : Event) (items : List Item) (s : State) :
    (ownerWriteEntry e items s).entry e'.id = if e' = e then (s.entry e.id).write e items else s.entry e'.id := by
  have len : s.table.toList.length = 32 := by simp
  simp only [ownerWriteEntry, State.entry, Vector.toList_mk, List.getD_eq_getElem?_getD, List.getElem?_set, len, event_id_lt, if_true]
  by_cases h : e' = e
  · subst h; simp [EvEntry.write]
  · rw [if_neg fun g => h (event_id_inj g.symm), if_neg h]

theorem ownerWriteEntry_floors (e : Event) (items : List Item) (h : s.TableFloors) : (ownerWriteEntry e items s).TableFloors := by
  intro e'
  rw [ownerWriteEntry_entry]
  split
  next he =>
    subst he
    obtain ⟨h1, h2, h3⟩ := h e'
    refine ⟨?_, ?_, ?_⟩
    · simp only [EvEntry.write, written]
      split
      · exact (storedAction_floor ..).1
      · exact h1
    · simp only [EvEntry.write, written]
      split
      · exact (storedAction_floor ..).2
      · exact h2
    · intro hf
      simp only [EvEntry.write, written]
      split
      · simp [storedNotify, hf]
      · exact h3 hf
  next => exact h e'

/-- An entry of the event table is written. -/
theorem ownerWriteEntry_moves (e : Event) (items : List Item) (s : State) : Moves c s (ownerWriteEntry e items s) :=
  (Move.tables _ s.tableLen s.grants s.part rfl (ownerWriteEntry_floors e items) id id).moves

theorem tableLen_moves {n : Nat} (h : s.tableLen ≤ 32 → n ≤ 32) : Moves c s { s with tableLen := n } :=
  (Move.tables s.table n s.grants s.part rfl id h id).moves

theorem ownerWriteEvent_moves (items : List Item) (s : State) : Moves c s (ownerWriteEvent items s).s := by
  unfold ownerWriteEvent
  split
  · exact .refl
  next hr =>
    replace hr : inRanges eventRanges items = true := by simpa using hr
    have len (u : State) (h : u.tableLen = s.tableLen) : Moves c u { u with tableLen := written items 4 id s.tableLen } :=
      tableLen_moves fun hl => (written_range (code := 4) hr rfl ⟨Nat.zero_le _, h ▸ hl⟩).2
    dsimp only
    rw [applied_s]
    split
    · exact (ownerWriteEntry_moves ..).trans (len _ rfl)
    · exact len s rfl

theorem writeEvent_moves (r : Req) (s : State) : Moves c s (writeEvent r s).s := by
  unfold writeEvent
  split
  · exact .refl
  · split
    · exact .refl
    · split
      · exact .refl
      · split
        · exact .refl
        · exact ownerWriteEvent_moves ..

theorem writeInterlock_moves (r : Req) (s : State) : Moves c s (writeInterlock r s).s := by
  unfold writeInterlock
  split
  · exact .refl
  · split
    · exact .refl
    · split
      · exact .refl
      · split
        · exact .refl
        · unfold ownerWriteInterlock
          split
          · exact .refl
          · exact putLine_moves ..

theorem clearInterlock_moves (r : Req) (s : State) : Moves c s (clearInterlock r s).s := by
  unfold clearInterlock
  split
  · split
    · exact .refl
    · split
      · exact .refl
      · exact putLine_moves ..
  · exact .refl

/-! ### SPAN_HOLD, SPAN_RESUME, SPAN_RELEASE, SET_LOOP -/

theorem holdSpan_moves (sp : Span) (s : State) : Moves c s (holdSpan sp s).s := by
  unfold holdSpan
  split
  · exact .refl
  · refine .trans ?_ (raise_moves ..)
    exact setHeld_moves nofun

theorem resumeSpan_moves (sp : Span) (s : State) : Moves c s (resumeSpan sp s).s := by
  change Moves c s (if s.held sp then (endStanding sp .manualHold s).setHeld sp false else s)
  split
  · exact (endStanding_moves ..).trans (setHeld_moves fun _ h => (endStanding_mem h).2 rfl rfl)
  · exact .refl

theorem releaseSpan_moves (ht : c.tick = false) (sp : Span) (s : State) : Moves c s (releaseSpan sp s).s := by
  unfold releaseSpan
  split
  · exact .refl
  next h =>
    have locked : (s.st sp).state = .locked := not_not.mp h
    have released := Shift.release (c := c) ht locked
    change Moves c s (if (s.line sp).loop = .normal then _ else _)
    split
    next hl =>
      rw [enterWait_eq, shift_setSt, State.setSt_st_self]
      refine shift_moves ?_ (by simp [SpanStatus.Fits, SpanStatus.enter]) rfl
      simpa [State.restState, hl, SpanStatus.enter] using released
    next hl =>
      rw [enterMaint_eq, shift_setSt, State.setSt_st_self]
      refine shift_moves ?_ (by simp [SpanStatus.Fits, SpanStatus.enter]) rfl
      simpa [State.restState, hl, SpanStatus.enter] using released

theorem spanHold_moves (r : Req) (s : State) : Moves c s (spanHold r s).s := by
  unfold spanHold
  split
  · split
    · exact .refl
    · exact holdSpan_moves ..
  · exact .refl

theorem spanResume_moves (r : Req) (s : State) : Moves c s (spanResume r s).s := by
  unfold spanResume
  split
  · split
    · exact .refl
    · split
      · exact .refl
      · exact resumeSpan_moves ..
  · exact .refl

theorem spanRelease_moves (ht : c.tick = false) (r : Req) (s : State) : Moves c s (spanRelease r s).s := by
  unfold spanRelease
  split
  · split
    · exact .refl
    · split
      · exact .refl
      · exact releaseSpan_moves ht ..
  · exact .refl

/-- A new loop mode, with mismatch reported no (R189). -/
def putLoop (sp : Span) (m : Loop) (s : State) : State := s.setLine sp { s.line sp with loop := m, mismatch := false }

@[simp] theorem putLoop_st (sp x : Span) (m : Loop) (s : State) : (putLoop sp m s).st x = s.st x := rfl

theorem loopPort_moves (ht : c.tick = false) (sp : Span) (m : Loop) (s : State) : Moves c s (loopPort sp m s).s := by
  unfold loopPort
  split
  · exact .refl
  next hb =>
    split
    · exact .refl
    next hm =>
      change Moves c s (loopMoves sp (s.line sp).loop m (putLoop sp m s))
      have stay (h : s.part.run = true → (s.st sp).state = .unused ∨ (m ≠ .normal ∧ (s.st sp).state = .maint)
          ∨ ((s.st sp).state = .locked ∨ (s.st sp).state = .wait) ∧ (s.line sp).loop ≠ .normal) : Moves c s (putLoop sp m s) :=
        (Move.reloop sp m ht h).moves
      have dark (h : (s.st sp).state.lit = true ∨ (s.st sp).state = .shut) : Moves c s (putLoop sp m s) :=
        stay fun hr => absurd ⟨hr, h⟩ hb
      have toMaint (h : (s.st sp).state = .wait ∨ (s.st sp).state = .locked) :
          Moves c s (if (s.line sp).loop = .normal then enterMaint sp (putLoop sp m s) else putLoop sp m s) := by
        split
        next hn =>
          rw [enterMaint_eq]
          refine (Move.remode (s := s) sp m { (s.st sp).enter .maint false with failures := 0 } ht
            (.toMaint m h fun g => hm (hn.trans g.symm)) rfl ?_ rfl).moves
          simp [SpanStatus.Fits, SpanStatus.enter]
        next hn => exact stay fun _ => .inr (.inr ⟨h.symm, hn⟩)
      unfold loopMoves
      rw [putLoop_st]
      split
      next h => exact toMaint (.inl h)
      next h => exact toMaint (.inr h)
      next h =>
        split
        next hn =>
          subst hn
          rw [enterWait_eq]
          refine (Move.remode (s := s) sp .normal { (s.st sp).enter .wait false with offExpired := false } ht (.toWait h) rfl ?_ rfl).moves
          simp [SpanStatus.Fits, SpanStatus.enter]
        next hn => exact stay fun _ => .inr (.inl ⟨hn, h⟩)
      next h => exact stay fun _ => .inl h
      next h => exact dark (.inr h)
      all_goals next h => exact dark (.inl (by rw [h]; rfl))

theorem setLoop_moves (ht : c.tick = false) (r : Req) (s : State) : Moves c s (setLoop r s).s := by
  unfold setLoop
  split
  · split
    · exact .refl
    · split
      · exact .refl
      · exact loopPort_moves ht ..
  · exact .refl

/-! ### WRITE_PART, WRITE_GRANTS -/

theorem part_write_run (p : Part) (items : List Item) : (p.write items).run = p.run := rfl

theorem site_written {items : List Item} {code : Nat} {old : Site} (h : inRanges partRanges items = true)
    (hr : partRanges[code - 1]? = some (0, 1022)) (hold : old.toNat ≤ 1022) :
    (written items code (BitVec.ofNat 10) old).toNat ≤ 1022 :=
  written_holds (P := fun x : Site => x.toNat ≤ 1022) h hr hold fun v _ h2 => by
    rw [BitVec.toNat_ofNat, Nat.mod_eq_of_lt (by omega)]; exact h2

theorem writePart_records {items : List Item} (h : inRanges partRanges items = true) (hs : s.RecordsInRange) :
    { s with part := s.part.write items }.RecordsInRange := by
  obtain ⟨h1, h2, h3, h4, h5, h6, h7⟩ := hs
  have classMin := written_range (code := 4) h rfl ⟨Nat.zero_le _, h5⟩
  have settle := written_range (code := 5) h rfl ⟨h6, h7⟩
  exact ⟨h1, h2, site_written h rfl h3, site_written h rfl h4, classMin.2, settle.1, settle.2⟩

theorem ownerWritePart_moves (first : Bool) (items : List Item) (s : State) : Moves c s (ownerWritePart first items s).s := by
  unfold ownerWritePart
  split
  · exact .refl
  next hr =>
    have stored : Moves c s { s with part := s.part.write items } :=
      (Move.tables s.table s.tableLen s.grants (s.part.write items) rfl id id (writePart_records (by simpa using hr))).moves
    have named : Moves c s (if (s.part.write items).site = s.part.site then { s with part := s.part.write items }
        else clearMismatch .es (clearMismatch .ws { s with part := s.part.write items })) := by
      split
      · exact stored
      · exact stored.trans ((clearMismatch_moves ..).trans (clearMismatch_moves ..))
    dsimp only
    split
    · exact named
    · split
      · exact named
      · exact named.trans (departNotices_moves _)

theorem writePart_moves (r : Req) (s : State) : Moves c s (writePart r s).s := by
  unfold writePart
  split
  · exact .refl
  · split
    · exact .refl
    · exact ownerWritePart_moves ..

theorem ownerWriteGrants_moves (items : List Item) (s : State) : Moves c s (ownerWriteGrants items s).s := by
  unfold ownerWriteGrants
  dsimp only
  split
  · exact .refl
  next h =>
    obtain ⟨-, h⟩ := not_or.mp h
    obtain ⟨hn, hm⟩ := not_or.mp h
    have le {code bound old : Nat} (hb : ¬ bound < (itemVal items code).getD 0) (ho : old ≤ bound) :
        written items code id old ≤ bound := by
      unfold written
      split
      next v e => rw [e] at hb; exact not_lt.mp hb
      next => exact ho
    refine (Move.tables s.table s.tableLen _ s.part rfl id id fun hs => ?_).moves
    obtain ⟨h1, h2, hs⟩ := hs
    exact ⟨le hn h1, le hm h2, hs⟩

theorem writeGrants_moves (r : Req) (s : State) : Moves c s (writeGrants r s).s := by
  unfold writeGrants
  split
  · exact .refl
  · split
    · exact .refl
    · exact ownerWriteGrants_moves ..

end Sys2Proof.Machine
end

section
/-! SUPPORT. Part Control, the frame path, the Time Base and the resets as moves: every step of the part is a run of effects. -/

namespace Sys2Proof.Machine

open Relation (ReflTransGen)

variable {c : Scope} {s t u : State} {sp : Span} {ch : Chan} {tick : Bool}

/-! ### START, HALT, CLEAR -/

@[simp] theorem raiseActive_st (sp x : Span) (line : Option Chan) (s : State) : (raiseActive sp line s).st x = s.st x := by
  cases line <;> rfl

@[simp] theorem raiseActive_part (sp : Span) (line : Option Chan) (s : State) : (raiseActive sp line s).part = s.part := by
  cases line <;> rfl

theorem startSpan_part (sp : Span) (s : State) : (startSpan sp s).part = s.part := by
  unfold startSpan
  split
  · rw [leaveUnused_eq, raiseActive_part]; rfl
  · rfl

theorem startSpan_st_other (sp : Span) (s : State) : (startSpan sp s).st sp.other = s.st sp.other := by
  unfold startSpan
  split
  · rw [leaveUnused_eq, raiseActive_st, shift_st_other]
  · rfl

theorem startSpan_moves (ht : c.tick = false) (hr : s.part.run = true) (hu : c.standby → (s.st sp).state = .unused) :
    Moves c s (startSpan sp s) := by
  unfold startSpan
  split
  · exact leaveUnused_moves true ht hr hu
  · exact .refl

theorem startSupply_moves (s : State) : Moves c s (startSupply s) := by
  unfold startSupply
  split
  · exact raise_moves ..
  · exact .refl

theorem startPart_run (hr : s.part.run = false) : Run false s (startPart s) := by
  refine (Effect.started ?_).run
  have unused (h : s.StandbyUnused) (x : Span) : (s.st x).state = .unused := h hr x
  have on : Moves { Scope.calm false with standby := s.StandbyUnused } s (setRun true s) := (Move.go rfl hr).moves
  have ws := startSpan_moves (c := { Scope.calm false with standby := s.StandbyUnused }) (s := setRun true s) (sp := .ws) rfl rfl
    fun h => unused h .ws
  have es := startSpan_moves (c := { Scope.calm false with standby := s.StandbyUnused }) (s := startSpan .ws (setRun true s)) (sp := .es)
    rfl (by rw [startSpan_part]; rfl) fun h => by
      rw [show Span.es = Span.ws.other from rfl, startSpan_st_other]; exact unused h .es
  exact on.trans (ws.trans (es.trans ((startSupply_moves _).trans
    ((clearMismatch_moves ..).trans ((clearMismatch_moves ..).trans (raise_moves ..))))))

theorem haltSpan_moves (ht : c.tick = false) (sp : Span) (s : State) : Moves c s (haltSpan sp s) := by
  unfold haltSpan
  split
  · exact .refl
  · exact emptySpan_moves ht ..

theorem haltSpan_st_self (sp : Span) (s : State) : ((haltSpan sp s).st sp).state = .unused := by
  unfold haltSpan
  split
  next h => exact h
  next => rw [emptySpan_eq, State.setHeld_st, shift_st_self]; rfl

theorem haltSpan_st_other (sp : Span) (s : State) : (haltSpan sp s).st sp.other = s.st sp.other := by
  unfold haltSpan
  split
  · rfl
  · rw [emptySpan_eq, State.setHeld_st, shift_st_other]

theorem haltPart_moves (ht : c.tick = false) (s : State) : Moves c s (haltPart s) := by
  unfold haltPart
  have halted : Moves c s (haltSpan .es (haltSpan .ws (snuffAll s))) :=
    (snuffAll_moves s).trans ((haltSpan_moves ht ..).trans (haltSpan_moves ht ..))
  have unused : ∀ sp, ((haltSpan .es (haltSpan .ws (snuffAll s))).st sp).state = .unused := by
    intro sp
    cases sp
    · rw [show Span.ws = Span.es.other from rfl, haltSpan_st_other]; exact haltSpan_st_self ..
    · exact haltSpan_st_self ..
  exact halted.trans (Move.stop ht unused).moves

theorem clearSpan_moves (sp : Span) (s : State) : Moves c s (clearSpan sp s) := by
  unfold clearSpan
  have mark : Mark c s sp { s.st sp with far := none, tag := 0 } := ⟨rfl, rfl, id, id, fun _ => .inl, .inr (.inr rfl)⟩
  refine (Move.mark sp _ mark).moves.trans (setSlots_moves fun _ => ⟨by simp, fun x hx => ?_⟩)
  rw [List.eq_of_mem_replicate hx]
  exact Nat.zero_le _

theorem cleared_inRange {k : InputChan} (h : k.InRange) : k.cleared.InRange := by
  obtain ⟨h1, h2, h3, h4, h5, h6, -, -⟩ := h
  unfold InputChan.cleared
  split <;> exact ⟨h1, h2, h3, h4, h5, h6, Nat.zero_le _, fun _ => rfl⟩

theorem clearInput_run (sp : Span) (s : State) : Run tick s (clearInput sp s) := lightChanged_run cleared_inRange

/-- CLEAR's effect on the ports (R103, R188). -/
def clearPorts (s : State) : State :=
  { s with lines := ⟨(s.line .ws).cleared, (s.line .es).cleared⟩, localPort := s.localPort.cleared }

/-- CLEAR's effect on the reflection channels (R63, R188). -/
def clearRuns (s : State) : State :=
  { s with refl := ⟨{ s.reflection .ws with run := 0 }, { s.reflection .es with run := 0 }⟩ }

/-- CLEAR's effect on the missing answers of the pump channels (R188). -/
def clearReplies (s : State) : State := { s with pumps := s.pumps.map fun p => { p with noReply := 0 } }

theorem clearPorts_moves (s : State) : Moves c s (clearPorts s) := by
  refine (Move.ports _ _ (fun _ => ⟨fun p => ?_, fun sp => ?_⟩) fun sp => ?_).moves
  · cases p <;> exact ⟨Nat.zero_le _, Nat.zero_le _⟩
  · cases sp <;> exact Nat.zero_le _
  · cases sp <;> rfl

theorem clearRuns_moves (s : State) : Moves c s (clearRuns s) := by
  have powers (h : s.PowersInRange) : (clearRuns s).PowersInRange := by
    refine ⟨h.1, fun sp => ?_⟩
    obtain ⟨hi, ⟨h1, h2, h3, h4, h5, -⟩, hl⟩ := h.2 sp
    refine ⟨hi, ?_, hl⟩
    cases sp <;> exact ⟨h1, h2, h3, h4, h5, Nat.zero_le _⟩
  exact (Move.powers s.mon s.input _ s.ring powers fun _ => .inr rfl).moves

theorem clearReplies_moves (s : State) : Moves c s (clearReplies s) := by
  have e (ch : Chan) : (s.pumps.map fun p => { p with noReply := 0 })[ch] = { s.pump ch with noReply := 0 } := by
    simp [State.pump]
  refine (Move.pumps (s.pumps.map fun p => { p with noReply := 0 }) (fun ch h => ?_) fun ch sp => .inr fun h => ?_).moves
  · rw [e ch]; exact h
  · rw [e ch]; exact h

theorem clearPart_eq (s : State) :
    clearPart s =
      let u := clearInput .es (clearInput .ws (clearSpan .es (clearSpan .ws (if s.part.run then haltPart s else snuffAll s))))
      raisePartState (clearReplies (clearRuns { clearPorts u with notices := [] })) := by
  unfold clearPart
  dsimp only
  generalize clearInput .es _ = u
  rfl

theorem clearPart_run (s : State) : Run false s (clearPart s) := by
  have dark : Run false s (if s.part.run then haltPart s else snuffAll s) := by
    split
    · exact Moves.run (haltPart_moves rfl s)
    · exact Moves.run (snuffAll_moves s)
  have spans (u : State) : Run false u (clearSpan .es (clearSpan .ws u)) := Moves.run ((clearSpan_moves ..).trans (clearSpan_moves ..))
  have inputs (u : State) : Run false u (clearInput .es (clearInput .ws u)) := (clearInput_run ..).trans (clearInput_run ..)
  have ports (u : State) : Run false u { clearPorts u with notices := [] } :=
    Moves.run ((clearPorts_moves u).trans (.of_aside rfl))
  have rest (u : State) : Run false u (raisePartState (clearReplies (clearRuns u))) :=
    Moves.run ((clearRuns_moves u).trans ((clearReplies_moves _).trans (raise_moves ..)))
  rw [clearPart_eq]
  exact dark.trans ((spans _).trans ((inputs _).trans ((ports _).trans (rest _))))

theorem startReq_run (r : Req) (s : State) : Run false s (startReq r s).s := by
  unfold startReq
  split
  · exact .refl
  · split
    · exact .refl
    · split
      · exact .refl
      next h => exact startPart_run (by simpa using h)

theorem haltReq_run (r : Req) (s : State) : Run false s (haltReq r s).s := by
  unfold haltReq
  split
  · exact .refl
  · split
    · exact .refl
    · split
      · exact .refl
      · exact Moves.run ((haltPart_moves rfl s).trans (raise_moves ..))

theorem clearReq_run (r : Req) (s : State) : Run false s (clearReq r s).s := by
  unfold clearReq
  split
  · exact .refl
  · split
    · exact .refl
    · exact clearPart_run s

theorem readReq_s (r : Req) (s : State) : (readReq r s).s = s := by
  unfold readReq
  split
  · split <;> rfl
  · rfl

/-! ### The Request Handler -/

theorem sendReply_run {kind : BitVec 5} {r : Req} {a : Answer} (h : Run tick s a.s) : Run tick s (sendReply kind r a) :=
  h.trans (Moves.run (sendReply_moves ..))

/-- One kind of request or the others. -/
theorem Run.kind {p : Prop} [Decidable p] {a b : Answer} (ha : Run tick s a.s) (hb : Run tick s b.s) :
    Run tick s (if p then a else b).s := by
  split
  · exact ha
  · exact hb

theorem answer_run (kind : BitVec 5) (r : Req) (s : State) : Run false s (answer kind r s).s := by
  unfold answer
  refine Run.kind (by rw [readReq_s]; exact .refl) ?_
  refine Run.kind (writeSpan_run r s) ?_
  refine Run.kind (writePump_run r s) ?_
  refine Run.kind (setSetpoint_run r s) ?_
  refine Run.kind (clearPump_run r s) ?_
  refine Run.kind (Moves.run (writeMonitor_moves r s)) ?_
  refine Run.kind (Moves.run (writeEvent_moves r s)) ?_
  refine Run.kind (Moves.run (writeInterlock_moves r s)) ?_
  refine Run.kind (Moves.run (clearInterlock_moves r s)) ?_
  refine Run.kind (Moves.run (spanHold_moves r s)) ?_
  refine Run.kind (Moves.run (spanResume_moves r s)) ?_
  refine Run.kind (Moves.run (spanRelease_moves rfl r s)) ?_
  refine Run.kind (Moves.run (setLoop_moves rfl r s)) ?_
  refine Run.kind (Moves.run (writePart_moves r s)) ?_
  refine Run.kind (startReq_run r s) ?_
  refine Run.kind (haltReq_run r s) ?_
  refine Run.kind (Moves.run (writeGrants_moves r s)) ?_
  exact Run.kind (clearReq_run r s) .refl

theorem takeRequest_run (kind : BitVec 5) (r : Req) (s : State) : Run false s (takeRequest kind r s) := sendReply_run (answer_run ..)

/-! ### Frames -/

/-- Marks of a span whose completion test follows, or that is not in CONFIRM. -/
theorem setFar_moves {w : SpanWord} (h : c.Loose s sp) : Moves c s (s.setSt sp { s.st sp with far := some w }) := by
  have mark : Mark c s sp { s.st sp with far := some w } := ⟨rfl, rfl, id, id, fun _ => .inl, .inl h⟩
  exact (Move.mark sp _ mark).moves

theorem farShut_moves (sp : Span) (b : Bool) (s : State) :
    Moves c s (if b then engineRaise sp .farShut (.port sp.port) s else s) := by
  split
  · exact engineRaise_moves ..
  · exact .refl

/-- The far word is replaced and the engine makes its tests (R23, R30, R47, R48). -/
theorem frameTests_run (sp : Span) (w : SpanWord) (s : State) :
    Run tick s (frameTests sp w (s.setSt sp { s.st sp with far := some w })) := by
  have far (h : (s.st sp).state ≠ .confirm) : Run tick s (s.setSt sp { s.st sp with far := some w }) :=
    Moves.run (setFar_moves (.inr (.inr h)))
  have served : Moves (.testing tick sp) s (s.setSt sp { s.st sp with far := some w }) := setFar_moves (.inl rfl)
  have st : ((s.setSt sp { s.st sp with far := some w }).st sp).state = (s.st sp).state := by rw [State.setSt_st_self]
  generalize s.setSt sp { s.st sp with far := some w } = u at far served st ⊢
  unfold frameTests
  split
  next h => exact (far (by rw [← st, h]; decide)).trans (Moves.run (farShut_moves ..))
  next h => exact (Effect.tested sp (served.trans (farShut_moves ..))).run
  next h =>
    refine (far (by rw [← st, h]; decide)).trans ?_
    split
    · exact Moves.run (mark_moves rfl rfl rfl rfl fun hf => ⟨fun g => absurd h g, hf.2⟩)
    · exact .refl
  next h =>
    refine (far (by rw [← st, h]; decide)).trans ?_
    split
    all_goals
      split
      · exact enterConfirm_run h
      · exact .refl
  all_goals next h => exact far (by rw [← st, h]; decide)

theorem validWord_run (sp : Span) (w : SpanWord) (s : State) : Run tick s (validWord sp w s) := by
  unfold validWord
  refine .trans ?_ (frameTests_run sp w _)
  exact Moves.run (setLine_moves ⟨id, id, fun _ => Nat.zero_le _⟩ rfl)

theorem takeWord_run (sp : Span) (w : SpanWord) (s : State) : Run tick s (takeWord sp w s) := by
  unfold takeWord
  split
  · exact validWord_run ..
  · unfold strangeWord
    split
    · exact .refl
    · refine Moves.run (.trans ?_ (raise_moves ..))
      exact setLine_moves ⟨id, id, id⟩ rfl

theorem forwardMsg_moves (sp : Span) (m : Msg) (s : State) : Moves c s (forwardMsg sp m s) := by
  unfold forwardMsg
  split
  · exact .refl
  · exact toForwardQueue_moves ..

theorem handOn_run (sp : Span) (race : Race) (m : Msg) (s : State) : Run false s (handOn sp race m s) := by
  unfold handOn
  split
  · exact takeRequest_run ..
  · exact Moves.run (toLocalQueue_moves ..)

theorem inOrder_run {f g : State → State} (hf : ∀ s, Run tick s (f s)) (hg : ∀ s, Run tick s (g s)) (swapped : Bool) (s : State) :
    Run tick s (inOrder swapped f g s) := by
  obtain e | e := inOrder_cases swapped f g s <;> rw [e]
  · exact (hf s).trans (hg _)
  · exact (hg s).trans (hf _)

theorem routeLine_run (sp : Span) (race : Race) (m : Msg) (s : State) : Run false s (routeLine sp race m s) := by
  have forward (s : State) : Run false s (forwardMsg sp m s) := Moves.run (forwardMsg_moves ..)
  unfold routeLine
  split_ifs
  · exact .refl
  · exact handOn_run ..
  · exact inOrder_run (handOn_run sp race m) forward ..
  · exact forward s

theorem routeLocal_run (race : Race) (m : Msg) (s : State) : Run false s (routeLocal race m s) := by
  have handle (s : State) : Run false s ((if Config.isRequestKind m.kind then takeRequest m.kind (m.request .loc race) else id) s) := by
    split
    · exact takeRequest_run ..
    · exact .refl
  have send (s : State) : Run false s (s.toLocalQueue (dirPort m.dir) m) := Moves.run (toLocalQueue_moves ..)
  unfold routeLocal
  dsimp only
  generalize (if Config.isRequestKind m.kind then takeRequest m.kind (m.request .loc race) else id) = taken at handle ⊢
  split_ifs
  · exact handle s
  · exact inOrder_run handle send ..
  · exact send s

theorem withMsg_run {f : Msg → State → State} (hf : ∀ m s, Run false s (f m s)) (m : Option Msg) (s : State) :
    Run false s (withMsg m f s) := by
  cases m
  · exact .refl
  · exact hf ..

theorem takeFrame_run (p : Port) (race : Race) (w : SpanWord) (m : Option Msg) (s : State) :
    Run false s (takeFrame p race w m s) := by
  cases p
  · exact inOrder_run (takeWord_run .ws w) (withMsg_run (routeLine_run .ws race) m) ..
  · exact inOrder_run (takeWord_run .es w) (withMsg_run (routeLine_run .es race) m) ..
  · exact withMsg_run (routeLocal_run race) m s

/-- A receiver works off its bytes frame by frame. -/
theorem receive_run (p : Port) (race : Race) (fuel : Nat) (s : State) : Run false s (receive p race fuel s) := by
  induction fuel generalizing s with
  | zero => exact .refl
  | succ fuel ih =>
    unfold receive
    split
    · exact .refl
    · exact Moves.run ((countDiscard_moves ..).trans (setRx_moves ..))
    · exact (Moves.run ((countDiscard_moves ..).trans (setRx_moves ..))).trans (ih _)
    · exact (Moves.run ((countKept_moves ..).trans (setRx_moves ..))).trans ((takeFrame_run ..).trans (ih _))

theorem takeBytes_run (p : Port) (race : Race) (bytes : List Byte) (s : State) : Run false s (takeBytes p race bytes s) := by
  unfold takeBytes
  dsimp only
  split
  · exact .refl
  · exact (Moves.run (setRx_moves ..)).trans (receive_run ..)

theorem frameArrives_run (p : Port) (race : Race) (bytes : List Byte) (s : State) : Run false s (frameArrives p race bytes s) := by
  unfold frameArrives
  split
  · exact .refl
  · exact takeBytes_run ..

theorem idleArrives_moves (p : Port) (s : State) : Moves c s (idleArrives p s) := by
  unfold idleArrives
  split
  · exact .refl
  · refine .trans ?_ (setRx_moves ..)
    split
    · exact .refl
    · exact countDiscard_moves ..

/-! ### Slot starts -/

theorem arbitrate_counts (l : LinePort) : l.CountsKept l.arbitrate.2 ∧ l.arbitrate.2.loop = l.loop := by
  unfold LinePort.arbitrate
  split
  case h_4 => split <;> exact ⟨⟨id, id, id⟩, rfl⟩
  all_goals exact ⟨⟨id, id, id⟩, rfl⟩

theorem sendLine_moves (sp : Span) (s : State) : Moves c s (sendLine sp s) := by
  obtain ⟨⟨h1, h2, h3⟩, hl⟩ := arbitrate_counts (s.line sp)
  unfold sendLine
  dsimp only
  split
  · exact setLine_moves ⟨h1, h2, h3⟩ hl
  · refine .trans ?_ (emit_moves ..)
    exact setLine_moves ⟨h1, h2, h3⟩ hl

theorem sendLocal_moves (s : State) : Moves c s (sendLocal s) := by
  refine Moves.trans (t := s.setBase .loc { s.localPort with queue := s.localPort.queue.tail, sending := some s.localFrame }) ?_
    (emit_moves ..)
  exact setBase_moves id id

theorem loopBack_run (sp : Span) (race : Race) (bytes : List Byte) (s : State) : Run false s (loopBack sp race bytes s) := by
  unfold loopBack
  split
  · exact takeBytes_run ..
  · exact .refl

theorem latchLoop_keeps (l : LinePort) : l.CountsKept l.latchLoop ∧ l.latchLoop.loop = l.loop := by
  unfold LinePort.latchLoop
  split <;> exact ⟨⟨id, id, id⟩, rfl⟩

/-- The loop modes take effect on both line ports (R105). -/
theorem latch_moves (s : State) : Moves c s { s with lines := ⟨(s.line .ws).latchLoop, (s.line .es).latchLoop⟩ } := by
  have ws : Moves c s (s.setLine .ws (s.line .ws).latchLoop) := setLine_moves (latchLoop_keeps _).1 (latchLoop_keeps _).2
  have es : Moves c (s.setLine .ws (s.line .ws).latchLoop) ((s.setLine .ws (s.line .ws).latchLoop).setLine .es (s.line .es).latchLoop) :=
    setLine_moves (latchLoop_keeps _).1 (latchLoop_keeps _).2
  exact ws.trans es

theorem time_moves {time : TimeBase} (h : s.time.InRange → time.InRange) : Moves c s { s with time := time } :=
  (Move.aside time s.notices s.raised s.pins.interlock s.pins.supplyGood s.pins.resetLine s.owed s.out s.pending h).moves

theorem startSlot_run (race : Race) (eastFirst : Bool) (s : State) : Run false s (startSlot race eastFirst s) := by
  unfold startSlot
  split
  next h =>
    dsimp only
    have begun : Moves (.calm false) s { s with
        time := { s.time with prescaler := Config.slotPeriods * s.time.slotNext, slotNext := s.time.slotNext + 1 }
        lines := ⟨(s.line .ws).latchLoop, (s.line .es).latchLoop⟩ } := by
      refine .trans (time_moves fun _ => ?_) (latch_moves _)
      simp only [Config.slotsPerTick] at h
      simp only [TimeBase.InRange, Config.slotPeriods]
      omega
    refine (Moves.run begun).trans ?_
    refine (Moves.run ((sendLine_moves .ws _).trans ((sendLine_moves .es _).trans (sendLocal_moves _)))).trans ?_
    exact inOrder_run (fun _ => Moves.run (departNotices_moves _)) (inOrder_run (loopBack_run .ws race _) (loopBack_run .es race _) eastFirst) ..
  next => exact .refl

/-! ### Ticks -/

theorem runJob_run (j : TickJob) (s : State) : Run true s (runJob j s) := by
  cases j with
  | silence sp => exact Moves.run (silenceTick_moves sp s)
  | offTimer sp => exact Moves.run (offTick_moves sp s)
  | slot sp => exact slotTick_run sp s
  | monitor ch => exact monitorTick_run ch s
  | interlock n => exact Moves.run (interlockTick_moves n s)
  | check ch => exact Moves.run (checkTick_moves ch s)
  | link ch => exact Moves.run (linkTick_moves ch s)
  | step ch => exact stepTick_run ch s
  | settle => exact Moves.run (settleTick_moves s)

theorem takeJob_run (j : TickJob) (s : State) : Run true s (takeJob j s) := by
  unfold takeJob
  split
  · exact (Moves.run (dropJob_moves ..)).trans (runJob_run ..)
  · exact .refl

theorem takeJobs_run (js : List TickJob) (s : State) : Run true s (takeJobs js s) := by
  refine takeJobs_induct (P := Run true s) (fun j u h => h.trans (takeJob_run j u)) js .refl

theorem giveTick_run (levels : BitVec 8) (order : List TickJob) (s : State) : Run true s (giveTick levels order s) := by
  refine (takeJobs_run s.owed s).trans (.trans (Moves.run ?_) (takeJobs_run order _))
  generalize takeJobs s.owed s = u
  exact (Move.aside ⟨0, 0, u.time.tickCount + 1⟩ u.notices u.raised levels u.pins.supplyGood u.pins.resetLine Config.allJobs u.out
    u.pending fun _ => ⟨Nat.zero_lt_succ _, Nat.zero_le _⟩).moves

theorem takeWhere_run (j : TickJob) (happens : State → State → Bool) (s : State) : Run true s (takeWhere j happens s) := by
  unfold takeWhere
  split
  · exact takeJob_run ..
  · exact .refl

/-! ### Resets -/

theorem supplyFromLine_state (high : Bool) : (supplyFromLine high).state ≠ .good := by cases high <;> decide

theorem supplyFromLine_inRange (high : Bool) : (supplyFromLine high).InRange := by
  cases high
  · exact ⟨Nat.zero_le _, nofun⟩
  · exact ⟨Nat.zero_le _, fun _ => by decide⟩

/-- The pins that the outside drives, with outputs. -/
theorem pins_moves (s : State) (interlock : BitVec 8) (supplyGood resetLine : Bool) (out : List Output) :
    Moves c s { s with
      out := out
      pins := { s.pins with interlock := interlock, supplyGood := supplyGood, resetLine := resetLine } } :=
  (Move.aside s.time s.notices s.raised interlock supplyGood resetLine s.owed out s.pending id).moves

theorem assertReset_moves (ht : c.tick = false) (w e l : Bool) (s : State) : Moves c s (assertReset w e l s) :=
  (Move.reset ht).moves.trans (pins_moves ..)

theorem releaseReset_moves (s : State) : Moves c s (releaseReset s) := by
  unfold releaseReset
  split
  · have supply : Moves c s { s with supply := supplyFromLine s.pins.supplyGood } :=
      setSupply_moves (fun _ _ => supplyFromLine_inRange _) fun h => absurd h (supplyFromLine_state _)
    exact supply.trans (pins_moves ..)
  · exact fresh_moves s

/-! ### Steps -/

theorem unlessReset_run {f : State → State} (h : Run tick s.fresh (f s.fresh)) : Run tick s (s.unlessReset f) :=
  unlessReset_induct (P := Run tick s) (Moves.run (fresh_moves s)) fun g => g.trans h

theorem exists_run {o : Host.Outcome State Fault Refusal} (h : o = .next t) (ho : o = .next u) (hr : Run tick s u) :
    ∃ b, Run b s t := by
  obtain rfl : u = t := Host.Outcome.next.inj (ho.symm.trans h)
  exact ⟨tick, hr⟩

theorem request_run {kind : BitVec 5} {r : Req} {f : Req → State → Answer} (h : ∀ s, Run false s (f r s).s) (s : State) :
    Run false s (s.unlessReset fun s => sendReply kind r (f r s)) := unlessReset_run (sendReply_run (h _))

/-- Every command that is taken is a run of effects. -/
theorem exec_run {i : Instr} (h : exec i s = .next t) : ∃ tick, Run tick s t := by
  cases i with
  | powerOnReset => exact exists_run h rfl (Moves.run (Move.reset (c := .calm false) rfl).moves)
  | resetAssert w e l => exact exists_run h rfl (Moves.run (assertReset_moves (c := .calm false) rfl w e l s))
  | resetRelease => exact exists_run h rfl (Moves.run (tick := false) (releaseReset_moves s))
  | tick levels order => exact exists_run h rfl (unlessReset_run (giveTick_run levels order _))
  | slotStart race eastFirst => exact exists_run h rfl (unlessReset_run (startSlot_run race eastFirst _))
  | offExpired sp => exact exists_run h rfl (unlessReset_run (takeWhere_run ..))
  | portSilent sp => exact exists_run h rfl (unlessReset_run (takeWhere_run ..))
  | darkTimeout sp => exact exists_run h rfl (unlessReset_run (takeWhere_run ..))
  | confirmTimeout sp => exact exists_run h rfl (unlessReset_run (takeWhere_run ..))
  | probeExpiry sp => exact exists_run h rfl (unlessReset_run (takeWhere_run ..))
  | pulseEnd ch => exact exists_run h rfl (unlessReset_run (takeWhere_run ..))
  | minDarkEnd ch => exact exists_run h rfl (unlessReset_run (takeWhere_run ..))
  | rampComplete ch => exact exists_run h rfl (unlessReset_run (takeWhere_run ..))
  | monitorStale ch => exact exists_run h rfl (unlessReset_run (takeWhere_run ..))
  | driverLost ch => exact exists_run h rfl (unlessReset_run (takeWhere_run ..))
  | settleEnd => exact exists_run h rfl (unlessReset_run (takeWhere_run ..))
  | probeStart sp => exact exists_run h rfl (unlessReset_run (takeWhere_run ..))
  | confirmCompletion sp => exact exists_run h rfl (unlessReset_run (tick := false) (completionTest_run sp _))
  | frameReceived p race bytes => exact exists_run h rfl (unlessReset_run (frameArrives_run p race bytes _))
  | sampleWord b0 b1 b2 =>
    exact exists_run h rfl (unlessReset_run (tick := false) (takeSample_run (sampleChan b0) (sampleCode_le b1 b2) _))
  | statusRecord b => exact exists_run h rfl (unlessReset_run (Moves.run (tick := false) (takeStatus_moves ..)))
  | supplyGoodFall =>
    have pin : Run false s (setSupplyPin false s) := Moves.run (pins_moves s s.pins.interlock false s.pins.resetLine s.out)
    exact exists_run h rfl (pin.trans (unlessReset_run (Moves.run (supplyFall_moves _))))
  | supplyGoodRise =>
    have pin : Run false s (setSupplyPin true s) := Moves.run (pins_moves s s.pins.interlock true s.pins.resetLine s.out)
    exact exists_run h rfl (pin.trans (unlessReset_run (Moves.run (supplyRise_moves _))))
  | rise ch x => exact exists_run h rfl (unlessReset_run (tick := false) (rise_run ch x _))
  | pulse ch level length => exact exists_run h rfl (unlessReset_run (Moves.run (tick := false) (pulseChannel_moves ch level length _)))
  | douse ch => exact exists_run h rfl (unlessReset_run (Moves.run (tick := false) (douseChannel_moves ch _)))
  | snuff ch => exact exists_run h rfl (unlessReset_run (Moves.run (tick := false) (snuffChannel_moves ch _)))
  | eventTaken src => exact exists_run h rfl (unlessReset_run (Moves.run (tick := false) (takeOldest_moves src _)))
  | noticeDeparture => exact exists_run h rfl (unlessReset_run (Moves.run (tick := false) (departNotices_moves _)))
  | read r => exact exists_run h rfl (request_run (fun s => by rw [readReq_s]; exact .refl) s)
  | writeSpan r => exact exists_run h rfl (request_run (writeSpan_run r) s)
  | writePump r => exact exists_run h rfl (request_run (writePump_run r) s)
  | setSetpoint r => exact exists_run h rfl (request_run (setSetpoint_run r) s)
  | clearPump r => exact exists_run h rfl (request_run (clearPump_run r) s)
  | writeMonitor r => exact exists_run h rfl (request_run (fun s => Moves.run (writeMonitor_moves r s)) s)
  | writeEvent r => exact exists_run h rfl (request_run (fun s => Moves.run (writeEvent_moves r s)) s)
  | writeInterlock r => exact exists_run h rfl (request_run (fun s => Moves.run (writeInterlock_moves r s)) s)
  | clearInterlock r => exact exists_run h rfl (request_run (fun s => Moves.run (clearInterlock_moves r s)) s)
  | spanHold r => exact exists_run h rfl (request_run (fun s => Moves.run (spanHold_moves r s)) s)
  | spanResume r => exact exists_run h rfl (request_run (fun s => Moves.run (spanResume_moves r s)) s)
  | spanRelease r => exact exists_run h rfl (request_run (fun s => Moves.run (spanRelease_moves rfl r s)) s)
  | setLoop r => exact exists_run h rfl (request_run (fun s => Moves.run (setLoop_moves rfl r s)) s)
  | writePart r => exact exists_run h rfl (request_run (fun s => Moves.run (writePart_moves r s)) s)
  | start r => exact exists_run h rfl (request_run (startReq_run r) s)
  | halt r => exact exists_run h rfl (request_run (haltReq_run r) s)
  | writeGrants r => exact exists_run h rfl (request_run (fun s => Moves.run (writeGrants_moves r s)) s)
  | clear r => exact exists_run h rfl (request_run (clearReq_run r) s)
  | unknownRequest kind r => exact exists_run h rfl (unlessReset_run (takeRequest_run kind r _))
  | idleFillReceived p => exact exists_run h rfl (unlessReset_run (Moves.run (tick := false) (idleArrives_moves p _)))

/-- Every step is a run of effects. -/
theorem step_run (h : step s = .next t) : ∃ tick, Run tick s t := by
  cases hp : s.pending with
  | nil => exact exists_run h (step_nil hp) (.refl (tick := false))
  | cons i rest =>
    rw [step_cons hp] at h
    obtain ⟨tick, hr⟩ := exec_run h
    exact ⟨tick, (Moves.run (pending_moves s rest)).trans hr⟩

end Sys2Proof.Machine
end

section
/-! SUPPORT. What every move keeps, one lemma per invariant. -/

namespace Sys2Proof.Machine

open Relation (ReflTransGen)

variable {c : Scope} {s t u : State} {sp : Span} {ch : Chan} {tick : Bool}

/-! ### Invariants over moves and runs -/

theorem Moves.invariant {P : State → Prop} (hP : ∀ {s t : State}, Move c s t → P s → P t) (h : Moves c s t) (hs : P s) : P t := by
  induction h with
  | refl => exact hs
  | tail _ h ih => exact hP h ih

/-- A place of which nothing is known but whether a tick is taken. -/
def Scope.any (tick : Bool) : Scope := ⟨tick, fun _ => True, False⟩

theorem Moves.any (h : Moves c s t) (hc : c.tick = tick) : Moves (.any tick) s t :=
  Moves.mono (c := c) (d := .any tick) hc (fun _ _ => trivial) False.elim h

/-- A run is a chain of moves where nothing need be known of tests and of a START. -/
theorem Run.moves (h : Run tick s t) : Moves (.any tick) s t := by
  induction h with
  | refl => exact .refl
  | tail _ h ih =>
    refine ih.trans ?_
    cases h with
    | calm h => exact h.moves.any rfl
    | tested sp h => exact (h.any rfl).trans (completionTest_moves ..)
    | started h => exact h.any rfl

theorem step_moves (h : step s = .next t) : ∃ tick, Moves (.any tick) s t := by
  obtain ⟨tick, h⟩ := step_run h
  exact ⟨tick, h.moves⟩

/-- What every move keeps, every step keeps. -/
theorem step_invariant {P : State → Prop} (hP : ∀ {c : Scope} {s t : State}, Move c s t → P s → P t) (h : step s = .next t) (hs : P s) :
    P t := by
  obtain ⟨_, h⟩ := step_moves h
  exact h.invariant hP hs

/-- What every move keeps that finds spans in UNUSED in STANDBY, every step keeps. -/
theorem Run.invariant {P : State → Prop} (hu : ∀ {s : State}, P s → s.StandbyUnused)
    (hP : ∀ {c : Scope} {s t : State}, c.standby → Move c s t → P s → P t) (h : Run tick s t) (hs : P s) : P t := by
  induction h with
  | refl => exact hs
  | tail _ h ih =>
    cases h with
    | calm h => exact hP trivial h ih
    | tested sp h => exact ((h.trans (completionTest_moves sp _)).invariant (hP trivial) ih)
    | started h => exact h.invariant (hP (hu ih)) ih

/-! ### Enable lines -/

theorem enableOf_congr {x : Span} (hr : t.part.run = s.part.run) (hs : (t.st x).state = (s.st x).state) : t.enableOf x = s.enableOf x := by
  simp only [State.enableOf, hr, hs]

theorem LinesFollow.congr (h : s.LinesFollow) (hp : t.pins.spanEn = s.pins.spanEn) (hl : t.pins.runLed = s.pins.runLed)
    (hr : t.part.run = s.part.run) (hs : ∀ x, (t.st x).state = (s.st x).state) : t.LinesFollow := by
  obtain ⟨h1, h2, h3⟩ := h
  simp only [State.LinesFollow, enableOf_congr hr (hs _), hp, hl, hr]
  exact ⟨h1, h2, h3⟩

theorem shift_linesFollow (y : SpanStatus) (h : s.pins.runLed = s.part.run) : (shift sp y s).LinesFollow := ⟨rfl, rfl, h⟩

theorem setRun_linesFollow (b : Bool) (s : State) : (setRun b s).LinesFollow := ⟨rfl, rfl, rfl⟩

theorem setSt_state_congr {y : SpanStatus} (h : y.state = (s.st sp).state) (x : Span) : ((s.setSt sp y).st x).state = (s.st x).state := by
  rw [State.setSt_st]
  split
  next hx => subst hx; exact h
  next => rfl

theorem Move.linesFollow (h : Move c s t) (hs : s.LinesFollow) : t.LinesFollow := by
  cases h with
  | tables _ _ _ _ hr => exact LinesFollow.congr hs rfl rfl hr fun _ => rfl
  | mark sp y h => exact LinesFollow.congr hs rfl rfl rfl (setSt_state_congr h.state)
  | shift sp y => exact shift_linesFollow y hs.2.2
  | remode sp m y => exact shift_linesFollow y hs.2.2
  | go => exact setRun_linesFollow ..
  | stop => exact setRun_linesFollow ..
  | reset => exact ⟨rfl, rfl, rfl⟩
  | _ => exact hs

/-! ### Causes -/

/-- The causes of every span stand, are held once, and are none in UNUSED. -/
def State.CausesSound (s : State) : Prop := s.CausesStand ∧ s.CauseSets

theorem restState_cases (s : State) (sp : Span) :
    ((s.line sp).loop = .normal ∧ s.restState sp = .wait) ∨ ((s.line sp).loop ≠ .normal ∧ s.restState sp = .maint) := by
  by_cases h : (s.line sp).loop = .normal
  · exact .inl ⟨h, if_pos h⟩
  · exact .inr ⟨h, if_neg h⟩

/-- A change of state takes over causes, or drops some. -/
theorem Shift.causes {x : SpanState} {n : Nat} {cs : List Event} (h : Shift c s sp x n cs) :
    (∀ e ∈ cs, e ∈ (s.st sp).causes) ∧ ((s.st sp).causes.Nodup → cs.Nodup) ∧ (x = .unused → cs = []) := by
  cases h with
  | serve => exact ⟨fun e he => (mem_standingOnly.mp he).1, standingOnly_nodup, nofun⟩
  | retire => exact ⟨nofun, fun _ => List.nodup_nil, fun _ => rfl⟩
  | release | leave =>
    obtain ⟨-, e⟩ | ⟨-, e⟩ := restState_cases s sp <;> rw [e] <;> exact ⟨fun _ => id, id, nofun⟩
  | _ => exact ⟨fun _ => id, id, nofun⟩

/-- A record that changes keeps the causes sound where each of its causes stood already or stands. -/
theorem CausesSound.put {y : SpanStatus} (hs : s.CausesSound) (hd : ∀ x e, t.stands x e = s.stands x e)
    (ht : ∀ x, t.st x = if x = sp then y else s.st x)
    (hn : (s.st sp).causes.Nodup → y.causes.Nodup)
    (hc : ∀ e ∈ y.causes, e ∈ (s.st sp).causes ∨ s.stands sp e = true)
    (hu : y.state = .unused → ((s.st sp).state = .unused → (s.st sp).causes = []) → y.causes = []) : t.CausesSound := by
  obtain ⟨stand, sets⟩ := hs
  refine ⟨fun x e he hst => ?_, fun x => ?_⟩
  · rw [ht] at he
    rw [hd]
    split at he
    next hx =>
      subst hx
      obtain h | h := hc e he
      · exact stand _ e h hst
      · exact h
    next => exact stand x e he hst
  · rw [ht]
    split
    next hx => subst hx; exact ⟨hn (sets _).1, fun g => hu g (sets _).2⟩
    next => exact sets x

theorem setSt_stands (sp x : Span) (y : SpanStatus) (e : Event) (s : State) : (s.setSt sp y).stands x e = s.stands x e := by
  cases e <;> rfl

theorem stands_congr (hi : t.il = s.il) (hs : t.supply = s.supply) (hh : t.hold = s.hold) (x : Span) (e : Event) :
    t.stands x e = s.stands x e := by
  cases e <;> simp only [State.stands, State.interlocked, State.ilLine, State.supplyDown, State.held, hi, hs, hh]

theorem CausesSound.congr (h : s.CausesSound) (hd : ∀ x e, t.stands x e = s.stands x e) (hs : ∀ x, t.st x = s.st x) : t.CausesSound := by
  simp only [State.CausesSound, State.CausesStand, State.CauseSets, hs, hd]
  exact h

theorem Move.causesSound (h : Move c s t) (hs : s.CausesSound) : t.CausesSound := by
  cases h with
  | mark sp y h =>
    refine CausesSound.put (sp := sp) hs (fun x e => setSt_stands ..) (fun x => State.setSt_st ..) h.nodup
      (fun e he => (h.causes e he).imp_right And.left) fun hu hold => ?_
    refine List.eq_nil_iff_forall_not_mem.mpr fun e he => ?_
    obtain g | ⟨-, g, -⟩ := h.causes e he
    · rw [hold (h.state ▸ hu)] at g; exact List.not_mem_nil g
    · exact g hu
  | shift sp y h hf hw =>
    obtain ⟨hc, hn, he⟩ := h.causes
    exact CausesSound.put (sp := sp) hs (fun x e => shift_stands ..) (fun x => shift_st ..) hn (fun e he => .inl (hc e he)) fun g _ => he g
  | remode sp m y ht h hc =>
    refine CausesSound.put (sp := sp) hs (fun x e => ?_) (fun x => shift_st ..) (fun g => hc ▸ g) (fun e he => .inl (hc ▸ he)) fun hu _ => ?_
    · rw [shift_stands]; cases e <;> rfl
    · generalize y.state = z, y.failures = n at h hu
      cases h <;> cases hu
  | conditions il supply hold hr hc => exact ⟨fun x e he hst => hc x e he hst (hs.1 x e he hst), hs.2⟩
  | reset =>
    have empty (x : Span) : ((resetPart s).st x).causes = [] := by cases x <;> rfl
    refine ⟨fun x e he => ?_, fun x => ?_⟩
    · rw [empty] at he; cases he
    · rw [empty]; exact ⟨List.nodup_nil, fun _ => rfl⟩
  | _ => exact CausesSound.congr hs (stands_congr rfl rfl rfl) fun _ => rfl

/-- A change of state to a lit one finds no standing cause; one to SERVICE leaves none at all. -/
theorem Shift.lit {x : SpanState} {n : Nat} {cs : List Event} (h : Shift c s sp x n cs)
    (hs : (s.st sp).state.lit = true → ∀ e ∈ (s.st sp).causes, e.standing = false) :
    (x.lit = true → ∀ e ∈ cs, e.standing = false) ∧ (x = .service → cs = []) := by
  cases h with
  | probe _ _ h => exact ⟨fun _ e he => by simpa using List.any_eq_false.mp h e he, nofun⟩
  | confirm _ h => exact ⟨fun _ => hs (by rw [h]; rfl), nofun⟩
  | serve h =>
    have none : standingOnly (s.st sp).causes = [] :=
      List.filter_eq_nil_iff.mpr fun e he => by simpa using hs (by rw [h]; rfl) e he
    rw [none]
    exact ⟨fun _ => nofun, fun _ => rfl⟩
  | release | leave =>
    obtain ⟨-, e⟩ | ⟨-, e⟩ := restState_cases s sp <;> rw [e] <;> exact ⟨nofun, nofun⟩
  | _ => exact ⟨nofun, nofun⟩

theorem LitHoldsNoStanding.put {y : SpanStatus} (hs : s.LitHoldsNoStanding) (ht : ∀ x, t.st x = if x = sp then y else s.st x)
    (hy : (y.state.lit = true → ∀ e ∈ y.causes, e.standing = false) ∧ (y.state = .service → y.causes = [])) : t.LitHoldsNoStanding := by
  intro x
  rw [ht]
  split
  · exact hy
  · exact hs x

theorem Move.litHoldsNoStanding (h : Move c s t) (hs : s.LitHoldsNoStanding) : t.LitHoldsNoStanding := by
  cases h with
  | mark sp y h =>
    refine LitHoldsNoStanding.put (sp := sp) hs (fun x => State.setSt_st ..) ⟨fun hl e he => ?_, fun hv => ?_⟩
    · obtain g | ⟨-, -, -, g⟩ := h.causes e he
      · exact (hs sp).1 (h.state ▸ hl) e g
      · exact g hl
    · refine List.eq_nil_iff_forall_not_mem.mpr fun e he => ?_
      obtain g | ⟨-, -, g, -⟩ := h.causes e he
      · rw [(hs sp).2 (h.state ▸ hv)] at g; exact List.not_mem_nil g
      · exact g hv
  | shift sp y h => exact LitHoldsNoStanding.put (sp := sp) hs (fun x => shift_st ..) (h.lit (hs sp).1)
  | remode sp m y ht h =>
    refine LitHoldsNoStanding.put (sp := sp) hs (fun x => shift_st ..) ?_
    generalize y.state = z, y.failures = n at h
    cases h <;> exact ⟨nofun, nofun⟩
  | reset =>
    intro x
    have empty : ((resetPart s).st x).causes = [] := by cases x <;> rfl
    rw [empty]
    exact ⟨fun _ => nofun, fun _ => rfl⟩
  | _ => exact hs

/-! ### Records of the spans -/

theorem Fits.put {y : SpanStatus} (hs : ∀ x, (s.st x).Fits) (ht : ∀ x, t.st x = if x = sp then y else s.st x) (hy : y.Fits) (x : Span) :
    (t.st x).Fits := by
  rw [ht]
  split
  · exact hy
  · exact hs x

theorem reset_fits : SpanStatus.reset.Fits := by simp [SpanStatus.Fits, SpanStatus.reset]

theorem Move.fits (h : Move c s t) (hs : ∀ x, (s.st x).Fits) : ∀ x, (t.st x).Fits := by
  cases h with
  | mark sp y h => exact Fits.put (sp := sp) hs (fun x => State.setSt_st ..) (h.fits (hs sp))
  | shift sp y h hf => exact Fits.put (sp := sp) hs (fun x => shift_st ..) hf
  | remode sp m y ht h hc hf => exact Fits.put (sp := sp) (s := s) hs (fun x => shift_st ..) hf
  | reset => intro x; cases x <;> exact reset_fits
  | _ => exact hs

/-- What a span's state has to do with the part state and the loop mode of its port: `State.LoopsFitSpans` of one span. -/
def FitsLoop (run : Bool) (x : SpanState) (m : Loop) : Prop :=
  (run = false → x = .unused) ∧ (x = .maint → m ≠ .normal) ∧ (m ≠ .normal → x = .maint ∨ x = .locked ∨ x = .unused)

theorem loopsFitSpans_iff (s : State) : s.LoopsFitSpans ↔ ∀ x, FitsLoop s.part.run (s.st x).state (s.line x).loop := Iff.rfl

theorem Shift.fitsLoop {x : SpanState} {n : Nat} {cs : List Event} (h : Shift c s sp x n cs)
    (hs : FitsLoop s.part.run (s.st sp).state (s.line sp).loop) : FitsLoop s.part.run x (s.line sp).loop := by
  obtain ⟨h1, h2, h3⟩ := hs
  have dark {z : SpanState} (hz : (s.st sp).state = z) (hd : z ≠ .unused ∧ z ≠ .maint ∧ z ≠ .locked) {x : SpanState} (hx : x ≠ .maint) :
      FitsLoop s.part.run x (s.line sp).loop := by
    rw [hz] at h1 h3
    obtain ⟨d1, d2, d3⟩ := hd
    exact ⟨fun g => absurd (h1 g) d1, fun g => absurd g hx, fun g => by
      obtain e | e | e := h3 g
      · exact absurd e d2
      · exact absurd e d3
      · exact absurd e d1⟩
  have rest (hr : s.part.run = true) : FitsLoop s.part.run (s.restState sp) (s.line sp).loop := by
    obtain ⟨hn, e⟩ | ⟨hn, e⟩ := restState_cases s sp <;> rw [e, hr]
    · exact ⟨nofun, nofun, fun g => absurd hn g⟩
    · exact ⟨nofun, fun _ => hn, fun _ => .inl rfl⟩
  cases h with
  | dark h => exact dark h (by decide) (by decide)
  | retry n h => exact dark h (by decide) (by decide)
  | fail n h => exact dark h (by decide) (by decide)
  | trip h =>
    refine dark rfl ⟨?_, ?_, ?_⟩ (by decide) <;> intro g <;> rw [g] at h <;> cases h
  | lock h => exact ⟨fun g => absurd (h1 g) h, nofun, fun _ => .inr (.inl rfl)⟩
  | probe _ h => exact dark h (by decide) (by decide)
  | confirm _ h => exact dark h (by decide) (by decide)
  | serve h => exact dark h (by decide) (by decide)
  | release _ h => exact rest (by by_contra g; rw [h1 (by simpa using g)] at h; cases h)
  | leave n _ hr => exact rest hr
  | retire => exact ⟨fun _ => rfl, nofun, fun _ => .inr (.inr rfl)⟩

theorem putLoop_line (sp x : Span) (m : Loop) (s : State) : ((putLoop sp m s).line x).loop = if x = sp then m else (s.line x).loop := by
  unfold putLoop
  rw [State.setLine_line]
  split <;> rfl

theorem Move.loopsFitSpans (h : Move c s t) (hs : s.LoopsFitSpans) : t.LoopsFitSpans := by
  rw [loopsFitSpans_iff] at hs ⊢
  cases h with
  | ports lines lp h hl => intro x; change FitsLoop _ _ (lines.get x).loop; rw [hl]; exact hs x
  | tables _ _ _ part hr => intro x; change FitsLoop part.run _ _; rw [hr]; exact hs x
  | mark sp y h => intro x; rw [setSt_state_congr h.state]; exact hs x
  | shift sp y h =>
    intro x
    rw [shift_st]
    split
    next hx => subst hx; exact h.fitsLoop (hs _)
    next => exact hs x
  | reloop sp m ht h =>
    intro x
    change FitsLoop s.part.run (s.st x).state ((putLoop sp m s).line x).loop
    rw [putLoop_line]
    split
    next hx =>
      subst hx
      obtain ⟨h1, -, h3⟩ := hs x
      cases hr : s.part.run
      · rw [h1 hr]; exact ⟨fun _ => rfl, nofun, fun _ => .inr (.inr rfl)⟩
      · obtain g | ⟨hm, g⟩ | ⟨g, hn⟩ := h hr
        · rw [g]; exact ⟨nofun, nofun, fun _ => .inr (.inr rfl)⟩
        · rw [g]; exact ⟨nofun, fun _ => hm, fun _ => .inl rfl⟩
        · obtain g | g := g
          · rw [g]; exact ⟨nofun, nofun, fun _ => .inr (.inl rfl)⟩
          · rw [g] at h3; have := h3 hn; simp at this
    next => exact hs x
  | remode sp m y ht h =>
    intro x
    rw [shift_st]
    change FitsLoop _ _ ((putLoop sp m s).line x).loop
    rw [putLoop_line]
    split
    next hx =>
      subst hx
      have run (hz : (s.st x).state ≠ .unused) : s.part.run = true := by
        by_contra g; exact hz ((hs x).1 (by simpa using g))
      generalize y.state = z, y.failures = n at h
      change FitsLoop s.part.run _ _
      cases h with
      | toMaint m hz hm =>
        rw [run (by rintro g; rw [g] at hz; simp at hz)]
        exact ⟨nofun, fun _ => hm, fun _ => .inl rfl⟩
      | toWait hz =>
        rw [run (by rintro g; rw [g] at hz; simp at hz)]
        exact ⟨nofun, nofun, fun g => absurd rfl g⟩
    next => exact hs x
  | go => intro x; exact ⟨nofun, (hs x).2⟩
  | stop _ h => intro x; exact ⟨fun _ => h x, (hs x).2⟩
  | reset => intro x; cases x <;> exact ⟨fun _ => rfl, nofun, fun g => absurd rfl g⟩
  | _ => exact hs

end Sys2Proof.Machine
end

section
/-! SUPPORT. Ranges, failure counts, completion and the LOCKED state over every move. -/

namespace Sys2Proof.Machine

variable {c : Scope} {s t u : State} {sp : Span} {ch : Chan} {tick : Bool}

/-! ### Ranges -/

theorem reset_configsInRange : State.reset.ConfigsInRange := by
  intro sp
  cases sp <;> simp [SpanConfig.InRange, State.config, State.reset, PerSpan.get, SpanConfig.reset]

theorem reset_chan (ch : Chan) : State.reset.chan ch = MonChan.reset := by simp [State.chan, State.reset]

theorem reset_pump (ch : Chan) : State.reset.pump ch = Pump.reset := by simp [State.pump, State.reset]

theorem reset_powersInRange : State.reset.PowersInRange := by
  refine ⟨fun ch => ?_, fun sp => ?_⟩
  · rw [reset_chan]; simp [MonChan.InRange, MonChan.reset, Config.maxPower]
  · have zeros : ∀ x ∈ List.replicate Config.ringSlots 0, x ≤ 33553408 := fun x hx => by
      rw [List.eq_of_mem_replicate hx]; exact Nat.zero_le _
    have input : InputChan.reset.InRange := by simp [InputChan.InRange, InputChan.reset, Config.maxPower]
    have reflection : ReflChan.reset.InRange := by simp [ReflChan.InRange, ReflChan.reset, Config.maxPower]
    cases sp <;> exact ⟨input, reflection, List.length_replicate, zeros⟩

theorem reset_tableFloors : State.reset.TableFloors := by
  intro e
  cases e <;> exact ⟨le_rfl, fun _ => rfl, fun _ => rfl⟩

theorem Move.configsInRange (h : Move c s t) (hs : s.ConfigsInRange) : t.ConfigsInRange := by
  cases h with
  | config sp k h =>
    intro x
    rw [State.setConfig_config]
    split
    · exact h (hs sp)
    · exact hs x
  | reset => exact reset_configsInRange
  | _ => exact hs

theorem Move.powersInRange (h : Move c s t) (hs : s.PowersInRange) : t.PowersInRange := by
  cases h with
  | powers _ _ _ _ h => exact h hs
  | reset => exact reset_powersInRange
  | _ => exact hs

theorem Move.tableFloors (h : Move c s t) (hs : s.TableFloors) : t.TableFloors := by
  cases h with
  | tables _ _ _ _ _ h => exact h hs
  | reset => exact reset_tableFloors
  | _ => exact hs

theorem reset_countsInRange : State.reset.CountsInRange := by
  refine (countsInRange_iff _).mpr ⟨fun ch => ?_, ?_, by decide, ⟨fun p => ?_, fun sp => ?_⟩, ?_, ?_⟩
  · rw [reset_pump]; simp [Pump.RatesInRange, Pump.reset, Config.maxLevel]
  · simp [State.RecordsInRange, State.reset]
  · cases p <;> exact ⟨Nat.zero_le _, Nat.zero_le _⟩
  · cases sp <;> exact Nat.zero_le _
  · exact ⟨Nat.zero_le _, fun _ => by decide⟩
  · exact ⟨Nat.zero_lt_succ _, le_rfl⟩

theorem Move.countsInRange (h : Move c s t) (hs : s.CountsInRange) : t.CountsInRange := by
  rw [countsInRange_iff] at hs ⊢
  obtain ⟨pumps, records, len, ports, supply, time⟩ := hs
  cases h with
  | aside _ _ _ _ _ _ _ _ _ h => exact ⟨pumps, records, len, ports, supply, h time⟩
  | ports _ _ h => exact ⟨pumps, records, len, h ports, supply, time⟩
  | pumps _ h => exact ⟨fun ch => h ch (pumps ch), records, len, ports, supply, time⟩
  | tables _ _ _ _ _ _ hl hr => exact ⟨pumps, hr records, hl len, ports, supply, time⟩
  | reloop => exact ⟨pumps, records, len, setLine_portCounts ⟨id, id, id⟩ ports, supply, time⟩
  | remode => exact ⟨pumps, records, len, setLine_portCounts ⟨id, id, id⟩ ports, supply, time⟩
  | conditions _ _ _ h => exact ⟨pumps, records, len, ports, h records supply, time⟩
  | reset =>
    obtain ⟨pumps, records, len, ports, -, time⟩ := (countsInRange_iff _).mp reset_countsInRange
    exact ⟨pumps, records, len, ports, supplyFromLine_inRange _, time⟩
  | _ => exact ⟨pumps, records, len, ports, supply, time⟩

/-! ### Failure counts -/

/-- The failure count of one span by its state and its lockout limit: `State.FailuresCounted` of one record (R52). -/
def Counted (x : SpanState) (failures lockout : Nat) : Prop :=
  failures ≤ 15 ∧ (x = .service ∨ x = .unused ∨ x = .maint → failures = 0) ∧ (lockout ≠ 0 → lockout ≤ failures → x = .locked)

theorem failuresCounted_iff (s : State) :
    s.FailuresCounted ↔ ∀ x, Counted (s.st x).state (s.st x).failures (s.config x).lockout := Iff.rfl

theorem counted_zero (x : SpanState) (lockout : Nat) : Counted x 0 lockout :=
  ⟨Nat.zero_le _, fun _ => rfl, fun h g => absurd (Nat.le_zero.mp g) h⟩

theorem counted_locked {n : Nat} (lockout : Nat) (h : n ≤ 15) : Counted .locked n lockout := ⟨h, by simp, fun _ _ => rfl⟩

/-- A count that has not reached the limit fits every state that need not have it at 0. -/
theorem Counted.move {x y : SpanState} {n lockout : Nat} (h : Counted x n lockout) (hx : x ≠ .locked)
    (hy : y ≠ .service ∧ y ≠ .unused ∧ y ≠ .maint) : Counted y n lockout := by
  obtain ⟨hy1, hy2, hy3⟩ := hy
  refine ⟨h.1, ?_, fun a b => absurd (h.2.2 a b) hx⟩
  rintro (g | g | g)
  · exact absurd g hy1
  · exact absurd g hy2
  · exact absurd g hy3

theorem lit_ne {x : SpanState} (h : x.lit = true) : x ≠ .unused ∧ x ≠ .wait ∧ x ≠ .shut ∧ x ≠ .locked ∧ x ≠ .maint := by
  cases x <;> simp_all [SpanState.lit]

theorem Shift.counted {x : SpanState} {n : Nat} {cs : List Event} {lockout : Nat} (hb : c.standby) (h : Shift c s sp x n cs)
    (hl : lockout = (s.config sp).lockout) (hs : Counted (s.st sp).state (s.st sp).failures lockout) : Counted x n lockout := by
  have move {z : SpanState} (hz : (s.st sp).state = z) (hn : z ≠ .locked) {y : SpanState}
      (hy : y ≠ .service ∧ y ≠ .unused ∧ y ≠ .maint) : Counted y (s.st sp).failures lockout := hs.move (hz ▸ hn) hy
  cases h with
  | dark h => exact move h (by decide) (by decide)
  | retry n h hn hlim =>
    subst hl
    exact ⟨hn, by simp, fun a b => absurd ⟨a, b⟩ hlim⟩
  | fail n h hn => exact counted_locked _ hn
  | trip h => exact hs.move (lit_ne h).2.2.2.1 (by decide)
  | lock => exact counted_locked _ hs.1
  | probe _ h => exact move h (by decide) (by decide)
  | confirm _ h => exact move h (by decide) (by decide)
  | serve => exact counted_zero ..
  | release => exact counted_zero ..
  | leave n _ _ hu hn =>
    obtain rfl | rfl := hn
    · rw [hs.2.1 (.inr (.inl (hu hb)))]; exact counted_zero ..
    · exact counted_zero ..
  | retire => exact counted_zero ..

/-- A change of state in STANDBY leaves a span in UNUSED there. -/
theorem Shift.standbyUnused {x : SpanState} {n : Nat} {cs : List Event} (h : Shift c s sp x n cs) (hr : s.part.run = false)
    (hu : (s.st sp).state = .unused) : x = .unused := by
  cases h with
  | dark h => rw [hu] at h; cases h
  | retry n h => rw [hu] at h; cases h
  | fail n h => rw [hu] at h; cases h
  | trip h => rw [hu] at h; cases h
  | lock h => exact absurd hu h
  | probe _ h => rw [hu] at h; cases h
  | confirm _ h => rw [hu] at h; cases h
  | serve h => rw [hu] at h; cases h
  | release _ h => rw [hu] at h; cases h
  | leave _ _ h => rw [hr] at h; cases h
  | retire => rfl

/-- A change of loop mode moves no span in STANDBY. -/
theorem Remode.ne_unused {m : Loop} {x : SpanState} {n : Nat} (h : Remode s sp m x n) : (s.st sp).state ≠ .unused := by
  intro hu
  cases h with
  | toMaint m h => rw [hu] at h; simp at h
  | toWait h => rw [hu] at h; cases h

theorem Move.standbyUnused (h : Move c s t) (hs : s.StandbyUnused) : t.StandbyUnused := by
  cases h with
  | tables _ _ _ _ hr => intro g; exact hs (hr ▸ g)
  | mark sp y h => intro g x; rw [setSt_state_congr h.state]; exact hs g x
  | shift sp y h =>
    intro g x
    rw [shift_st]
    split
    · exact h.standbyUnused g (hs g sp)
    · exact hs g x
  | remode sp m y ht h => intro g; exact absurd (hs g sp) h.ne_unused
  | go => intro g; cases g
  | stop _ h => intro _; exact h
  | reset => intro _ x; cases x <;> rfl
  | _ => exact hs

/-- Failure counts, with both spans in UNUSED in STANDBY. -/
def State.FailuresSound (s : State) : Prop := s.StandbyUnused ∧ s.FailuresCounted

theorem Move.failuresSound (hb : c.standby) (h : Move c s t) (hs : s.FailuresSound) : t.FailuresSound := by
  refine ⟨h.standbyUnused hs.1, ?_⟩
  replace hs := hs.2
  rw [failuresCounted_iff] at hs ⊢
  cases h with
  | config sp k h hl =>
    intro x
    rw [State.setConfig_config]
    split
    next hx =>
      subst hx
      obtain ⟨h1, h2, h3⟩ := hs x
      obtain g | g := hl
      · rw [g]; exact ⟨h1, h2, h3⟩
      · exact ⟨h1, h2, g⟩
    next => exact hs x
  | mark sp y h =>
    intro x
    rw [State.setSt_st, State.setSt_config]
    split
    next hx => subst hx; rw [h.state, h.failures]; exact hs x
    next => exact hs x
  | shift sp y h =>
    intro x
    rw [shift_st]
    split
    next hx => subst hx; exact h.counted hb rfl (hs x)
    next => exact hs x
  | remode sp m y ht h =>
    intro x
    rw [shift_st]
    split
    next hx =>
      subst hx
      change Counted _ _ (s.config x).lockout
      have hx := hs x
      generalize y.state = z, y.failures = n at h
      cases h with
      | toMaint => exact counted_zero ..
      | toWait hz => rw [hx.2.1 (.inr (.inr hz))]; exact counted_zero ..
    next => exact hs x
  | reset => intro x; cases x <;> exact counted_zero ..
  | _ => exact hs

/-! ### Completion -/

/-- The condition of completion that the restart mode asks for (R30). -/
def modeReady (m : RestartMode) (far : Option SpanWord) (light : Light) : Bool :=
  match m with
  | .frame => (far.map fun w => w.state.isOpen && w.light).getD false
  | .light => decide (light = .present)

/-- The completion conditions of a span, by what they read. -/
theorem completes_iff (x : Span) (s : State) :
    completes x s = true ↔ (s.st x).state = .confirm ∧ (∀ ch, (s.pump ch).blocks x = false)
      ∧ modeReady (s.config x).mode (s.st x).far (s.inp x).light = true := by
  have parts : completes x s
      = (decide ((s.st x).state = .confirm) && pumpsLit x s && modeReady (s.config x).mode (s.st x).far (s.inp x).light) := by
    unfold completes modeReady farReady State.lightOf
    cases (s.config x).mode
    · cases (s.st x).far <;> rfl
    · rfl
  rw [parts, Bool.and_eq_true, Bool.and_eq_true, decide_eq_true_eq, pumpsLit_iff, and_assoc]

/-- A span whose conditions hold after a move of which each may have come true only with a test to follow, or out of CONFIRM, had them
hold before. -/
theorem completes_back {x : Span} (hr : s.StandbyUnused) (hf : ¬ c.free x)
    (hs : (t.st x).state = .confirm → (s.st x).state = .confirm)
    (hp : c.Loose s x ∨ ∀ ch, (s.pump ch).blocks x = true → (t.pump ch).blocks x = true)
    (hm : c.Loose s x ∨ (modeReady (t.config x).mode (t.st x).far (t.inp x).light = true →
      modeReady (s.config x).mode (s.st x).far (s.inp x).light = true))
    (h : completes x t = true) : completes x s = true := by
  rw [completes_iff] at h ⊢
  obtain ⟨h1, h2, h3⟩ := h
  have confirm := hs h1
  have tight : ¬ c.Loose s x := by
    rintro (g | g | g)
    · exact hf g
    · rw [hr g x] at confirm; cases confirm
    · exact g confirm
  refine ⟨confirm, fun ch => ?_, hm.resolve_left tight h3⟩
  by_contra g
  have := hp.resolve_left tight ch (by simpa using g)
  rw [h2] at this; cases this

/-- What stands between two tests: no completion condition waits, but for the spans whose tests follow. -/
def State.Waits (s : State) (free : Span → Prop) : Prop := s.StandbyUnused ∧ ∀ x, ¬ free x → completes x s = false

theorem Waits.back (hs : s.Waits c.free) (hu : t.StandbyUnused)
    (h : ∀ x, ¬ c.free x → completes x t = true → completes x s = true) : t.Waits c.free :=
  ⟨hu, fun x hx => Bool.eq_false_iff.mpr fun g => Bool.eq_false_iff.mp (hs.2 x hx) (h x hx g)⟩

/-- A span enters CONFIRM with its test to follow. -/
theorem Shift.confirm_free {n : Nat} {cs : List Event} (h : Shift c s sp .confirm n cs) : c.free sp := by
  generalize hx : SpanState.confirm = x at h
  cases h with
  | confirm h => exact h
  | release | leave => obtain ⟨-, e⟩ | ⟨-, e⟩ := restState_cases s sp <;> rw [e] at hx <;> cases hx
  | _ => cases hx

theorem modeReady_none {m : RestartMode} {far : Option SpanWord} {l : Light} (h : modeReady m none l = true) : modeReady m far l = true := by
  cases m
  · cases h
  · exact h

theorem Move.waits (h : Move c s t) (hs : s.Waits c.free) : t.Waits c.free := by
  refine Waits.back hs (h.standbyUnused hs.1) fun x hx => ?_
  cases h with
  | pumps pumps _ hb => exact completes_back hs.1 hx id (or_iff_not_imp_left.mpr fun hl ch => (hb ch x).resolve_left hl) (.inr id)
  | powers mon input refl ring _ hl =>
    refine completes_back hs.1 hx id (.inr fun _ => id) ((hl x).imp_right fun hl => ?_)
    change modeReady _ _ (input.get x).light = true → _
    rw [hl]; exact id
  | config sp k _ _ hm =>
    refine completes_back hs.1 hx id (.inr fun _ => id) ?_
    rw [State.setConfig_config]
    split
    next hxs => subst hxs; exact hm.imp_right fun hm => by rw [hm]; exact id
    next => exact .inr id
  | mark sp y h =>
    refine completes_back hs.1 hx (fun g => setSt_state_congr h.state x ▸ g) (.inr fun _ => id) ?_
    rw [State.setSt_st]
    split
    next hxs =>
      subst hxs
      obtain g | g | g := h.far
      · exact .inl g
      · rw [g]; exact .inr id
      · rw [g]; exact .inr modeReady_none
    next => exact .inr id
  | shift sp y h =>
    intro hc
    rw [completes_iff, shift_st] at hc
    split at hc
    next hxs => subst hxs; obtain ⟨hc, -⟩ := hc; rw [hc] at h; exact absurd h.confirm_free hx
    next => exact (completes_iff ..).mpr hc
  | remode sp m y ht h =>
    intro hc
    rw [completes_iff, shift_st] at hc
    split at hc
    next hxs =>
      obtain ⟨hc, -⟩ := hc
      rw [hc] at h; cases h
    next => exact (completes_iff ..).mpr hc
  | reset =>
    intro hc
    have unused : ((resetPart s).st x).state = .unused := by cases x <;> rfl
    rw [completes_iff, unused] at hc
    cases hc.1
  | _ => exact id

theorem completes_enterService (sp : Span) (s : State) : completes sp (completionTest sp s) = false := by
  obtain ⟨-, e⟩ | ⟨h, e⟩ := completionTest_cases sp s <;> rw [e]
  · refine Bool.eq_false_iff.mpr fun g => ?_
    have state : ((enterService sp s).st sp).state = .service := by
      rw [enterService_eq]
      obtain e | e := breakTest_cases sp (engineRaise sp .serviceRestored .none_
        (shift sp { (s.st sp).enter .service false with causes := standingOnly (s.st sp).causes, failures := 0 } s)) <;> rw [e] <;>
        simp only [engineRaise, State.raise_st, shift_st_self] <;> rfl
    rw [completes_iff, state] at g
    cases g.1
  · exact h

theorem Effect.completesPromptly (h : Effect tick s t) (hs : s.CompletesPromptly) : t.CompletesPromptly := by
  cases h with
  | calm h =>
    obtain ⟨hu, hw⟩ := h.waits (c := .calm tick) ⟨hs.1, fun x _ => hs.2 x⟩
    exact ⟨hu, fun x => hw x id⟩
  | tested sp h =>
    have all := h.trans (completionTest_moves sp _)
    obtain ⟨hu, hw⟩ := all.invariant (P := fun s => s.Waits (Scope.testing tick sp).free) Move.waits ⟨hs.1, fun x _ => hs.2 x⟩
    refine ⟨hu, fun x => ?_⟩
    by_cases hx : x = sp
    · subst hx; exact completes_enterService ..
    · exact hw x hx
  | started h =>
    obtain ⟨hu, hw⟩ := h.invariant (P := fun s => s.Waits fun _ => False) (fun h => h.waits) ⟨hs.1, fun x _ => hs.2 x⟩
    exact ⟨hu, fun x => hw x id⟩

theorem Run.completesPromptly (h : Run tick s t) (hs : s.CompletesPromptly) : t.CompletesPromptly := by
  induction h with
  | refl => exact hs
  | tail _ h ih => exact h.completesPromptly ih

/-! ### LOCKED -/

/-- Where a span may be that was in LOCKED as a command began: there still, or, of a command that hands no tick over, in one of the dark
states a request takes it to. -/
def LockedReach (tick : Bool) (x : SpanState) : Prop := x = .locked ∨ tick = false ∧ (x = .wait ∨ x = .maint ∨ x = .unused)

theorem restState_reach (s : State) (sp : Span) : LockedReach false (s.restState sp) := by
  obtain ⟨-, e⟩ | ⟨-, e⟩ := restState_cases s sp <;> rw [e] <;> simp [LockedReach]

theorem lockedReach_ne {x y : SpanState} (h : LockedReach tick x) (hy : y = .shut ∨ y = .probe ∨ y = .confirm ∨ y = .service) : x ≠ y := by
  rintro rfl
  obtain rfl | ⟨-, rfl | rfl | rfl⟩ := h <;> simp at hy

theorem Shift.reach {x : SpanState} {n : Nat} {cs : List Event} (h : Shift c s sp x n cs) (hs : LockedReach c.tick (s.st sp).state) :
    LockedReach c.tick x := by
  cases h with
  | dark h => exact absurd h (lockedReach_ne hs (by simp))
  | retry n h => exact absurd h (lockedReach_ne hs (by simp))
  | fail | lock => exact .inl rfl
  | trip h =>
    obtain g | ⟨-, g | g | g⟩ := hs <;> rw [g] at h <;> cases h
  | probe ht h =>
    obtain g | ⟨g, -⟩ := hs
    · rw [g] at h; cases h
    · rw [ht] at g; cases g
  | confirm _ h => exact absurd h (lockedReach_ne hs (by simp))
  | serve h => exact absurd h (lockedReach_ne hs (by simp))
  | release ht => rw [ht]; exact restState_reach ..
  | leave _ ht => rw [ht]; exact restState_reach ..
  | retire ht => exact .inr ⟨ht, .inr (.inr rfl)⟩

theorem Move.reach (h : Move c s t) (hs : LockedReach c.tick (s.st sp).state) : LockedReach c.tick (t.st sp).state := by
  cases h with
  | mark x y h => rw [setSt_state_congr h.state]; exact hs
  | shift x y h =>
    rw [shift_st]
    split
    next hx => subst hx; exact h.reach hs
    next => exact hs
  | remode x m y ht h =>
    rw [shift_st]
    split
    next hx =>
      subst hx
      generalize y.state = z, y.failures = n at h
      cases h
      · exact .inr ⟨ht, .inr (.inl rfl)⟩
      · exact .inr ⟨ht, .inl rfl⟩
    next => exact hs
  | reset ht => exact .inr ⟨ht, .inr (.inr (by cases sp <;> rfl))⟩
  | _ => exact hs

end Sys2Proof.Machine
end

section
/-! The invariants of every step. -/

namespace Sys2Proof.Machine

/-- Settles O47: every move drives the enable lines from the states it leaves. -/
theorem enableLinesFollowSpans : Obligations.EnableLinesFollowSpans :=
  ⟨⟨rfl, rfl, rfl⟩, fun _ _ hs h => step_invariant Move.linesFollow h hs⟩

/-- Settles O50: a cause enters a set only while its condition stands, and a condition ends only where the cause has left. -/
theorem standingCausesFollowConditions : Obligations.StandingCausesFollowConditions :=
  fun _ _ h1 h2 h => step_invariant Move.causesSound h ⟨h1, h2⟩

/-- Settles O51: a span becomes lit with no standing cause, and no standing cause enters the set of a lit span. -/
theorem litSpansHoldNoStandingCause : Obligations.LitSpansHoldNoStandingCause :=
  fun _ _ hs h => step_invariant Move.litHoldsNoStanding h hs

/-- Settles O52, each part an invariant of its own over the moves. -/
theorem spanRecordsFitStates : Obligations.SpanRecordsFitStates := by
  refine ⟨fun s t h1 h2 h => ?_, fun s t hs h => ?_, fun s t hs h => step_invariant Move.loopsFitSpans h hs⟩
  · obtain ⟨_, h⟩ := step_run h
    exact (h.invariant (P := State.FailuresSound) And.left Move.failuresSound ⟨h1, h2⟩).2
  · rw [fieldsFitSpan_iff] at hs ⊢
    exact step_invariant (P := fun s => ∀ x, (s.st x).Fits) Move.fits h hs

/-- Settles O53: the checks of every write give its ranges, and every count saturates. -/
theorem tablesStayInRange : Obligations.TablesStayInRange :=
  ⟨fun _ _ h1 h2 h3 h => ⟨step_invariant Move.configsInRange h h1, step_invariant Move.powersInRange h h2,
    step_invariant Move.tableFloors h h3⟩, fun _ _ hs h => step_invariant Move.countsInRange h hs⟩

/-- Settles O55: whatever may make a completion condition true is followed by the test of its span. -/
theorem serviceEnteredAtFirstEvent : Obligations.ServiceEnteredAtFirstEvent := by
  intro s t hs h
  obtain ⟨_, h⟩ := step_run h
  exact h.completesPromptly hs

/-- Settles O56: only requests and resets take a span out of LOCKED, and they start no probe. -/
theorem lockedSpanStaysDark : Obligations.LockedSpanStaysDark := by
  intro s t sp hs h
  obtain ⟨tick, h⟩ := step_moves h
  have reach : LockedReach tick (t.st sp).state :=
    h.invariant (P := fun s => LockedReach tick (s.st sp).state) (Move.reach (c := .any tick)) (.inl hs)
  exact reach.imp_right And.right

end Sys2Proof.Machine
end

section
/-! The reset state meets every invariant. -/

namespace Sys2Proof.Machine

/-! ### The part right after reset -/

theorem reset_spanAtReset (sp : Span) : State.reset.SpanAtReset sp := by
  cases sp <;> exact ⟨rfl, rfl, rfl, rfl, rfl, rfl, rfl, rfl, rfl, rfl, rfl, rfl⟩

theorem reset_channelAtReset (ch : Chan) : State.reset.ChannelAtReset ch := by
  refine ⟨?_, reset_chan ch, by simp [State.ilLine, State.reset, IlLine.reset]⟩
  rw [reset_pump]
  simp [Pump.reset]

theorem reset_grants (g : Nat) : State.reset.grants.map.toList.getD g false = false := by
  have map : State.reset.grants.map.toList = List.replicate 27 false := rfl
  rw [map, List.getD_eq_getElem?_getD, List.getElem?_replicate]
  split <;> rfl

theorem reset_entry_event (e : Event) : State.reset.entry e.id = ⟨e.floor, true⟩ := by cases e <;> rfl

theorem reset_partAtReset : State.reset.PartAtReset := by
  refine ⟨rfl, rfl, rfl, rfl, rfl, fun g _ => reset_grants g, rfl, rfl, reset_entry_event, fun id h1 h2 => ?_, rfl, rfl, fun p => ?_⟩
  · interval_cases id <;> rfl
  · cases p <;> exact ⟨rfl, rfl, rfl⟩

theorem reset_st (sp : Span) : State.reset.st sp = SpanStatus.reset := by cases sp <;> rfl

theorem reset_pumpsSound : State.reset.PumpsSound := by
  intro ch
  rw [reset_pump]
  simp [Pump.BelowCeiling, Pump.FitsState, Pump.reset, PumpState.isDark, PumpState.ramping, Config.maxLevel]

theorem reset_eyeSafe : State.reset.EyeSafe := by
  refine ⟨⟨fun _ => ⟨rfl, rfl, fun ch => ?_⟩, fun ch _ => ?_⟩, fun ch h => ?_⟩ <;> rw [reset_pump] at *
  · rfl
  · rfl
  · cases h

theorem reset_standbyUnused : State.reset.StandbyUnused := fun _ sp => by rw [reset_st]; rfl

theorem reset_completesPromptly : State.reset.CompletesPromptly := by
  refine ⟨reset_standbyUnused, fun sp => Bool.eq_false_iff.mpr fun h => ?_⟩
  obtain ⟨h, -⟩ := (completes_iff ..).mp h
  rw [reset_st] at h
  cases h

theorem reset_queuesWithinRoom : State.reset.QueuesWithinRoom := by
  refine ⟨fun p => ?_, fun sp => ?_, Nat.zero_le _⟩
  · cases p <;> exact Nat.zero_le _
  · cases sp <;> exact Nat.zero_le _

/-- Settles O57, record by record. -/
theorem resetMeetsEveryInvariant : Obligations.ResetMeetsEveryInvariant := by
  refine ⟨⟨reset_partAtReset, reset_spanAtReset, reset_channelAtReset⟩, ⟨rfl, rfl, rfl⟩, reset_pumpsSound, reset_eyeSafe, ?_, ?_, ?_, ?_,
    ?_, ?_, reset_configsInRange, reset_powersInRange, reset_tableFloors, reset_countsInRange, reset_queuesWithinRoom, .inl rfl,
    reset_completesPromptly, ?_⟩
  · intro sp e h; rw [reset_st] at h; cases h
  · intro sp; rw [reset_st]; exact ⟨List.nodup_nil, fun _ => rfl⟩
  · intro sp; rw [reset_st]; exact ⟨nofun, nofun⟩
  · rw [failuresCounted_iff]; intro sp; rw [reset_st]; exact counted_zero ..
  · rw [fieldsFitSpan_iff]; intro sp; rw [reset_st]; exact reset_fits
  · intro sp; cases sp <;> exact ⟨fun _ => rfl, nofun, fun h => absurd rfl h⟩
  · intro ch h; rw [reset_pump] at h; cases h

end Sys2Proof.Machine
end

section
/-! SUPPORT. Requests as they are answered: the checks that class 0 passes, the reply, and what a reply leaves as it was. -/

namespace Sys2Proof.Machine

variable {s t u : State} {sp : Span} {ch : Chan} {r : Req}

/-! ### Replies -/

/-- A reply that lets no notice leave is the reply alone (R180). -/
theorem sendReply_replied (kind : BitVec 5) (r : Req) (u : State) (code : Reply) (extra : List Byte) :
    sendReply kind r ⟨u, code, extra, false⟩ = u.replied r (BitVec.ofNat 8 kind.toNat) (BitVec.ofNat 8 code.code) extra := by
  have dir : originDir r.port = if r.port = .west then .wb else .eb := by cases r.port <;> rfl
  simp only [sendReply, replyMsg, dir]
  rfl

theorem replied_frame (u : State) (r : Req) (kind code : Byte) (extra : List Byte) :
    { u.replied r kind code extra with lines := u.lines, localPort := u.localPort } = u := by
  rw [replied_eq]
  cases r.port <;> rfl

@[simp] theorem replied_st (u : State) (r : Req) (kind code : Byte) (extra : List Byte) (x : Span) :
    (u.replied r kind code extra).st x = u.st x := by rw [replied_eq, State.setBase_st]

@[simp] theorem replied_part (u : State) (r : Req) (kind code : Byte) (extra : List Byte) : (u.replied r kind code extra).part = u.part := by
  rw [replied_eq, State.setBase_part]

@[simp] theorem replied_pins (u : State) (r : Req) (kind code : Byte) (extra : List Byte) : (u.replied r kind code extra).pins = u.pins := by
  rw [replied_eq, State.setBase_pins]

@[simp] theorem replied_raised (u : State) (r : Req) (kind code : Byte) (extra : List Byte) :
    (u.replied r kind code extra).raised = u.raised := by rw [replied_eq, State.setBase_raised]

/-- A line port keeps all but its local queue at a reply. -/
theorem replied_line (u : State) (r : Req) (kind code : Byte) (extra : List Byte) (x : Span) :
    (u.replied r kind code extra).line x = { u.line x with base := ((u.replied r kind code extra).line x).base } := by
  rw [replied_eq, State.setBase_line]

theorem replied_congr {u v : State} (h : u = v) (r : Req) (kind code : Byte) (extra : List Byte) :
    u.replied r kind code extra = v.replied r kind code extra := by rw [h]

/-! ### Checks -/

theorem granted_zero {cls : Nat} (h : cls = 0) (group : Nat) (s : State) : s.granted group cls = true := by
  simp [State.granted, h]

theorem safe_zero {cls : Nat} (h : cls = 0) (s : State) : s.safe cls = true := by
  simp [State.safe, h]

theorem lacksSafe_zero {cls : Nat} (h : cls = 0) (group : Nat) (s : State) : lacksSafe s group cls = false := by
  simp [lacksSafe, granted_zero h, safe_zero h]

@[simp] theorem fresh_classUsed (s : State) (r : Req) : s.fresh.classUsed r = s.classUsed r := rfl

@[simp] theorem fresh_st (s : State) (x : Span) : s.fresh.st x = s.st x := rfl

@[simp] theorem fresh_config (s : State) (x : Span) : s.fresh.config x = s.config x := rfl

@[simp] theorem fresh_line (s : State) (x : Span) : s.fresh.line x = s.line x := rfl

@[simp] theorem fresh_held (s : State) (x : Span) : s.fresh.held x = s.held x := rfl

@[simp] theorem fresh_part (s : State) : s.fresh.part = s.part := rfl

/-- The byte that names a span (R194). -/
def spanByte (sp : Span) : Byte := if sp = .ws then 0 else 1

theorem spanByte_le (sp : Span) : ¬ 1 < (spanByte sp).toNat := by cases sp <;> decide

theorem spanOfCode_spanByte (sp : Span) : spanOfCode (spanByte sp).toNat = sp := by cases sp <;> rfl

/-- A request outside RESET is answered at once. -/
theorem exec_spanHold (h : s.pins.resetLine = false) (r : Req) :
    exec (.spanHold r) s = .next (sendReply Config.kindSpanHold r (spanHold r s.fresh)) := by
  rw [exec, execSpanHold, unlessReset_free h]

theorem exec_spanResume (h : s.pins.resetLine = false) (r : Req) :
    exec (.spanResume r) s = .next (sendReply Config.kindSpanResume r (spanResume r s.fresh)) := by
  rw [exec, execSpanResume, unlessReset_free h]

theorem exec_spanRelease (h : s.pins.resetLine = false) (r : Req) :
    exec (.spanRelease r) s = .next (sendReply Config.kindSpanRelease r (spanRelease r s.fresh)) := by
  rw [exec, execSpanRelease, unlessReset_free h]

/-! ### SPAN_HOLD, SPAN_RESUME, SPAN_RELEASE -/

theorem spanHold_body (h : r.body = [spanByte sp]) (s : State) : spanHold r s = holdSpan sp s := by
  simp only [spanHold, h, if_neg (spanByte_le sp), spanOfCode_spanByte]

theorem spanResume_body (h : r.body = [spanByte sp]) (hc : s.classUsed r = 0) : spanResume r s = resumeSpan sp s := by
  simp [spanResume, h, if_neg (spanByte_le sp), spanOfCode_spanByte, granted_zero hc]

theorem spanRelease_body (h : r.body = [spanByte sp]) (hc : s.classUsed r = 0) : spanRelease r s = releaseSpan sp s := by
  simp [spanRelease, h, if_neg (spanByte_le sp), spanOfCode_spanByte, lacksSafe_zero hc]

theorem ended_manualHold (x : SpanStatus) : x.ended .manualHold = { x with causes := x.causes.filter fun e => e ≠ .manualHold } := by
  simp [SpanStatus.ended, removeCause]

/-- SPAN_RELEASE takes a span to WAIT or MAINT by the loop mode of its port (R33). -/
theorem releaseSpan_locked (h : (s.st sp).state = .locked) :
    releaseSpan sp s = doneWith (shift sp
      { s.st sp with
        state := if (s.line sp).loop = .normal then .wait else .maint
        failures := 0, ticks := 0, callPending := false, offTicks := 0, offExpired := false, probeLength := none
        startsNext := false } s) := by
  rw [releaseSpan, if_neg (not_not.mpr h)]
  refine congrArg doneWith ?_
  dsimp only
  split
  · rw [enterWait_eq, shift_setSt, State.setSt_st_self]; rfl
  · rw [enterMaint_eq, shift_setSt, State.setSt_st_self]; rfl

/-- Settles O42, request by request. -/
theorem holdResumeReleaseTaken : Obligations.HoldResumeReleaseTaken := by
  intro s r sp hr hb
  replace hb : r.body = [spanByte sp] := hb
  refine ⟨?_, fun hc hh => ?_, fun hc hs => ?_, fun hc hs => ?_⟩
  · rw [exec_spanHold hr, spanHold_body hb, holdSpan]
    by_cases h : s.part.run = true ∧ (s.st sp).state ≠ .unused
    · rw [if_pos h, if_neg (by simpa [not_or] using h)]
      exact congrArg _ (sendReply_replied ..)
    · rw [if_neg h, if_pos (by simpa [or_iff_not_imp_left] using h)]
      exact congrArg _ (sendReply_replied ..)
  · rw [exec_spanResume hr, spanResume_body (s := s.fresh) hb hc, resumeSpan, if_pos (show s.fresh.held sp = true from hh),
      endStanding_eq, State.setHeld_st, ended_manualHold]
    exact congrArg _ (sendReply_replied ..)
  · rw [exec_spanRelease hr, spanRelease_body (s := s.fresh) hb hc, releaseSpan_locked (s := s.fresh) hs, doneWith, sendReply_replied]
    refine ⟨_, rfl, ?_, ?_, ?_⟩
    · rw [replied_st, shift_st_self]; rfl
    · rw [replied_st, shift_st_other]; rfl
    · rw [replied_eq]
      cases r.port <;> rfl
  · rw [exec_spanRelease hr, spanRelease_body (s := s.fresh) hb hc, releaseSpan, if_pos (show (s.fresh.st sp).state ≠ .locked from hs)]
    exact congrArg _ (sendReply_replied ..)

end Sys2Proof.Machine
end

section
/-! SUPPORT. Work on all pump channels, read channel by channel. -/

namespace Sys2Proof.Machine

variable {s t u : State} {sp : Span} {ch c : Chan}

theorem PumpFrame.refl (s : State) : PumpFrame s s := rfl

theorem PumpFrame.trans (h : PumpFrame s t) (g : PumpFrame t u) : PumpFrame s u := frame_trans h g

/-- Work that changes each channel's own record by `g`, from what all channels' work leaves as it was. -/
theorem forChans_pump {f : Chan → State → State} {g : Chan → Pump → Pump} (s : State)
    (frame : ∀ ch t, PumpFrame s t → PumpFrame t (f ch t))
    (own : ∀ ch t, PumpFrame s t → ∀ c, (f ch t).pump c = if c = ch then g ch (t.pump ch) else t.pump c) (c : Chan) :
    (forChans f s).pump c = g c (s.pump c) := by
  have go : ∀ (l : List Chan) (t : State), l.Nodup → PumpFrame s t →
      (l.foldl (fun s ch => f ch s) t).pump c = if c ∈ l then g c (t.pump c) else t.pump c := by
    intro l
    induction l with
    | nil => intro t _ _; rfl
    | cons a l ih =>
      intro t hl ht
      obtain ⟨ha, hl⟩ := List.nodup_cons.mp hl
      rw [List.foldl_cons, ih _ hl (ht.trans (frame a t ht)), own a t ht]
      by_cases hc : c = a
      · subst hc; simp [ha]
      · simp [hc]
  rw [forChans, go _ s (by decide) (.refl s), if_pos (mem_chans c)]

theorem forChans_frame {f : Chan → State → State} (hf : ∀ ch t, PumpFrame t (f ch t)) (s : State) : PumpFrame s (forChans f s) :=
  forChans_inv (Q := PumpFrame) PumpFrame.refl PumpFrame.trans hf s

/-! ### SNUFF -/

theorem snuffAll_pump (s : State) (c : Chan) : (snuffAll s).pump c = (s.pump c).takeSnuff :=
  forChans_pump (g := fun _ => Pump.takeSnuff) s (fun ch t _ => snuffChannel_frame ch t) (fun ch t _ c => snuffChannel_pump ch c t) c

theorem snuffSpan_pump (sp : Span) (s : State) (c : Chan) :
    (snuffSpan sp s).pump c = if (s.pump c).lights = some sp then (s.pump c).takeSnuff else s.pump c := by
  refine forChans_pump (g := fun _ p => if p.lights = some sp then p.takeSnuff else p) s (fun ch t _ => ?_) (fun ch t _ c => ?_) c
  · split
    · exact snuffChannel_frame ch t
    · exact rfl
  · split
    · exact snuffChannel_pump ch c t
    · split
      next h => subst h; rfl
      next => rfl

/-! ### RISE and DOUSE of several channels -/

theorem PumpFrame.mayRise (h : PumpFrame s t) (p : Pump) : t.mayRise p = s.mayRise p := by
  have open_ (x : Span) : t.spanOpen x = s.spanOpen x := by simp only [State.spanOpen, h.part, h.st]
  simp only [State.mayRise, open_]

theorem riseChannel_pump (ch c : Chan) (x : Nat) (s : State) :
    (riseChannel ch x s).pump c = if c = ch ∧ s.mayRise (s.pump ch) = true then (s.pump ch).takeRise x else s.pump c := by
  obtain ⟨h, e⟩ | ⟨h, e⟩ := riseChannel_cases ch x s <;> rw [e, h]
  · rw [putPump_pump]; simp
  · simp

/-- A pump to which a span's entry to CONFIRM sends RISE (R29). -/
def State.raisedBy (s : State) (sp : Span) (p : Pump) : Prop :=
  p.of sp ∨ (p.role = .stage ∧ Config.outSpan p.dir = sp ∧ s.lightOf (Config.inSpan p.dir) = .present)

open Classical in
theorem riseSpan_pump (sp : Span) (s : State) (c : Chan) :
    (riseSpan sp s).pump c
      = if s.raisedBy sp (s.pump c) ∧ s.mayRise (s.pump c) = true then (s.pump c).takeRise (s.pump c).service else s.pump c := by
  refine forChans_pump
    (g := fun _ p => if s.raisedBy sp p ∧ s.mayRise p = true then p.takeRise p.service else p) s (fun ch t _ => ?_) (fun ch t ht c => ?_) c
  · dsimp only
    split
    · exact riseChannel_frame ch _ t
    · exact rfl
  · have light (x : Span) : t.lightOf x = s.lightOf x := by simp only [State.lightOf, ht.inp]
    dsimp only
    split
    next h =>
      rw [riseChannel_pump, ht.mayRise]
      rw [light] at h
      have raised : s.raisedBy sp (t.pump ch) := h
      by_cases hc : c = ch
      · subst hc; simp [raised]
      · simp [hc]
    next h =>
      rw [light] at h
      have raised : ¬ s.raisedBy sp (t.pump ch) := h
      by_cases hc : c = ch
      · subst hc; simp [raised]
      · simp [hc]

theorem riseStage_pump (d : Dir) (s : State) (c : Chan) :
    (riseStage d s).pump c
      = if ((s.pump c).role = .stage ∧ (s.pump c).dir = d) ∧ s.mayRise (s.pump c) = true then (s.pump c).takeRise (s.pump c).service
        else s.pump c := by
  refine forChans_pump
    (g := fun _ p => if (p.role = .stage ∧ p.dir = d) ∧ s.mayRise p = true then p.takeRise p.service else p) s
    (fun ch t _ => ?_) (fun ch t ht c => ?_) c
  · split
    · exact riseChannel_frame ch _ t
    · exact rfl
  · split
    next h =>
      rw [riseChannel_pump, ht.mayRise]
      by_cases hc : c = ch
      · subst hc; simp [h]
      · simp [hc]
    next h =>
      by_cases hc : c = ch
      · subst hc; simp [h]
      · simp [hc]

theorem douseStage_pump (d : Dir) (s : State) (c : Chan) :
    (douseStage d s).pump c = if (s.pump c).role = .stage ∧ (s.pump c).dir = d then (s.pump c).takeDouse else s.pump c := by
  refine forChans_pump (g := fun _ p => if p.role = .stage ∧ p.dir = d then p.takeDouse else p) s (fun ch t _ => ?_) (fun ch t _ c => ?_) c
  · split
    · exact putPump_frame ..
    · exact rfl
  · split
    · exact putPump_pump ..
    · split
      next h => subst h; rfl
      next => rfl

theorem riseStage_frame (d : Dir) (s : State) : PumpFrame s (riseStage d s) := by
  refine forChans_frame (fun ch t => ?_) s
  split
  · exact riseChannel_frame ch _ t
  · exact rfl

theorem douseStage_frame (d : Dir) (s : State) : PumpFrame s (douseStage d s) := by
  refine forChans_frame (fun ch t => ?_) s
  split
  · exact putPump_frame ..
  · exact rfl

end Sys2Proof.Machine
end

section
/-! SUPPORT. START and HALT in closed form. -/

namespace Sys2Proof.Machine

variable {s t u : State} {sp : Span} {r : Req}

theorem exec_start (h : s.pins.resetLine = false) (r : Req) :
    exec (.start r) s = .next (sendReply Config.kindStart r (startReq r s.fresh)) := by
  rw [exec, execStart, unlessReset_free h]

theorem exec_halt (h : s.pins.resetLine = false) (r : Req) :
    exec (.halt r) s = .next (sendReply Config.kindHalt r (haltReq r s.fresh)) := by
  rw [exec, execHalt, unlessReset_free h]

/-! ### START -/

/-- A span's record after a START (R185). -/
def State.started (s : State) (sp : Span) : SpanStatus :=
  if (s.config sp).present then
    ((s.st sp).rested (decide ((s.line sp).loop ≠ .normal)) true).reported (s.interlocked sp) s.supplyDown
  else s.st sp

/-- The INTERLOCK that a START raises for a span (R132). -/
def State.startEvents (s : State) (sp : Span) : List Raised :=
  match s.activeLine sp with
  | some n => if (s.config sp).present = true then [⟨.interlockUnit, .interlock, .one sp, .line n, s.time.tickCount, false⟩] else []
  | none => []

theorem raiseActive_eq (sp : Span) (line : Option Chan) (s : State) :
    raiseActive sp line s = { s with
      raised := s.raised ++ (line.map fun n => (⟨.interlockUnit, .interlock, .one sp, .line n, s.time.tickCount, false⟩ : Raised)).toList } := by
  cases line
  · simp [raiseActive]
  · rfl

theorem startEvents_present (h : (s.config sp).present = true) :
    s.startEvents sp
      = ((s.activeLine sp).map fun n => (⟨.interlockUnit, .interlock, .one sp, .line n, s.time.tickCount, false⟩ : Raised)).toList := by
  unfold State.startEvents
  cases s.activeLine sp
  · rfl
  · simp [h]

theorem startEvents_absent (h : (s.config sp).present = false) : s.startEvents sp = [] := by
  unfold State.startEvents
  cases s.activeLine sp
  · rfl
  · simp [h]

/-- A span's part of a START: its record, the enable lines and its event. -/
theorem startSpan_eq (sp : Span) (s : State) :
    startSpan sp s = { s with
      status := s.status.set sp (s.started sp)
      pins := (startSpan sp s).pins
      raised := s.raised ++ s.startEvents sp } := by
  unfold startSpan State.started
  cases h : (s.config sp).present
  · rw [startEvents_absent h, if_neg (by decide), if_neg (by decide), State.st, PerSpan.set_get, List.append_nil]
  · rw [startEvents_present h, if_pos rfl, if_pos rfl, leaveUnused_eq, raiseActive_eq]; rfl

/-- Both spans' parts of a START. -/
theorem startSpans_eq (s : State) :
    startSpan .es (startSpan .ws s) = { s with
      status := ⟨s.started .ws, s.started .es⟩
      pins := (startSpan .es (startSpan .ws s)).pins
      raised := s.raised ++ s.startEvents .ws ++ s.startEvents .es } := by
  rw [startSpan_eq .es, startSpan_eq .ws]
  rfl

theorem startSpan_linesFollow (hr : s.part.run = true) (h : s.LinesFollow) : (startSpan sp s).LinesFollow :=
  (startSpan_moves (c := .any false) rfl hr False.elim).invariant Move.linesFollow h

/-- After a START no span is lit. -/
theorem started_not_lit (hu : (s.st sp).state = .unused) : (s.started sp).state.lit = false := by
  unfold State.started
  split
  · change ((s.st sp).rested _ true).state.lit = false
    rw [rested_state]
    split <;> rfl
  · rw [hu]; rfl

/-- The enable lines and the RUN indicator after a START (R8, R182). -/
theorem startSpans_pins (hu : ∀ x, (s.st x).state = .unused) :
    (startSpan .es (startSpan .ws (setRun true s))).pins.spanEn = ⟨false, false⟩
      ∧ (startSpan .es (startSpan .ws (setRun true s))).pins.runLed = true := by
  have ws : (startSpan .ws (setRun true s)).LinesFollow := startSpan_linesFollow rfl (setRun_linesFollow ..)
  obtain ⟨h1, h2, h3⟩ : (startSpan .es (startSpan .ws (setRun true s))).LinesFollow :=
    startSpan_linesFollow (by rw [startSpan_part]; rfl) ws
  have off (x : Span) : (startSpan .es (startSpan .ws (setRun true s))).enableOf x = false := by
    rw [startSpans_eq]
    have := started_not_lit (s := setRun true s) (sp := x) (hu x)
    cases x <;> simpa [State.enableOf, State.st, PerSpan.get] using fun _ => this
  rw [off] at h1 h2
  refine ⟨?_, ?_⟩
  · generalize (startSpan .es (startSpan .ws (setRun true s))).pins.spanEn = en at h1 h2 ⊢
    cases en
    exact congrArg₂ PerSpan.mk h1 h2
  · rw [h3, startSpans_eq]; rfl

/-- SUPPLY_LOW as a START raises it (R137, log 15). -/
def State.startSupplyEvents (s : State) : List Raised :=
  if s.supply.state ≠ .good ∧ ((s.config .ws).present = true ∨ (s.config .es).present = true) then
    [⟨.supplyMonitor, .supplyLow, .both, .none_, s.time.tickCount, false⟩]
  else []

theorem startSupply_eq (s : State) : startSupply s = { s with raised := s.raised ++ s.startSupplyEvents } := by
  unfold startSupply State.startSupplyEvents State.supplyDown
  by_cases h : s.supply.state ≠ .good ∧ ((s.config .ws).present = true ∨ (s.config .es).present = true)
  · rw [if_pos h, if_pos (by simpa using h)]; rfl
  · rw [if_neg h, if_neg (by simpa using h), List.append_nil]

/-- What a START makes of the part (R185). -/
theorem startPart_eq (s : State) :
    startPart s = { s with
      part := { s.part with run := true }
      pins := (startSpan .es (startSpan .ws (setRun true s))).pins
      status := ⟨s.started .ws, s.started .es⟩
      lines := ⟨{ s.line .ws with mismatch := false }, { s.line .es with mismatch := false }⟩
      raised := s.raised ++ s.startEvents .ws ++ s.startEvents .es ++ s.startSupplyEvents
        ++ [⟨.partControl, .partState, .none_, .none_, s.time.tickCount, false⟩] } := by
  unfold startPart
  have w := startSpans_eq (setRun true s)
  generalize (startSpan .es (startSpan .ws (setRun true s))).pins = pins at w ⊢
  rw [w, startSupply_eq]
  rfl

theorem startReq_standby (hb : r.body = []) (hc : s.classUsed r = 0) (hr : s.part.run = false) :
    startReq r s = doneWith (startPart s) := by
  simp [startReq, hb, granted_zero hc, hr]

theorem startReq_run_refused (hb : r.body = []) (hc : s.classUsed r = 0) (hr : s.part.run = true) : startReq r s = refuse .state s := by
  simp [startReq, hb, granted_zero hc, hr]

/-- The record of a present span after a START, field by field. -/
theorem started_present (h : (s.config sp).present = true) :
    s.started sp =
      { s.st sp with
        state := if (s.line sp).loop = .normal then .wait else .maint
        causes := (s.started sp).causes, ticks := 0, callPending := false, offTicks := 0
        offExpired := decide ((s.line sp).loop = .normal), probeLength := none, startsNext := false
        failures := if (s.line sp).loop = .normal then (s.st sp).failures else 0
        entryInterlock := (s.st sp).entryInterlock || s.interlocked sp
        entrySupply := (s.st sp).entrySupply || decide (s.supply.state ≠ .good) } := by
  unfold State.started
  rw [if_pos h]
  by_cases hl : (s.line sp).loop = .normal
  · simp [hl, SpanStatus.rested, SpanStatus.reported, SpanStatus.enter, SpanState.timed, State.supplyDown]
  · simp [hl, SpanStatus.rested, SpanStatus.reported, SpanStatus.enter, SpanState.timed, State.supplyDown]

theorem mem_reported_iff {x : SpanStatus} {i d : Bool} {e : Event} :
    e ∈ (x.reported i d).causes ↔ e ∈ x.causes ∨ (e = .interlock ∧ i = true) ∨ (e = .supplyLow ∧ d = true) := by
  cases i <;> cases d <;> simp [SpanStatus.reported] <;> tauto

theorem mem_started (h : (s.config sp).present = true) (e : Event) :
    e ∈ (s.started sp).causes ↔
      e ∈ (s.st sp).causes ∨ (e = .interlock ∧ s.interlocked sp = true) ∨ (e = .supplyLow ∧ s.supply.state ≠ .good) := by
  rw [State.started, if_pos h, mem_reported_iff, rested_causes]
  simp [State.supplyDown]

theorem start_settled (hr : s.pins.resetLine = false) (hc : s.classUsed r = 0) (hb : r.body = []) (hrun : s.part.run = false)
    (hu : s.StandbyUnused) : ∃ t, exec (.start r) s = .next t ∧ t.part = { s.part with run := true } ∧ t.pins.runLed = true
      ∧ t.pins.spanEn = ⟨false, false⟩
      ∧ { t with
          part := s.part, pins := s.pins, status := s.status, lines := s.lines, localPort := s.localPort
          raised := s.raised } = s.fresh
      ∧ (∀ x, (t.line x).mismatch = false) ∧ (∀ x, t.st x = s.started x)
      ∧ t.raised = s.raised ++ s.startEvents .ws ++ s.startEvents .es ++ s.startSupplyEvents
        ++ [⟨.partControl, .partState, .none_, .none_, s.time.tickCount, false⟩] := by
  obtain ⟨en, led⟩ := startSpans_pins (s := s.fresh) (hu hrun)
  rw [exec_start hr, startReq_standby (s := s.fresh) hb hc hrun, doneWith, sendReply_replied, startPart_eq]
  refine ⟨_, rfl, ?_, ?_, ?_, ?_, fun x => ?_, fun x => ?_, ?_⟩
  · rw [replied_part]; rfl
  · rw [replied_pins]; exact led
  · rw [replied_pins]; exact en
  · generalize (startSpan .es (startSpan .ws (setRun true s.fresh))).pins = pins
    rw [replied_eq]
    cases r.port <;> rfl
  · rw [replied_line]; cases x <;> rfl
  · rw [replied_st]; cases x <;> rfl
  · rw [replied_raised]; rfl

/-! ### HALT -/

/-- A span's record after a HALT (R9, R187). -/
def SpanStatus.halted (x : SpanStatus) : SpanStatus := if x.state = .unused then x else x.emptied

theorem haltSpan_eq (sp : Span) (s : State) :
    haltSpan sp s = if (s.st sp).state = .unused then s else (shift sp (s.st sp).emptied s).setHeld sp false := by
  rw [haltSpan, emptySpan_eq]

/-- A span's part of a HALT: its record, its hold flag and the enable lines. -/
theorem haltSpan_frame (sp : Span) (s : State) :
    haltSpan sp s = { s with
      status := (haltSpan sp s).status, hold := (haltSpan sp s).hold, pins := (haltSpan sp s).pins } := by
  rw [haltSpan_eq]
  split <;> rfl

theorem haltSpan_st (sp x : Span) (s : State) : (haltSpan sp s).st x = if x = sp then (s.st sp).halted else s.st x := by
  rw [haltSpan_eq, SpanStatus.halted]
  split
  · split
    next h => rw [h]
    next => rfl
  · rw [State.setHeld_st, shift_st]

theorem haltSpan_held (sp x : Span) (s : State) :
    (haltSpan sp s).held x = if x = sp ∧ (s.st sp).state ≠ .unused then false else s.held x := by
  rw [haltSpan_eq]
  by_cases h : (s.st sp).state = .unused
  · simp [h]
  · rw [if_neg h]
    change ((s.hold.set sp false).get x) = _
    rw [PerSpan.get_set]
    simp [h, State.held]

/-- Both spans' parts of a HALT, after SNUFF to every channel (R187). -/
def haltSpans (s : State) : State := haltSpan .es (haltSpan .ws (snuffAll s))

theorem haltPart_eq (s : State) : haltPart s = setRun false (haltSpans s) := rfl

theorem snuffAll_st (s : State) (x : Span) : (snuffAll s).st x = s.st x := PumpFrame.st (snuffAll_frame s) x

theorem haltSpans_st (s : State) (x : Span) : (haltSpans s).st x = (s.st x).halted := by
  rw [haltSpans, haltSpan_st, haltSpan_st, haltSpan_st, snuffAll_st, snuffAll_st, snuffAll_st]
  cases x <;> rfl

theorem haltSpans_held (s : State) (x : Span) (h : (s.st x).state ≠ .unused) : (haltSpans s).held x = false := by
  rw [haltSpans, haltSpan_held, haltSpan_held, haltSpan_st, snuffAll_st, snuffAll_st]
  cases x <;> simp [h]

/-- What a HALT leaves as it was, short of the part state. -/
theorem haltSpans_frame (s : State) :
    haltSpans s = { s with
      status := (haltSpans s).status, hold := (haltSpans s).hold, pins := (haltSpans s).pins, pumps := (haltSpans s).pumps
      owed := (haltSpans s).owed, out := (haltSpans s).out } := by
  have snuff := PumpFrame.eq (snuffAll_frame s)
  have ws := haltSpan_frame .ws (snuffAll s)
  have es := haltSpan_frame .es (haltSpan .ws (snuffAll s))
  rw [haltSpans]
  generalize haltSpan .es (haltSpan .ws (snuffAll s)) = w at es ⊢
  generalize haltSpan .ws (snuffAll s) = v at ws es
  generalize snuffAll s = u at snuff ws
  rw [es, ws, snuff]

theorem haltSpan_pump (sp : Span) (s : State) (c : Chan) : (haltSpan sp s).pump c = s.pump c := by rw [haltSpan_frame]; rfl

theorem haltSpans_pump (s : State) (c : Chan) : (haltSpans s).pump c = (s.pump c).takeSnuff := by
  rw [haltSpans, haltSpan_pump, haltSpan_pump, snuffAll_pump]

theorem haltReq_run_taken (hb : r.body = []) (hc : s.classUsed r = 0) (hr : s.part.run = true) :
    haltReq r s = doneWith (raisePartState (haltPart s)) := by
  simp [haltReq, hb, granted_zero hc, hr]

theorem haltReq_standby (hb : r.body = []) (hc : s.classUsed r = 0) (hr : s.part.run = false) : haltReq r s = refuse .state s := by
  simp [haltReq, hb, granted_zero hc, hr]

theorem halted_state (x : SpanStatus) : x.halted.state = .unused ∧ x.halted.tag = x.tag ∧ x.halted.far = x.far := by
  unfold SpanStatus.halted
  split
  next h => exact ⟨h, rfl, rfl⟩
  next => exact ⟨rfl, rfl, rfl⟩

theorem halted_of_used {x : SpanStatus} (h : x.state ≠ .unused) : x.halted.causes = [] ∧ x.halted.failures = 0 := by
  rw [SpanStatus.halted, if_neg h]
  exact ⟨rfl, rfl⟩

theorem halt_settled (hr : s.pins.resetLine = false) (hc : s.classUsed r = 0) (hb : r.body = []) (hrun : s.part.run = true) :
    ∃ t, exec (.halt r) s = .next t ∧ t.part = { s.part with run := false } ∧ t.pins.runLed = false
      ∧ t.pins.spanEn = ⟨false, false⟩ ∧ (∀ ch, (t.pump ch).state.isDark = true)
      ∧ { t with
          part := s.part, pins := s.pins, status := s.status, hold := s.hold, pumps := s.pumps, lines := s.lines
          localPort := s.localPort, raised := s.raised, owed := s.owed, out := [] } = s.fresh
      ∧ (∀ sp, (t.st sp).state = .unused ∧ (t.st sp).tag = (s.st sp).tag ∧ (t.st sp).far = (s.st sp).far)
      ∧ (∀ sp, (s.st sp).state ≠ .unused → (t.st sp).causes = [] ∧ (t.st sp).failures = 0 ∧ t.held sp = false)
      ∧ t.raised = s.raised ++ [⟨.partControl, .partState, .none_, .none_, s.time.tickCount, false⟩] := by
  rw [exec_halt hr, haltReq_run_taken (s := s.fresh) hb hc hrun, doneWith, sendReply_replied, haltPart_eq]
  have frame := haltSpans_frame s.fresh
  have st := haltSpans_st s.fresh
  have held := haltSpans_held s.fresh
  have pump := haltSpans_pump s.fresh
  generalize haltSpans s.fresh = u at frame st held pump ⊢
  have part : u.part = s.part := by rw [frame]; rfl
  have raised : u.raised = s.raised := by rw [frame]; rfl
  have time : u.time = s.time := by rw [frame]; rfl
  have st' (x : Span) : ((raisePartState (setRun false u)).st x) = (s.st x).halted := st x
  refine ⟨_, rfl, ?_, ?_, ?_, fun ch => ?_, ?_, fun x => ?_, fun x hx => ?_, ?_⟩
  · rw [replied_part]; exact congrArg (fun p : Part => { p with run := false }) part
  · rw [replied_pins]; rfl
  · rw [replied_pins]; rfl
  · rw [replied_eq, State.setBase_pump]
    change (u.pump ch).state.isDark = true
    rw [pump]
    exact takeSnuff_isDark _
  · rw [replied_eq]
    rw [frame]
    cases r.port <;> rfl
  · rw [replied_st, st']; exact halted_state _
  · rw [replied_st, st', replied_eq, State.setBase_held]
    obtain ⟨h1, h2⟩ := halted_of_used hx
    exact ⟨h1, h2, held x hx⟩
  · rw [replied_raised]
    change u.raised ++ [⟨_, _, _, _, u.time.tickCount, _⟩] = _
    rw [raised, time]

/-- Settles O44: START and HALT each from its closed form. -/
theorem startAndHaltMovePart : Obligations.StartAndHaltMovePart := by
  refine ⟨fun s r hr hc hb => ⟨fun hrun hu => ?_, fun hrun => ?_⟩, fun s r hr hc hb => ⟨fun hrun => ?_, fun hrun => ?_⟩⟩
  · obtain ⟨t, e, part, led, en, frame, line, st, raised⟩ := start_settled hr hc hb hrun hu
    refine ⟨t, e, part, led, en, frame, line, fun x hx => ?_, fun x hx => ?_, raised⟩
    · rw [st, State.started, if_neg (by simp [hx])]
    · rw [st]
      refine ⟨?_, ?_, ?_, mem_started hx⟩
      · rw [started_present hx]
      · rw [started_present hx]
      · conv_lhs => rw [started_present hx]
        rw [show (s.started x).state = if (s.line x).loop = .normal then .wait else .maint by rw [started_present hx],
          show (s.started x).offExpired = decide ((s.line x).loop = .normal) by rw [started_present hx]]
  · rw [exec_start hr, startReq_run_refused (s := s.fresh) hb hc hrun]
    exact congrArg _ (sendReply_replied ..)
  · exact halt_settled hr hc hb hrun
  · rw [exec_halt hr, haltReq_standby (s := s.fresh) hb hc hrun]
    exact congrArg _ (sendReply_replied ..)

end Sys2Proof.Machine
end

section
/-! SUPPORT. Entry to SERVICE and to CONFIRM, what they make of the span and what they leave as it was, and the completion conditions as
the statements spell them. -/

namespace Sys2Proof.Machine

variable {s t u : State} {sp : Span} {ch : Chan}

/-! ### The completion conditions -/

/-- The completion conditions of R30 but for the state of the span. -/
def State.Ready (s : State) (sp : Span) : Prop :=
  (∀ ch, (s.pump ch).of sp = true → (s.pump ch).service ≠ 0 → (s.pump ch).state = .lit)
    ∧ ((s.config sp).mode = .frame → ∃ w, (s.st sp).far = some w ∧ (w.state = .confirm ∨ w.state = .service) ∧ w.light = true)
    ∧ ((s.config sp).mode = .light → (s.inp sp).light = .present)

theorem isOpen_iff (x : SpanState) : x.isOpen = true ↔ x = .confirm ∨ x = .service := by cases x <;> decide

theorem farReady_iff (sp : Span) (s : State) :
    farReady sp s = true ↔ ∃ w, (s.st sp).far = some w ∧ (w.state = .confirm ∨ w.state = .service) ∧ w.light = true := by
  unfold farReady
  cases (s.st sp).far with
  | none => simp
  | some w => simp [isOpen_iff]

theorem pumpsLit_iff_lit (sp : Span) (s : State) :
    pumpsLit sp s = true ↔ ∀ ch, (s.pump ch).of sp = true → (s.pump ch).service ≠ 0 → (s.pump ch).state = .lit := by
  simp only [pumpsLit, List.all_eq_true, Bool.or_eq_true, Bool.not_eq_true', Bool.and_eq_false_iff, decide_eq_true_eq, decide_eq_false_iff_not]
  refine ⟨fun h ch hof hne => ?_, fun h ch _ => ?_⟩
  · have := h ch (mem_chans ch)
    simp_all
  · have := h ch
    by_cases hof : (s.pump ch).of sp = true <;> by_cases hne : (s.pump ch).service = 0 <;> simp_all

theorem completes_iff_ready (sp : Span) (s : State) : completes sp s = true ↔ (s.st sp).state = .confirm ∧ s.Ready sp := by
  unfold completes State.Ready State.lightOf
  cases (s.config sp).mode <;> simp [pumpsLit_iff_lit, farReady_iff, and_assoc]

theorem completionTest_of_ready (hc : (s.st sp).state = .confirm) (h : s.Ready sp) : completionTest sp s = enterService sp s := by
  rw [completionTest, if_pos ((completes_iff_ready ..).mpr ⟨hc, h⟩)]

theorem completionTest_of_not_ready (h : ¬ s.Ready sp) : completionTest sp s = s := by
  rw [completionTest, if_neg (fun g => h ((completes_iff_ready ..).mp g).2)]

theorem completionTest_of_state (h : (s.st sp).state ≠ .confirm) : completionTest sp s = s := by
  rw [completionTest, if_neg (fun g => h ((completes_iff_ready ..).mp g).1)]

/-! ### The record entered, and the rest -/

/-- A span's record as it enters SERVICE (R32). -/
def SpanStatus.served (r : SpanStatus) : SpanStatus :=
  { r.enter .service false with causes := standingOnly r.causes, failures := 0 }

/-- What changes of a span's state leave as they were: all but the records, the enable lines and the events raised. -/
def SpanFrame (s t : State) : Prop := { t with status := s.status, pins := s.pins, raised := s.raised } = s

theorem SpanFrame.refl (s : State) : SpanFrame s s := rfl

theorem SpanFrame.eq (h : SpanFrame s t) : t = { s with status := t.status, pins := t.pins, raised := t.raised } := by
  conv_rhs => rw [← show _ = s from h]

theorem SpanFrame.trans (h : SpanFrame s t) (g : SpanFrame t u) : SpanFrame s u := by
  rw [SpanFrame, ← show _ = s from h, ← show _ = t from g]

theorem SpanFrame.pump (h : SpanFrame s t) (ch : Chan) : t.pump ch = s.pump ch := by rw [h.eq]; rfl

theorem raise_spanFrame (s : State) (src : Block) (e : Event) (span : EvSpan) (subject : Subject) :
    SpanFrame s (s.raise src e span subject) := rfl

theorem breakTest_spanFrame (sp : Span) (s : State) : SpanFrame s (breakTest sp s) := by
  obtain e | e := breakTest_cases sp s <;> rw [e] <;> rfl

theorem breakTest_raised (sp : Span) (s : State) : s.raised <+: (breakTest sp s).raised := by
  obtain e | e := breakTest_cases sp s <;> rw [e]
  exact List.prefix_append ..

@[simp] theorem breakTest_st (sp x : Span) (s : State) : (breakTest sp s).st x = s.st x := by
  obtain e | e := breakTest_cases sp s <;> rw [e]; rw [State.raise_st]

@[simp] theorem breakTest_pins (sp : Span) (s : State) : (breakTest sp s).pins = s.pins := by
  obtain e | e := breakTest_cases sp s <;> rw [e]; rfl

theorem enterService_served (sp : Span) (s : State) :
    enterService sp s = breakTest sp (engineRaise sp .serviceRestored .none_ (shift sp (s.st sp).served s)) := enterService_eq ..

theorem enterService_st (sp : Span) (s : State) : (enterService sp s).st sp = (s.st sp).served := by
  rw [enterService_served, breakTest_st, engineRaise, State.raise_st, shift_st_self]

theorem enterService_st_other (sp : Span) (s : State) : (enterService sp s).st sp.other = s.st sp.other := by
  rw [enterService_served, breakTest_st, engineRaise, State.raise_st, shift_st_other]

theorem enterService_frame (sp : Span) (s : State) : SpanFrame s (enterService sp s) := by
  rw [enterService_served]
  exact .trans (t := engineRaise sp .serviceRestored .none_ (shift sp (s.st sp).served s)) rfl (breakTest_spanFrame ..)

theorem enterService_raised (sp : Span) (s : State) :
    (s.raised ++ [⟨.engine sp, .serviceRestored, .one sp, .none_, s.time.tickCount, false⟩]) <+: (enterService sp s).raised := by
  rw [enterService_served]
  exact breakTest_raised sp (engineRaise sp .serviceRestored .none_ (shift sp (s.st sp).served s))

/-- The enable lines follow the spans' states once a span has changed its own. -/
theorem shift_spanEn (sp x : Span) (y : SpanStatus) (s : State) :
    (shift sp y s).pins.spanEn.get x = (s.part.run && (if x = sp then y else s.st x).state.lit) := by
  rw [← shift_st]; cases x <;> rfl

theorem enterService_spanEn (sp : Span) (s : State) : (enterService sp s).pins.spanEn.get sp = s.part.run := by
  have : (s.st sp).served.state.lit = true := rfl
  rw [enterService_served, breakTest_pins]
  refine (shift_spanEn ..).trans ?_
  rw [if_pos rfl, this, Bool.and_true]

/-! ### The completion test -/

theorem completionTest_frame (sp : Span) (s : State) : SpanFrame s (completionTest sp s) := by
  obtain ⟨-, e⟩ | ⟨-, e⟩ := completionTest_cases sp s <;> rw [e]
  · exact enterService_frame ..
  · exact .refl s

theorem completionTest_st_other (sp : Span) (s : State) : (completionTest sp s).st sp.other = s.st sp.other := by
  obtain ⟨-, e⟩ | ⟨-, e⟩ := completionTest_cases sp s <;> rw [e]; exact enterService_st_other ..

theorem completionTest_raised (sp : Span) (s : State) : s.raised <+: (completionTest sp s).raised := by
  obtain ⟨-, e⟩ | ⟨-, e⟩ := completionTest_cases sp s <;> rw [e]
  exact (List.prefix_append ..).trans (enterService_raised ..)

theorem completionTest_far (sp : Span) (s : State) : ((completionTest sp s).st sp).far = (s.st sp).far := by
  obtain ⟨-, e⟩ | ⟨-, e⟩ := completionTest_cases sp s <;> rw [e]; rw [enterService_st]; rfl

theorem completionTest_tag (sp : Span) (s : State) : ((completionTest sp s).st sp).tag = (s.st sp).tag := by
  obtain ⟨-, e⟩ | ⟨-, e⟩ := completionTest_cases sp s <;> rw [e]; rw [enterService_st]; rfl

/-! ### Entry to CONFIRM -/

/-- The state a span's proof leaves before its completion conditions are looked at: the pumps have taken RISE (R29). -/
def confirmed (sp : Span) (s : State) : State :=
  breakTest sp (riseSpan sp (shift sp ((s.st sp).proved (s.owes (.slot sp))) s))

theorem enterConfirm_confirmed (sp : Span) (s : State) : enterConfirm sp s = completionTest sp (confirmed sp s) := enterConfirm_eq ..

theorem confirmed_st (sp : Span) (s : State) : (confirmed sp s).st sp = (s.st sp).proved (s.owes (.slot sp)) := by
  rw [confirmed, breakTest_st, (show PumpFrame _ _ from riseSpan_frame sp _).st, shift_st_self]

theorem putPump_out (s : State) (ch : Chan) (p : Pump) : (s.putPump ch p).out = s.out := by
  obtain e | e := putPump_spec s ch p <;> rw [e] <;> rfl

/-- RISE sends no record. -/
theorem riseChannel_out (ch : Chan) (x : Nat) (s : State) : (riseChannel ch x s).out = s.out := by
  obtain ⟨-, e⟩ | ⟨-, e⟩ := riseChannel_cases ch x s <;> rw [e]
  exact putPump_out ..

theorem riseSpan_out (sp : Span) (s : State) : (riseSpan sp s).out = s.out := by
  refine forChans_inv (Q := fun s t => t.out = s.out) (fun _ => rfl) (fun h g => g.trans h) (fun ch t => ?_) s
  dsimp only
  split
  · exact riseChannel_out ..
  · rfl

/-- What the proof of a probe leaves as it was: all but the records, the channels, the owed ticks, the enable lines and the events. -/
def ProofFrame (s t : State) : Prop :=
  { t with status := s.status, pumps := s.pumps, owed := s.owed, pins := s.pins, raised := s.raised } = s

theorem ProofFrame.eq (h : ProofFrame s t) :
    t = { s with status := t.status, pumps := t.pumps, owed := t.owed, pins := t.pins, raised := t.raised } := by
  conv_rhs => rw [← show _ = s from h]

theorem enterConfirm_frame (sp : Span) (s : State) : ProofFrame s (enterConfirm sp s) := by
  have c := completionTest_frame sp (confirmed sp s)
  have b := breakTest_spanFrame sp (riseSpan sp (shift sp ((s.st sp).proved (s.owes (.slot sp))) s))
  have r : PumpFrame (shift sp ((s.st sp).proved (s.owes (.slot sp))) s) _ := riseSpan_frame sp _
  rw [ProofFrame, enterConfirm_confirmed, c.eq, confirmed, b.eq, r.eq, riseSpan_out]
  rfl

theorem enterConfirm_st_other (sp : Span) (s : State) : (enterConfirm sp s).st sp.other = s.st sp.other := by
  rw [enterConfirm_confirmed, completionTest_st_other, confirmed, breakTest_st, (show PumpFrame _ _ from riseSpan_frame sp _).st,
    shift_st_other]

/-- The proof of a probe takes its span to CONFIRM, or to SERVICE at once. -/
theorem enterConfirm_state (sp : Span) (s : State) :
    (((enterConfirm sp s).st sp).state = .confirm ∨ ((enterConfirm sp s).st sp).state = .service)
      ∧ ((enterConfirm sp s).st sp).ticks = 0 := by
  rw [enterConfirm_confirmed]
  obtain ⟨-, e⟩ | ⟨-, e⟩ := completionTest_cases sp (confirmed sp s) <;> rw [e]
  · rw [enterService_st]; exact ⟨.inr rfl, rfl⟩
  · rw [confirmed_st]; exact ⟨.inl rfl, rfl⟩

theorem enterConfirm_far (sp : Span) (s : State) : ((enterConfirm sp s).st sp).far = (s.st sp).far := by
  rw [enterConfirm_confirmed, completionTest_far, confirmed_st]; rfl

theorem enterConfirm_tag (sp : Span) (s : State) : ((enterConfirm sp s).st sp).tag = (s.st sp).tag := by
  rw [enterConfirm_confirmed, completionTest_tag, confirmed_st]; rfl

theorem enterConfirm_spanEn (sp : Span) (s : State) : (enterConfirm sp s).pins.spanEn.get sp = s.part.run := by
  have r : PumpFrame (shift sp ((s.st sp).proved (s.owes (.slot sp))) s) _ := riseSpan_frame sp _
  rw [enterConfirm_confirmed]
  obtain ⟨-, e⟩ | ⟨-, e⟩ := completionTest_cases sp (confirmed sp s) <;> rw [e]
  · rw [enterService_spanEn, confirmed, (breakTest_spanFrame sp _).eq, r.eq]; rfl
  · have lit : ((s.st sp).proved (s.owes (.slot sp))).state.lit = true := rfl
    rw [confirmed, breakTest_pins, r.eq]
    refine (shift_spanEn ..).trans ?_
    rw [if_pos rfl, lit, Bool.and_true]

theorem enterConfirm_pump (sp : Span) (s : State) (ch : Chan) :
    (enterConfirm sp s).pump ch = (riseSpan sp (shift sp ((s.st sp).proved (s.owes (.slot sp))) s)).pump ch := by
  rw [enterConfirm_confirmed, (completionTest_frame sp (confirmed sp s)).pump, confirmed, (breakTest_spanFrame sp _).pump]

theorem enterConfirm_raised (sp : Span) (s : State) : s.raised <+: (enterConfirm sp s).raised := by
  have r : PumpFrame (shift sp ((s.st sp).proved (s.owes (.slot sp))) s) _ := riseSpan_frame sp _
  have b := breakTest_raised sp (riseSpan sp (shift sp ((s.st sp).proved (s.owes (.slot sp))) s))
  rw [r.eq] at b
  rw [enterConfirm_confirmed]
  refine List.IsPrefix.trans ?_ (completionTest_raised ..)
  rw [confirmed, r.eq]
  exact b

/-! ### CONFIRM_COMPLETION -/

/-- Settles O22. -/
theorem confirmCompletionEntersService : Obligations.ConfirmCompletionEntersService := by
  intro s sp hr hc hp hf hl
  refine ⟨enterService sp s.fresh, ?_, ?_, ?_, ?_, ?_⟩
  · rw [exec, execConfirmCompletion, unlessReset_free hr,
      completionTest_of_ready (s := s.fresh) hc ⟨hp, hf, hl⟩]
  · rw [enterService_st]
    simp only [SpanStatus.served, SpanStatus.enter, standingOnly, show s.fresh.st sp = s.st sp from rfl]
    congr 1
    refine List.filter_congr fun e _ => ?_
    cases e <;> rfl
  · exact enterService_st_other ..
  · exact enterService_frame sp s.fresh
  · exact enterService_raised sp s.fresh

end Sys2Proof.Machine
end

section
/-! SUPPORT. The counters of a tick: the off timer, the silence counter, and the counts of a span in SHUT and in CONFIRM. -/

namespace Sys2Proof.Machine

variable {s t u : State} {sp : Span} {ch : Chan} {levels : BitVec 8}

/-- A row whose named event comes about is its consumer's tick. -/
theorem takeWhere_eq {j : TickJob} {happens : State → State → Bool} (hj : j ∈ s.owed) (run : runJob j (s.dropJob j) = t)
    (h : happens s t = true) : takeWhere j happens s = t := by
  rw [takeWhere, takeJob_of_mem hj, run, if_pos]
  simp [State.owes, hj, h]

/-! ### The off timer and the silence counter -/

theorem offTick_idle (h : (s.st sp).state ≠ .wait ∨ ¬ s.time.tickCount.toNat % 2 ^ (s.config sp).offStage = 0) : offTick sp s = s := by
  unfold offTick State.edge
  rw [if_neg]
  rintro ⟨hw, he⟩
  exact h.elim (· hw) (· (of_decide_eq_true he))

theorem offTick_counts (hw : (s.st sp).state = .wait) (he : s.time.tickCount.toNat % 2 ^ (s.config sp).offStage = 0) :
    offTick sp s = s.setSt sp
      { s.st sp with
        offTicks := min 15 ((s.st sp).offTicks + 1)
        offExpired := if min 15 ((s.st sp).offTicks + 1) < (s.config sp).offCount then (s.st sp).offExpired else true } := by
  unfold offTick State.edge
  rw [if_pos ⟨hw, decide_eq_true he⟩]
  simp only [satSucc]
  congr 2
  split
  next h => simp [Nat.not_le.mpr h]
  next h => simp [Nat.le_of_not_lt h]

theorem offTick_expires (hw : (s.st sp).state = .wait) (he : s.time.tickCount.toNat % 2 ^ (s.config sp).offStage = 0)
    (hn : (s.config sp).offCount ≤ min 15 ((s.st sp).offTicks + 1)) :
    offTick sp s = s.setSt sp { s.st sp with offTicks := min 15 ((s.st sp).offTicks + 1), offExpired := true } := by
  rw [offTick_counts hw he, if_neg (Nat.not_lt.mpr hn)]

theorem silenceTick_idle (h : (s.line sp).live = false ∨ ¬ s.time.tickCount.toNat % 2 ^ (s.config sp).silenceStage = 0) :
    silenceTick sp s = s := by
  unfold silenceTick State.edge
  rw [if_neg]
  rintro ⟨hl, he⟩
  exact h.elim (fun g => by rw [g] at hl; cases hl) (· (of_decide_eq_true he))

theorem silenceTick_counts (hl : (s.line sp).live = true) (he : s.time.tickCount.toNat % 2 ^ (s.config sp).silenceStage = 0)
    (hn : min 15 ((s.line sp).silence + 1) < (s.config sp).silenceCount) :
    silenceTick sp s = s.setLine sp { s.line sp with silence := min 15 ((s.line sp).silence + 1) } := by
  unfold silenceTick State.edge
  rw [if_pos ⟨hl, decide_eq_true he⟩]
  exact if_neg (Nat.not_le.mpr hn)

/-- The test of R25 as an event added, or none. -/
theorem breakTest_eq (sp : Span) (s : State) :
    breakTest sp s =
      { s with
        raised := s.raised ++
          if (s.config sp).mode = .frame ∧ ((s.st sp).state = .service ∨ (s.st sp).state = .confirm)
              ∧ (s.inp sp).light = .absent ∧ (s.line sp).live = false then
            [⟨.engine sp, .spanBreak, .one sp, .monitor (Config.inputChan sp), s.time.tickCount, false⟩]
          else [] } := by
  unfold breakTest State.lightOf
  simp only [isOpen_iff, or_comm (a := (s.st sp).state = .service)]
  split
  · rfl
  · rw [List.append_nil]

theorem silenceTick_falls (hl : (s.line sp).live = true) (he : s.time.tickCount.toNat % 2 ^ (s.config sp).silenceStage = 0)
    (hn : (s.config sp).silenceCount ≤ min 15 ((s.line sp).silence + 1)) :
    silenceTick sp s =
      breakTest sp ((s.setLine sp { s.line sp with silence := min 15 ((s.line sp).silence + 1), live := false }).raise
        (.linePort sp) .framesLost (.one sp) (.port sp.port)) := by
  unfold silenceTick State.edge
  rw [if_pos ⟨hl, decide_eq_true he⟩]
  exact if_pos hn

theorem inputChan_eq (sp : Span) : Config.inputChan sp = if sp = .ws then 0 else 4 := by cases sp <;> rfl

theorem offTimer_mem (sp : Span) : TickJob.offTimer sp ∈ Config.allJobs := by cases sp <;> decide

theorem silence_mem (sp : Span) : TickJob.silence sp ∈ Config.allJobs := by cases sp <;> decide

theorem slot_mem (sp : Span) : TickJob.slot sp ∈ Config.allJobs := by cases sp <;> decide

/-- Settles O17. -/
theorem edgeCountersExpire : Obligations.EdgeCountersExpire := by
  refine ⟨fun s sp hr hj hw hx he hn => ?_, fun s sp hr hj hl he hn => ?_, fun levels s sp hr ho => ?_⟩
  · have count : offTick sp (s.fresh.dropJob (.offTimer sp)) = _ := offTick_expires hw he hn
    rw [exec, execOffExpired, unlessReset_free hr]
    refine congrArg _ (takeWhere_eq (s := s.fresh) hj count ?_)
    rw [offExpires, State.setSt_st_self, show (s.fresh.st sp).offExpired = false from hx]
    rfl
  · have count : silenceTick sp (s.fresh.dropJob (.silence sp)) = _ := silenceTick_falls hl he hn
    rw [breakTest_eq, State.raise_line, State.setLine_line_self, inputChan_eq] at count
    simp only [and_true] at count
    rw [exec, execPortSilent, unlessReset_free hr]
    refine congrArg _ (takeWhere_eq (s := s.fresh) hj count ?_)
    rw [portFalls, show (s.fresh.line sp).live = true from hl]
    cases sp <;> rfl
  · have off := exec_tick_one levels hr ho (offTimer_mem sp)
    have silence := exec_tick_one levels hr ho (silence_mem sp)
    refine ⟨fun hw he => off.trans ?_, fun h => off.trans ?_, fun hl he hn => silence.trans ?_, fun h => silence.trans ?_⟩
    · exact congrArg _ (offTick_counts (s := (s.ticked levels).dropJob (.offTimer sp)) hw he)
    · exact congrArg _ (offTick_idle (s := (s.ticked levels).dropJob (.offTimer sp)) h)
    · exact congrArg _ (silenceTick_counts (s := (s.ticked levels).dropJob (.silence sp)) hl he hn)
    · exact congrArg _ (silenceTick_idle (s := (s.ticked levels).dropJob (.silence sp)) h)

/-! ### The slot of a span in SHUT and in CONFIRM -/

/-- The state with a tick's slot recorded. -/
def State.recorded (s : State) (sp : Span) : State := s.setSlots sp (s.slotValue sp :: (s.slots sp).take 255)

theorem slotTick_recorded (h : (s.st sp).startsNext = false) : slotTick sp s = engineTick sp (s.slotValue sp) (s.recorded sp) := by
  obtain ⟨g, -⟩ | ⟨-, e⟩ := slotTick_cases sp s
  · rw [h] at g; cases g
  · exact e

/-- The slot of a span in SHUT since before the tick. -/
theorem runJob_slot_shut (h : (s.st sp).startsNext = false) (hs : (s.st sp).state = .shut) :
    runJob (.slot sp) s = darkTest sp (s.slotValue sp) (s.recorded sp) := by
  rw [runJob, slotTick_recorded h, engineTick, State.recorded, State.setSlots_st, hs]

/-- The slot of a span in CONFIRM since before the tick. -/
theorem runJob_slot_confirm (h : (s.st sp).startsNext = false) (hs : (s.st sp).state = .confirm) :
    runJob (.slot sp) s = confirmTick sp (s.recorded sp) := by
  rw [runJob, slotTick_recorded h, engineTick, State.recorded, State.setSlots_st, hs]

theorem enter_wait_eq {r : SpanStatus} (h : r.startsNext = false) :
    r.enter .wait false
      = { r with state := .wait, ticks := 0, callPending := false, offTicks := 0, offExpired := false, probeLength := none } := by
  simp [SpanStatus.enter, h]

theorem darkTest_dark {slot : Nat} (h : slot ≤ (s.config sp).darkTolerance) :
    darkTest sp slot s = shift sp ((s.st sp).enter .wait false) s := by
  exact (if_pos h).trans (enterWait_eq ..)

theorem darkTest_counts {slot : Nat} (h : (s.config sp).darkTolerance < slot)
    (hn : (s.st sp).darkFailRaised = true ∨ min 65535 ((s.st sp).ticks + 1) < (s.config sp).darkTimeout) :
    darkTest sp slot s = s.setSt sp { s.st sp with ticks := min 65535 ((s.st sp).ticks + 1) } := by
  refine (if_neg (Nat.not_le.mpr h)).trans (if_neg ?_)
  rintro ⟨h1, h2⟩
  exact hn.elim (fun g => by rw [g] at h2; cases h2) (fun g => absurd h1 (Nat.not_le.mpr g))

theorem darkTest_fails {slot n : Nat} (h : (s.config sp).darkTolerance < slot) (e : min 65535 ((s.st sp).ticks + 1) = n)
    (hn : (s.config sp).darkTimeout ≤ n) (hf : (s.st sp).darkFailRaised = false) :
    darkTest sp slot s =
      engineRaise sp .darkFail .none_ (s.setSt sp { s.st sp with ticks := n, darkFailRaised := true }) := by
  subst e
  exact (if_neg (Nat.not_le.mpr h)).trans (if_pos ⟨hn, hf⟩)

theorem confirmTick_counts
    (hn : (s.st sp).confirmRaised = true ∨ min 65535 ((s.st sp).ticks + 1) < (s.config sp).confirmTimeout) :
    confirmTick sp s = s.setSt sp { s.st sp with ticks := min 65535 ((s.st sp).ticks + 1) } := by
  refine if_neg ?_
  rintro ⟨h1, h2⟩
  exact hn.elim (fun g => by rw [g] at h2; cases h2) (fun g => absurd h1 (Nat.not_le.mpr g))

theorem confirmTick_fails {n : Nat} (e : min 65535 ((s.st sp).ticks + 1) = n) (hn : (s.config sp).confirmTimeout ≤ n)
    (hf : (s.st sp).confirmRaised = false) :
    confirmTick sp s = engineRaise sp .confirmTimeout .none_ (s.setSt sp { s.st sp with ticks := n, confirmRaised := true }) := by
  subst e
  exact if_pos ⟨hn, hf⟩

theorem darkFails_of (hs : (s.st sp).state = .shut) (hf : (s.st sp).darkFailRaised = false)
    (ht : (t.st sp).darkFailRaised = true) : darkFails sp s t = true := by
  simp [darkFails, hs, hf, ht]

theorem confirmFails_of (hs : (s.st sp).state = .confirm) (hf : (s.st sp).confirmRaised = false)
    (ht : (t.st sp).confirmRaised = true) : confirmFails sp s t = true := by
  simp [confirmFails, hs, hf, ht]

theorem engineRaise_setSt_st (sp : Span) (e : Event) (subject : Subject) (y : SpanStatus) (s : State) :
    (engineRaise sp e subject (s.setSt sp y)).st sp = y := State.setSt_st_self ..

@[simp] theorem State.recorded_st (s : State) (sp x : Span) : (s.recorded sp).st x = s.st x := rfl

@[simp] theorem State.recorded_config (s : State) (sp x : Span) : (s.recorded sp).config x = s.config x := rfl

/-- DARK_TIMEOUT, where DARK_FAIL is due. -/
theorem takeWhere_darkFails {n : Nat} (hj : .slot sp ∈ s.owed) (hn : (s.st sp).startsNext = false) (hs : (s.st sp).state = .shut)
    (hd : (s.config sp).darkTolerance < s.slotValue sp) (e : min 65535 ((s.st sp).ticks + 1) = n)
    (ht : (s.config sp).darkTimeout ≤ n) (hf : (s.st sp).darkFailRaised = false) :
    takeWhere (.slot sp) (darkFails sp) s =
      engineRaise sp .darkFail .none_
        (((s.dropJob (.slot sp)).recorded sp).setSt sp { s.st sp with ticks := n, darkFailRaised := true }) := by
  have run := runJob_slot_shut (s := s.dropJob (.slot sp)) hn hs
  rw [darkTest_fails (s := (s.dropJob (.slot sp)).recorded sp) (slot := (s.dropJob (.slot sp)).slotValue sp) hd e ht hf,
    State.recorded_st, State.dropJob_st] at run
  exact takeWhere_eq hj run (darkFails_of hs hf (by rw [engineRaise_setSt_st]))

/-- CONFIRM_TIMEOUT, where it is due. -/
theorem takeWhere_confirmFails {n : Nat} (hj : .slot sp ∈ s.owed) (hn : (s.st sp).startsNext = false)
    (hs : (s.st sp).state = .confirm) (e : min 65535 ((s.st sp).ticks + 1) = n) (ht : (s.config sp).confirmTimeout ≤ n)
    (hf : (s.st sp).confirmRaised = false) :
    takeWhere (.slot sp) (confirmFails sp) s =
      engineRaise sp .confirmTimeout .none_
        (((s.dropJob (.slot sp)).recorded sp).setSt sp { s.st sp with ticks := n, confirmRaised := true }) := by
  have run := runJob_slot_confirm (s := s.dropJob (.slot sp)) hn hs
  rw [confirmTick_fails (s := (s.dropJob (.slot sp)).recorded sp) e ht hf, State.recorded_st, State.dropJob_st] at run
  exact takeWhere_eq hj run (confirmFails_of hs hf (by rw [engineRaise_setSt_st]))

/-- Settles O18. -/
theorem darkAndConfirmTimeouts : Obligations.DarkAndConfirmTimeouts := by
  refine ⟨fun s sp hr hs hn => ?_, fun s sp hr hs hn => ?_⟩
  · have atTick (levels : BitVec 8) (ho : s.owed = []) :
        exec (.tick levels [.slot sp]) s
          = .next (darkTest sp (s.slotValue sp) (((s.ticked levels).dropJob (.slot sp)).recorded sp)) :=
      (exec_tick_one levels hr ho (slot_mem sp)).trans
        (congrArg _ (runJob_slot_shut (s := (s.ticked levels).dropJob (.slot sp)) hn hs))
    refine ⟨fun levels ho hd => ?_, fun hj hd ht hf => ?_, fun levels ho hd ht => ?_⟩
    · rw [atTick levels ho, darkTest_dark (s := ((s.ticked levels).dropJob (.slot sp)).recorded sp) hd]
      refine ⟨_, rfl, shift_st_other .., rfl, ?_⟩
      rw [shift_st_self]
      exact enter_wait_eq hn
    · rw [exec, execDarkTimeout, unlessReset_free hr, takeWhere_darkFails (s := s.fresh) hj hn hs hd rfl ht hf]
      rfl
    · rw [atTick levels ho, darkTest_counts (s := ((s.ticked levels).dropJob (.slot sp)).recorded sp) hd ht]
      exact ⟨_, rfl, PerSpan.get_set_other .., rfl, State.setSt_st_self ..⟩
  · refine ⟨fun hj ht hf => ?_, fun levels ho ht => ?_⟩
    · rw [exec, execConfirmTimeout, unlessReset_free hr, takeWhere_confirmFails (s := s.fresh) hj hn hs rfl ht hf]
      rfl
    · rw [exec_tick_one levels hr ho (slot_mem sp), runJob_slot_confirm (s := (s.ticked levels).dropJob (.slot sp)) hn hs,
        confirmTick_counts (s := ((s.ticked levels).dropJob (.slot sp)).recorded sp) ht]
      exact ⟨_, rfl, PerSpan.get_set_other .., rfl, State.setSt_st_self ..⟩

end Sys2Proof.Machine
end

section
/-! SUPPORT. Notices as they are offered, and the events that only notify. -/

namespace Sys2Proof.Machine

variable {s t u : State} {sp : Span} {ev : Raised} {rest : List Raised}

/-! ### Notices offered -/

/-- What offers of notices leave as it was: all but the notice queue and the ports. -/
def NoticeFrame (s t : State) : Prop := { t with notices := s.notices, lines := s.lines, localPort := s.localPort } = s

theorem NoticeFrame.refl (s : State) : NoticeFrame s s := rfl

theorem NoticeFrame.eq (h : NoticeFrame s t) : t = { s with notices := t.notices, lines := t.lines, localPort := t.localPort } := by
  conv_rhs => rw [← show _ = s from h]

theorem NoticeFrame.trans (h : NoticeFrame s t) (g : NoticeFrame t u) : NoticeFrame s u := by
  rw [NoticeFrame, ← show _ = s from h, ← show _ = t from g]

theorem setBase_noticeFrame (s : State) (p : Port) (b : PortBase) : NoticeFrame s (s.setBase p b) := by cases p <;> rfl

theorem departNotices_frame (s : State) : NoticeFrame s (departNotices s) := by
  obtain ⟨k, -, e⟩ := departures_spec Config.queueRoom s
  rw [departNotices, e]
  exact .trans (t := { s with notices := s.notices.drop k }) rfl (setBase_noticeFrame ..)

theorem offerNotice_frame (n : Notice) (s : State) : NoticeFrame s (offerNotice n s) := by
  unfold offerNotice
  split
  · exact .trans (t := { s with notices := s.notices ++ [n] }) rfl (departNotices_frame _)
  · exact rfl

theorem offerAll_cons (n : Notice) (ns : List Notice) (s : State) : offerAll (n :: ns) s = offerAll ns (offerNotice n s) := rfl

theorem offerAll_frame (ns : List Notice) (s : State) : NoticeFrame s (offerAll ns s) := by
  induction ns generalizing s with
  | nil => exact .refl s
  | cons n ns ih => exact (offerNotice_frame n s).trans (ih _)

theorem toLocalQueue_of_room {p : Port} (m : Msg) (h : (s.base p).queue.length < 8) :
    s.toLocalQueue p m = s.setBase p { s.base p with queue := (s.base p).queue ++ [m] } := by
  obtain ⟨-, e⟩ | ⟨g, -⟩ := enqueue_cases (s.base p).queue m
  · rw [toLocalQueue_eq, e]
  · omega

/-- A notice offered while none waits and the notice port has room leaves at once (R163). -/
theorem offerNotice_leaves (n : Notice) (h : s.notices = []) (hq : (s.base s.part.noticePort).queue.length < 8) :
    offerNotice n s
      = s.setBase s.part.noticePort
          { s.base s.part.noticePort with queue := (s.base s.part.noticePort).queue ++ [noticeMsg s n] } := by
  have room : s.notices.length < Config.noticeRoom := by rw [h]; decide
  have alone (l : List Notice) : { { s with notices := l } with notices := [] } = s := by rw [← h]
  have port : (({ s with notices := s.notices ++ [n] } : State).base s.part.noticePort).queue.length < Config.queueRoom := by
    cases hp : s.part.noticePort <;> rw [hp] at hq <;> exact hq
  have left : noticeMsg { s with notices := s.notices ++ [n] } n = noticeMsg s n := rfl
  have empty : (s.toLocalQueue s.part.noticePort (noticeMsg s n)).notices = [] := by
    rw [toLocalQueue_eq, State.setBase_notices, h]
  rw [offerNotice, if_pos room, departNotices, show Config.queueRoom = 7 + 1 from rfl, departures]
  simp only [h, List.nil_append]
  rw [h, List.nil_append] at port left
  rw [if_pos port, alone, left, departures, empty]
  exact toLocalQueue_of_room _ hq

/-- Notices offered while none waits and the notice port has room for them leave at once, in order (R163). -/
theorem offerAll_leaves (ns : List Notice) (h : s.notices = [])
    (hq : (s.base s.part.noticePort).queue.length + ns.length ≤ 8) :
    offerAll ns s
      = s.setBase s.part.noticePort
          { s.base s.part.noticePort with queue := (s.base s.part.noticePort).queue ++ ns.map (noticeMsg s) } := by
  induction ns generalizing s with
  | nil =>
    simp only [List.map_nil, List.append_nil]
    exact (State.setBase_self s _).symm
  | cons n ns ih =>
    rw [List.length_cons] at hq
    rw [offerAll_cons, offerNotice_leaves n h (by omega)]
    generalize ht : s.setBase s.part.noticePort
      { s.base s.part.noticePort with queue := (s.base s.part.noticePort).queue ++ [noticeMsg s n] } = t
    have part : t.part = s.part := by rw [← ht, State.setBase_part]
    have base : t.base s.part.noticePort
        = { s.base s.part.noticePort with queue := (s.base s.part.noticePort).queue ++ [noticeMsg s n] } := by
      rw [← ht, State.setBase_base_self]
    have msg : noticeMsg t = noticeMsg s := by funext x; simp only [noticeMsg, part]
    rw [ih (by rw [← ht, State.setBase_notices, h]) (by rw [part, base]; simp; omega), part, base, msg, ← ht, State.setBase_setBase]
    simp

theorem markNewest_eq (l : List Notice) :
    markNewest l = l.take (l.length - 1) ++ (l.drop (l.length - 1)).map fun n => { n with moreLost := true } := by
  induction l with
  | nil => rfl
  | cons a l ih =>
    cases l with
    | nil => rfl
    | cons b l => rw [markNewest, ih]; rfl

theorem markNewest_length (l : List Notice) : (markNewest l).length = l.length := by
  rw [markNewest_eq]; simp

theorem markNewest_markNewest (l : List Notice) : markNewest (markNewest l) = markNewest l := by
  induction l with
  | nil => rfl
  | cons a l ih =>
    cases l with
    | nil => rfl
    | cons b l =>
      obtain ⟨c, l', e⟩ : ∃ c l', markNewest (b :: l) = c :: l' := by cases l <;> exact ⟨_, _, rfl⟩
      rw [markNewest, e, markNewest, ← e, ih]

/-- Notices offered to a full notice queue are lost, which marks the newest (R162). -/
theorem offerAll_full (ns : List Notice) (h : s.notices.length = 32) :
    offerAll ns s = { s with notices := if ns = [] then s.notices else markNewest s.notices } := by
  induction ns generalizing s with
  | nil => rfl
  | cons n ns ih =>
    have lost : offerNotice n s = { s with notices := markNewest s.notices } := if_neg (by rw [h]; decide)
    rw [offerAll_cons, lost, ih (by rw [← h]; exact markNewest_length _)]
    simp only [reduceCtorEq, if_false, markNewest_markNewest, ite_self]

/-! ### The notices of an event -/

theorem noticeMsg_spanNotice (s : State) (ev : Raised) (sp : Span) (x : SpanStatus) (added : Bool) :
    noticeMsg s (spanNotice ev sp ⟨x.state, x.causes, added⟩) = s.noticeAbout ev sp x := by
  obtain ⟨src, event, span, subject, stamp, second⟩ := ev
  cases subject <;> cases sp <;> simp only [noticeMsg, spanNotice, State.noticeAbout, State.noticeOf, noticeBody, spanCode] <;>
    cases s.part.noticePort <;> rfl

theorem noticeMsg_bareNotice (s : State) (ev : Raised) : noticeMsg s (bareNotice ev) = s.noticeOf ev 255 255 0 := by
  obtain ⟨src, event, span, subject, stamp, second⟩ := ev
  cases subject <;> simp only [noticeMsg, bareNotice, State.noticeOf, noticeBody] <;> cases s.part.noticePort <;> rfl

/-! ### Events taken -/

theorem exec_eventTaken (b : Block) (hr : s.pins.resetLine = false) : exec (.eventTaken b) s = .next (takeOldest b s.fresh) := by
  rw [exec, execEventTaken, unlessReset_free hr]

/-- The oldest event of all is the oldest of its block. -/
theorem exec_eventTaken_first (hr : s.pins.resetLine = false) (h : s.raised = ev :: rest) :
    exec (.eventTaken ev.src) s = .next (takeEvent ev { s.fresh with raised := rest }) := by
  have pick : pickEvent ev.src s.fresh.raised = some (ev, rest) := by
    rw [show s.fresh.raised = s.raised from rfl, h, pickEvent, if_pos rfl]
  rw [exec_eventTaken _ hr, takeOldest, pick]

theorem takeOldest_none {b : Block} (h : pickEvent b s.raised = none) : takeOldest b s = s := by
  rw [takeOldest, h]

theorem takeOldest_some {b : Block} {l : List Raised} (h : pickEvent b s.raised = some (ev, l)) :
    takeOldest b s = takeEvent ev { s with raised := l } := by
  rw [takeOldest, h]

theorem entry_eq (s : State) {e : Event} : s.table[e.id]? = some ⟨(s.entry e.id).action, (s.entry e.id).notify⟩ := by
  have hl : e.id < s.table.toList.length := by rw [Vector.length_toList]; exact event_id_lt e
  rw [State.entry, List.getD_eq_getElem _ _ hl, Vector.getElem_toList]
  exact Vector.getElem?_eq_getElem (event_id_lt e)

/-- The notices of an event that acts on no span, each as it leaves. -/
theorem offerAll_one {n : Notice} (h : s.notices = []) (hq : (s.base s.part.noticePort).queue.length + 1 ≤ 8) :
    offerAll [n] s = s.toLocalQueue s.part.noticePort (noticeMsg s n) := by
  rw [offerAll_leaves [n] h hq, toLocalQueue_of_room _ (by omega)]; rfl

theorem offerAll_two {n m : Notice} (h : s.notices = []) (hq : (s.base s.part.noticePort).queue.length + 2 ≤ 8) :
    offerAll [n, m] s
      = (s.toLocalQueue s.part.noticePort (noticeMsg s n)).toLocalQueue s.part.noticePort (noticeMsg s m) := by
  rw [offerAll_leaves [n, m] h hq, toLocalQueue_of_room (s := s) _ (by omega),
    toLocalQueue_of_room _ (by rw [State.setBase_base_self, List.length_append, List.length_singleton]; omega),
    State.setBase_base_self, State.setBase_setBase]
  simp

/-- An event taken in RUN. -/
theorem takeEvent_run (hr : s.part.run = true) {act : Action} (ha : actingAction s ev = act) {reports : List (Span × Report)}
    (hand : handAction act ev.event (actionSpans act ev) (if act = .snuffAll then snuffAll s else s) = (t, reports)) :
    takeEvent ev s
      = if s.notifyOf ev.event then
          offerAll (if ev.span = .none_ then [bareNotice ev] else noticesOf act ev reports) (pairLockouts s.raised.length t)
        else pairLockouts s.raised.length t := by
  unfold takeEvent
  rw [if_neg (by rw [hr]; decide)]
  simp only [ha, hand]

/-- An event for spans that acts on none, in STANDBY or by a NOTE action (R13, R160). -/
theorem takeEvent_note (hs : ev.span ≠ .none_) (h : s.actionOf ev.event = .note ∨ s.part.run = false) :
    ∃ added : Bool, takeEvent ev s
      = if s.notifyOf ev.event then
          offerAll (ev.span.spans.map fun sp => spanNotice ev sp ⟨(s.st sp).state, (s.st sp).causes, added⟩) s
        else s := by
  refine ⟨false, ?_⟩
  cases hr : s.part.run
  · simp [takeEvent, hr, standbyNotices, hs]
  · have ha : s.actionOf ev.event = .note := by rw [hr] at h; simpa using h
    have act : actingAction s ev = .note := by rw [actingAction, if_neg hs, ha]
    have hand (l : List Span) : handAction .note ev.event l s
        = (s, l.map fun sp => (sp, ⟨(s.st sp).state, (s.st sp).causes, false⟩)) := by
      induction l with
      | nil => rfl
      | cons x l ih => simp [handAction, actOn, reportOf, ih]
    have pair : pairLockouts s.raised.length s = s := if_neg (by omega)
    rw [takeEvent_run hr act (hand ev.span.spans), pair, if_neg hs]
    simp [noticesOf, Function.comp_def]

/-- An event for no span only notifies (R154, R160). -/
theorem takeEvent_none (hs : ev.span = .none_) :
    takeEvent ev s = if s.notifyOf ev.event then offerAll [bareNotice ev] s else s := by
  cases hr : s.part.run
  · simp [takeEvent, hr, standbyNotices, hs]
  · have act : actingAction s ev = .note := by rw [actingAction, if_pos hs]
    have hand : handAction .note ev.event (actionSpans .note ev) s = (s, []) := by
      rw [show actionSpans .note ev = ev.span.spans from rfl, hs]; rfl
    have pair : pairLockouts s.raised.length s = s := if_neg (by omega)
    rw [takeEvent_run hr act hand, pair, if_pos hs]

theorem takeEvent_note_one (hs : ev.span = .one sp) (h : s.actionOf ev.event = .note ∨ s.part.run = false) (hn : s.notices = [])
    (hq : (s.base s.part.noticePort).queue.length + 1 ≤ 8) :
    takeEvent ev s
      = if s.notifyOf ev.event then s.toLocalQueue s.part.noticePort (s.noticeAbout ev sp (s.st sp)) else s := by
  obtain ⟨b, e⟩ := takeEvent_note (by rw [hs]; simp) h
  rw [e, hs, show (EvSpan.one sp).spans = [sp] from rfl, List.map_singleton, offerAll_one hn hq, noticeMsg_spanNotice]

theorem takeEvent_note_both (hs : ev.span = .both) (h : s.actionOf ev.event = .note ∨ s.part.run = false) (hn : s.notices = [])
    (hq : (s.base s.part.noticePort).queue.length + 2 ≤ 8) :
    takeEvent ev s
      = if s.notifyOf ev.event then
          (s.toLocalQueue s.part.noticePort (s.noticeAbout ev .ws (s.st .ws))).toLocalQueue s.part.noticePort
            (s.noticeAbout ev .es (s.st .es))
        else s := by
  obtain ⟨b, e⟩ := takeEvent_note (by rw [hs]; simp) h
  rw [e, hs, show EvSpan.both.spans = [.ws, .es] from rfl, List.map_cons, List.map_singleton, offerAll_two hn hq,
    noticeMsg_spanNotice, noticeMsg_spanNotice]

theorem takeEvent_none_one (hs : ev.span = .none_) (hn : s.notices = [])
    (hq : (s.base s.part.noticePort).queue.length + 1 ≤ 8) :
    takeEvent ev s
      = if s.notifyOf ev.event then s.toLocalQueue s.part.noticePort (s.noticeOf ev 255 255 0) else s := by
  rw [takeEvent_none hs, offerAll_one hn hq, noticeMsg_bareNotice]

theorem base_withRaised (s : State) (l : List Raised) (p : Port) : ({ s with raised := l } : State).base p = s.base p := by
  cases p <;> rfl

/-- Settles O35. -/
theorem noteActionOnlyNotifies : Obligations.NoteActionOnlyNotifies := by
  refine ⟨fun s hr => ⟨fun b hb => ?_, fun ev before rest h hb hl => ?_, fun ev first before rest h hb h2 hf hl => ?_⟩,
    fun s e => ⟨fun h => ?_, fun h => ?_⟩, fun s ev rest hr h hn => ?_⟩
  · rw [exec_eventTaken b hr, takeOldest_none (s := s.fresh) (pickEvent_eq_none hb)]
  · have pick : pickEvent ev.src s.fresh.raised = some (ev, before ++ rest) := by
      rw [show s.fresh.raised = s.raised from rfl, h, pickEvent_behind hb, if_neg]
      rintro ⟨h2, e, he, g⟩
      exact hl h2 e he g
    rw [exec_eventTaken _ hr, takeOldest_some pick,
      exec_eventTaken_first (s := { s with raised := ev :: (before ++ rest) }) hr rfl]
    rfl
  · have pick : pickEvent ev.src s.fresh.raised = none := by
      rw [show s.fresh.raised = s.raised from rfl, h, pickEvent_behind hb, if_pos ⟨h2, first, hf, hl⟩]
    rw [exec_eventTaken _ hr, takeOldest_none pick]
  · rw [entry_eq, State.actionOf, State.notifyOf, if_pos h, if_pos h]
  · rw [State.notifyOf, State.actionOf, if_neg (Nat.not_lt.mpr h), if_neg (Nat.not_lt.mpr h)]
    exact ⟨rfl, by cases e <;> rfl⟩
  · have start : exec (.eventTaken ev.src) s = _ := exec_eventTaken_first hr h
    have port : ({ s.fresh with raised := rest } : State).base s.part.noticePort = s.base s.part.noticePort :=
      base_withRaised s.fresh rest _
    refine ⟨fun sp hsp ho hq => ?_, fun hsp ho hq => ?_, fun hsp hq => ?_⟩ <;> rw [← port] at hq <;> rw [start]
    · exact congrArg _ (takeEvent_note_one (s := { s.fresh with raised := rest }) hsp ho hn hq)
    · exact congrArg _ (takeEvent_note_both (s := { s.fresh with raised := rest }) hsp ho hn hq)
    · exact congrArg _ (takeEvent_none_one (s := { s.fresh with raised := rest }) hsp hn hq)

end Sys2Proof.Machine
end

section
/-! SUPPORT. What an action makes of the spans it is handed to, one after the other. -/

namespace Sys2Proof.Machine

variable {s t u : State} {sp : Span} {act : Action} {e : Event} {l : List Span}

/-! ### One span -/

/-- An action moves a span: SHUT_SPAN a lit one, LOCK_SPAN and SNUFF_ALL one that is in neither UNUSED nor LOCKED (R14 to R17). -/
def actMoves (act : Action) (e : Event) (x : SpanState) : Bool :=
  if act = .shutSpan then trips x e else decide (x ≠ .unused) && decide (x ≠ .locked)

/-- An action darkens the pumps of a span: of one that it moves and that is lit. -/
def actDarkens (act : Action) (e : Event) (x : SpanState) : Bool := actMoves act e x && x.lit

/-- A span's record after an action (R10, R14 to R17). -/
def SpanStatus.acted (r : SpanStatus) (act : Action) (e : Event) (stands owes : Bool) : SpanStatus :=
  if r.state = .unused then r
  else if actMoves act e r.state then
    (if act = .shutSpan then { (r.blamed e stands).enter .shut owes with darkFailRaised := false }
     else (r.blamed e stands).enter .locked false)
  else r.blamed e stands

/-- The LOCKOUT of an action that takes a span to LOCKED (R16). -/
def State.lockouts (s : State) (act : Action) (e : Event) (sp : Span) : List Raised :=
  if act ≠ .shutSpan ∧ actMoves act e (s.st sp).state = true then
    [⟨.engine sp, .lockout, .one sp, .none_, s.time.tickCount, false⟩]
  else []

theorem trips_lit {x : SpanState} (h : trips x e = true) : x.lit = true := ((trips_iff x e).mp h).1

theorem actMoves_shut (e : Event) (x : SpanState) : actMoves .shutSpan e x = trips x e := rfl

theorem actMoves_lock (h : act ≠ .shutSpan) (e : Event) (x : SpanState) :
    actMoves act e x = true ↔ x ≠ .unused ∧ x ≠ .locked := by
  simp [actMoves, h]

theorem actMoves_unused (act : Action) (e : Event) : actMoves act e .unused = false := by
  unfold actMoves
  split
  · rfl
  · simp

theorem acted_state (r : SpanStatus) (act : Action) (e : Event) (a b : Bool) :
    (r.acted act e a b).state = if actMoves act e r.state then (if act = .shutSpan then .shut else .locked) else r.state := by
  unfold SpanStatus.acted
  by_cases hu : r.state = .unused
  · rw [if_pos hu, hu, actMoves_unused]; rfl
  · rw [if_neg hu]
    split_ifs <;> rfl

theorem acted_failures (r : SpanStatus) (act : Action) (e : Event) (a b : Bool) : (r.acted act e a b).failures = r.failures := by
  unfold SpanStatus.acted
  split_ifs <;> rfl

theorem mem_acted {r : SpanStatus} {e e' : Event} {a b : Bool} :
    e' ∈ (r.acted act e a b).causes ↔ if e' = e ∧ r.state ≠ .unused then a = true else e' ∈ r.causes := by
  unfold SpanStatus.acted
  by_cases hu : r.state = .unused
  · rw [if_pos hu, if_neg (by rintro ⟨-, g⟩; exact g hu)]
  · have same : (if e' = e ∧ r.state ≠ .unused then a = true else e' ∈ r.causes) = (if e' = e then a = true else e' ∈ r.causes) := by
      simp [hu]
    rw [if_neg hu, same]
    split_ifs with h1 h2 <;> exact mem_blamed.trans (by simp [*])

/-- A span that an action does not move takes the cause only. -/
theorem acted_still {r : SpanStatus} {a b : Bool} (h : actMoves act e r.state = false) :
    r.acted act e a b = if r.state = .unused then r else r.blamed e a := by
  unfold SpanStatus.acted
  simp [h]

theorem acted_dark {r : SpanStatus} {a b : Bool} (h : r.state.lit = false) : (r.acted act e a b).state.lit = false := by
  rw [acted_state]
  split_ifs
  · rfl
  · rfl
  · exact h

@[simp] theorem takeSnuff_lights (p : Pump) : p.takeSnuff.lights = p.lights := (takeSnuff_keeps p).lights_eq

/-! ### The whole state -/

/-- What an action handed to some spans leaves: their records, the LOCKOUT events, the pumps of the lit spans it moves in the dark, their
lines off, and everything else. -/
structure Handled (act : Action) (e : Event) (l : List Span) (s t : State) : Prop where
  frame : { t with status := s.status, pumps := s.pumps, pins := s.pins, raised := s.raised, owed := s.owed, out := s.out } = s
  pins : { t.pins with spanEn := s.pins.spanEn } = s.pins
  kept : ∀ x, x ∉ l → t.st x = s.st x
  record : ∀ x ∈ l, ∃ b, t.st x = (s.st x).acted act e (s.stands x e) b
  pump : ∀ ch, ((∃ x ∈ l, (s.pump ch).lights = some x ∧ actDarkens act e (s.st x).state = true) → t.pump ch = (s.pump ch).takeSnuff)
    ∧ ((∀ x ∈ l, (s.pump ch).lights = some x → actDarkens act e (s.st x).state = false) → t.pump ch = s.pump ch)
  raised : t.raised = s.raised ++ l.flatMap (s.lockouts act e)
  off : ∀ x ∈ l, actMoves act e (s.st x).state = true → t.pins.spanEn.get x = false
  stayOff : ∀ x, (s.st x).state.lit = false → s.pins.spanEn.get x = false → t.pins.spanEn.get x = false
  still : (∀ x ∈ l, actMoves act e (s.st x).state = false) → t = { s with status := t.status }

theorem Handled.nil (act : Action) (e : Event) (s : State) : Handled act e [] s s where
  frame := rfl
  pins := rfl
  kept _ _ := rfl
  record _ h := nomatch h
  pump _ := ⟨fun ⟨_, h, _⟩ => (nomatch h), fun _ => rfl⟩
  raised := (List.append_nil _).symm
  off _ h := nomatch h
  stayOff _ _ h := h
  still _ := rfl

section Frame

variable (h : { t with status := s.status, pumps := s.pumps, pins := s.pins, raised := s.raised, owed := s.owed, out := s.out } = s)
include h

theorem handled_eq :
    t = { s with status := t.status, pumps := t.pumps, pins := t.pins, raised := t.raised, owed := t.owed, out := t.out } := by
  conv_rhs => rw [← h]

theorem handled_stands {x : Span} : t.stands x e = s.stands x e := by
  rw [handled_eq h]; cases e <;> rfl

theorem handled_time : t.time = s.time := by rw [← h]

theorem handled_part : t.part = s.part := by rw [← h]

end Frame

theorem Handled.cons {l : List Span} (hx : sp ∉ l) (h : Handled act e [sp] s t) (g : Handled act e l t u) :
    Handled act e (sp :: l) s u := by
  have st (x : Span) (hl : x ∈ l) : t.st x = s.st x := h.kept x (by rintro hm; exact hx (by simpa using (List.mem_singleton.mp hm) ▸ hl))
  have lockouts (x : Span) (hl : x ∈ l) : t.lockouts act e x = s.lockouts act e x := by
    simp only [State.lockouts, st x hl, handled_time h.frame]
  refine ⟨?_, ?_, fun x hm => ?_, fun x hm => ?_, fun ch => ⟨?_, fun hd => ?_⟩, ?_, fun x hm hv => ?_, fun x hd ho => ?_, fun hm => ?_⟩
  · have f := g.frame
    have f' := h.frame
    conv_rhs => rw [← f', ← f]
  · have f := g.pins
    conv_rhs => rw [← h.pins, ← f]
  · rw [List.mem_cons, not_or] at hm
    rw [g.kept x hm.2, h.kept x (by simpa using hm.1)]
  · obtain rfl | hm := List.mem_cons.mp hm
    · rw [g.kept x hx]; exact h.record x (by simp)
    · obtain ⟨b, eq⟩ := g.record x hm
      exact ⟨b, by rw [eq, st x hm, handled_stands h.frame]⟩
  · rintro ⟨x, hm, hl, hd⟩
    obtain rfl | hm := List.mem_cons.mp hm
    · have own := (h.pump ch).1 ⟨x, by simp, hl, hd⟩
      rw [(g.pump ch).2, own]
      intro y hy hly
      rw [own, takeSnuff_lights, hl] at hly
      cases hly; exact absurd hy hx
    · have own := (h.pump ch).2 (by
        intro y hy hly; rw [hl] at hly; cases hly
        exact absurd (List.mem_singleton.mp hy ▸ hm) hx)
      rw [(g.pump ch).1 ⟨x, hm, by rw [own, hl], by rw [st x hm, hd]⟩, own]
  · have own := (h.pump ch).2 fun y hy => hd y (by rw [List.mem_singleton.mp hy]; simp)
    rw [(g.pump ch).2, own]
    intro y hy hly
    rw [own] at hly
    rw [st y hy]
    exact hd y (List.mem_cons_of_mem _ hy) hly
  · rw [g.raised, h.raised, List.flatMap_cons, List.append_assoc]
    congr 1
    simp only [List.flatMap_cons, List.flatMap_nil, List.append_nil]
    rw [List.flatMap_congr lockouts]
  · obtain rfl | hm := List.mem_cons.mp hm
    · obtain ⟨b, eq⟩ := h.record x (by simp)
      refine g.stayOff x ?_ (h.off x (by simp) hv)
      rw [eq, acted_state, if_pos hv]
      split <;> rfl
    · exact g.off x hm (by rw [st x hm]; exact hv)
  · refine g.stayOff x ?_ (h.stayOff x hd ho)
    by_cases hm : x ∈ [sp]
    · obtain ⟨b, eq⟩ := h.record x hm
      rw [eq]; exact acted_dark hd
    · rw [h.kept x hm]; exact hd
  · have own := h.still fun x hx' => hm x (by rw [List.mem_singleton.mp hx']; simp)
    have others := g.still fun x hl => by rw [st x hl]; exact hm x (List.mem_cons_of_mem _ hl)
    rw [others, own]

/-- A span that the action does not move. -/
theorem actOn_still (ha : act ≠ .note) (h : actMoves act e (s.st sp).state = false) :
    actOn sp act e s = s.setSt sp ((s.st sp).acted act e (s.stands sp e) false) := by
  rw [acted_still h]
  by_cases hu : (s.st sp).state = .unused
  · rw [if_pos hu, State.setSt_self, actOn, if_pos (.inl hu)]
  · rw [if_neg hu, actOn_eq hu ha]
    by_cases hs : act = .shutSpan
    · subst hs
      rw [actMoves_shut] at h
      simp [h]
    · have locked : (s.st sp).state = .locked := by
        by_contra g
        rw [(actMoves_lock hs e _).mpr ⟨hu, g⟩] at h; cases h
      simp [hs, locked]

/-- A span that the action moves. -/
theorem actOn_moved (ha : act ≠ .note) (h : actMoves act e (s.st sp).state = true) :
    ∃ b, actOn sp act e s
      = { shift sp ((s.st sp).acted act e (s.stands sp e) b) (snuffLit sp s) with raised := s.raised ++ s.lockouts act e sp } := by
  have hu : (s.st sp).state ≠ .unused := fun hu => by rw [hu, actMoves_unused] at h; cases h
  have raised : (snuffLit sp s).raised = s.raised := by rw [(snuffLit_frame sp s).eq]
  have time : (snuffLit sp s).time = s.time := by rw [(snuffLit_frame sp s).eq]
  rw [actOn_eq hu ha]
  by_cases hs : act = .shutSpan
  · subst hs
    have ht : trips (s.st sp).state e = true := h
    have snuffed : snuffSpan sp s = snuffLit sp s := by rw [snuffLit, if_pos (trips_lit ht)]
    refine ⟨(snuffLit sp s).owes (.slot sp), ?_⟩
    simp only [if_true, ht, snuffed, SpanStatus.acted, if_neg hu, h, State.lockouts, ne_eq, not_true_eq_false, false_and,
      if_false, List.append_nil, ← raised]
    rfl
  · have hl : (s.st sp).state ≠ .locked := ((actMoves_lock hs e _).mp h).2
    refine ⟨false, ?_⟩
    simp only [hs, hl, if_false, SpanStatus.acted, if_neg hu, h, if_true, State.lockouts, ne_eq, not_false_eq_true, and_self,
      engineRaise, State.raise, ← raised, ← time]
    rfl

theorem snuffLit_pump (sp : Span) (s : State) (c : Chan) :
    (snuffLit sp s).pump c
      = if (s.st sp).state.lit = true ∧ (s.pump c).lights = some sp then (s.pump c).takeSnuff else s.pump c := by
  unfold snuffLit
  by_cases h : (s.st sp).state.lit = true
  · rw [if_pos h, snuffSpan_pump]; simp [h]
  · rw [if_neg h, if_neg fun g => h g.1]

/-- One span takes an action. -/
theorem actOn_handled (ha : act ≠ .note) (sp : Span) (e : Event) (s : State) : Handled act e [sp] s (actOn sp act e s) := by
  cases h : actMoves act e (s.st sp).state
  · have dark (x : Span) (hx : x ∈ [sp]) : actMoves act e (s.st x).state = false := by rw [List.mem_singleton.mp hx, h]
    rw [actOn_still ha h]
    refine ⟨rfl, rfl, fun x hx => ?_, fun x hx => ⟨false, ?_⟩, fun ch => ⟨?_, fun _ => rfl⟩, ?_, fun x hx hv => ?_,
      fun _ _ h => h, fun _ => rfl⟩
    · rw [State.setSt_st, if_neg (by simpa using hx)]
    · rw [List.mem_singleton.mp hx, State.setSt_st_self]
    · rintro ⟨x, hx, -, hd⟩
      rw [actDarkens, dark x hx] at hd; cases hd
    · simp [State.lockouts, h]
    · rw [dark x hx] at hv; cases hv
  · obtain ⟨b, eq⟩ := actOn_moved ha h
    have frame := (snuffLit_frame sp s).eq
    have lit : ((s.st sp).acted act e (s.stands sp e) b).state.lit = false := by
      rw [acted_state, if_pos h]; split <;> rfl
    have pump (c : Chan) : (actOn sp act e s).pump c = (snuffLit sp s).pump c := by rw [eq]; rfl
    have st (x : Span) : (actOn sp act e s).st x = if x = sp then (s.st sp).acted act e (s.stands sp e) b else s.st x := by
      rw [eq]; refine (shift_st ..).trans ?_; rw [snuffLit_st]
    have spanEn (x : Span) : (actOn sp act e s).pins.spanEn.get x
        = (s.part.run && (if x = sp then (s.st sp).acted act e (s.stands sp e) b else s.st x).state.lit) := by
      rw [eq]; refine (shift_spanEn ..).trans ?_; rw [snuffLit_st, (snuffLit_frame sp s).part]
    refine ⟨?_, ?_, fun x hx => ?_, fun x hx => ⟨b, ?_⟩, fun ch => ⟨?_, fun hd => ?_⟩, ?_, fun x hx hv => ?_,
      fun x hd ho => ?_, fun hm => ?_⟩
    · rw [eq, frame]; rfl
    · rw [eq, frame]; rfl
    · rw [st, if_neg (by simpa using hx)]
    · rw [st, if_pos (List.mem_singleton.mp hx), List.mem_singleton.mp hx]
    · rintro ⟨x, hx, hl, hd⟩
      rw [List.mem_singleton.mp hx] at hl hd
      rw [pump, snuffLit_pump, if_pos ⟨(Bool.and_eq_true_iff.mp hd).2, hl⟩]
    · rw [pump, snuffLit_pump, if_neg]
      rintro ⟨hlit, hl⟩
      have := hd sp (by simp) hl
      rw [actDarkens, h, hlit] at this; cases this
    · rw [eq]; simp
    · rw [spanEn, if_pos (List.mem_singleton.mp hx), lit, Bool.and_false]
    · rw [spanEn]
      split
      · rw [lit, Bool.and_false]
      · rw [hd, Bool.and_false]
    · rw [hm sp (by simp)] at h; cases h

/-- Several spans take an action in turn, and each reports its record as the last of them leaves it (R156). -/
theorem handAction_handled (ha : act ≠ .note) (e : Event) (l : List Span) (hl : l.Nodup) (s : State) :
    Handled act e l s (handAction act e l s).1
      ∧ (handAction act e l s).2 = l.map fun x =>
          (x, ⟨((handAction act e l s).1.st x).state, ((handAction act e l s).1.st x).causes, s.addsNewly x e⟩) := by
  induction l generalizing s with
  | nil => exact ⟨.nil .., rfl⟩
  | cons x l ih =>
    obtain ⟨hx, hl⟩ := List.nodup_cons.mp hl
    have own := actOn_handled ha x e s
    obtain ⟨others, reports⟩ := ih hl (actOn x act e s)
    refine ⟨own.cons hx others, ?_⟩
    have last : ((handAction act e (x :: l) s).1.st x) = (actOn x act e s).st x := others.kept x hx
    rw [List.map_cons, last]
    refine congrArg₂ List.cons ?_ (reports.trans (List.map_congr_left fun y hy => ?_))
    · rw [reportOf]
      congr 2
      unfold State.addsNewly newlyAdded SpanStatus.entryFlag
      cases e <;> simp [ha]
    · have kept : (actOn x act e s).st y = s.st y := own.kept y (by rintro hm; exact hx (List.mem_singleton.mp hm ▸ hy))
      have adds : (actOn x act e s).addsNewly y e = s.addsNewly y e := by simp only [State.addsNewly, kept]
      rw [adds]; rfl

end Sys2Proof.Machine
end

section
/-! SUPPORT. An event taken by an action on spans: the spans, the LOCKOUT events in their order, and the notices it builds. -/

namespace Sys2Proof.Machine

variable {s t u b : State} {sp : Span} {act : Action} {ev : Raised} {rest : List Raised} {l : List Span}

/-- The spans whose notices an event builds (R10, R160). -/
def State.told (s : State) (ev : Raised) (l : List Span) : List Span :=
  if s.notifyOf ev.event = true then l.filter fun x => s.addsNewly x ev.event else []

theorem setBase_ports {p : Port} {x : PortBase} (hl : t.lines = s.lines) (hp : t.localPort = s.localPort) :
    (t.setBase p x).lines = (s.setBase p x).lines ∧ (t.setBase p x).localPort = (s.setBase p x).localPort := by
  cases p <;> simp [State.setBase, State.setLine, State.line, hl, hp]

theorem base_of_ports (hl : t.lines = s.lines) (hp : t.localPort = s.localPort) (p : Port) : t.base p = s.base p := by
  cases p <;> simp [State.base, State.line, hl, hp]

theorem toldNotices_eq (hn : act ≠ .note) (adds : Span → Bool) (f : Span → SpanStatus) :
    noticesOf act ev (l.map fun x => (x, ⟨(f x).state, (f x).causes, adds x⟩))
      = (l.filter adds).map fun x => spanNotice ev x ⟨(f x).state, (f x).causes, adds x⟩ := by
  simp [noticesOf, hn, List.filter_map, Function.comp_def]

/-- What is left of an event once its action is done: the order of its LOCKOUT events, and its notices (R158 to R163). -/
structure Notified (s : State) (ev : Raised) (l : List Span) (t u : State) : Prop where
  frame : NoticeFrame (pairLockouts (s.raised.length - 1) t) u
  sent : s.notices = [] → (s.base s.part.noticePort).queue.length + (s.told ev l).length ≤ 8 →
    s.HasSent u ((s.told ev l).map fun x => s.noticeAbout ev x (u.st x))
  full : s.notices.length = 32 →
    u.notices = (if s.told ev l = [] then s.notices
        else s.notices.take 31 ++ (s.notices.drop 31).map fun n => { n with moreLost := true })
      ∧ u.lines = s.lines ∧ u.localPort = s.localPort

/-- The state that an event's action finds: the event is gone, and SNUFF_ALL has darkened every channel. -/
def State.facing (s : State) (act : Action) (rest : List Raised) : State :=
  if act = .snuffAll then snuffAll { s.fresh with raised := rest } else { s.fresh with raised := rest }

theorem facing_frame (s : State) (act : Action) (rest : List Raised) :
    PumpFrame { s.fresh with raised := rest } (s.facing act rest) := by
  unfold State.facing
  split
  · exact snuffAll_frame _
  · exact .refl _

theorem facing_st (x : Span) : (s.facing act rest).st x = s.st x := (facing_frame ..).st x

theorem facing_addsNewly (x : Span) (e : Event) : (s.facing act rest).addsNewly x e = s.addsNewly x e := by
  simp only [State.addsNewly, facing_st]

theorem pairLockouts_ports (n : Nat) (t : State) :
    (pairLockouts n t).part = t.part ∧ (pairLockouts n t).notices = t.notices ∧ (pairLockouts n t).lines = t.lines
      ∧ (pairLockouts n t).localPort = t.localPort ∧ ∀ x, (pairLockouts n t).st x = t.st x := by
  rw [pairLockouts_spec]; exact ⟨rfl, rfl, rfl, rfl, fun _ => rfl⟩

/-- Notices offered after an action. -/
theorem notified_offer (hraised : s.raised = ev :: rest) (part : t.part = s.part) (notices : t.notices = s.notices)
    (lines : t.lines = s.lines) (localPort : t.localPort = s.localPort) (added : Span → Bool) :
    Notified s ev l t
      (offerAll ((s.told ev l).map fun x => spanNotice ev x ⟨(t.st x).state, (t.st x).causes, added x⟩)
        (pairLockouts rest.length t)) := by
  have count : s.raised.length - 1 = rest.length := by rw [hraised]; rfl
  obtain ⟨p1, p2, p3, p4, p5⟩ := pairLockouts_ports rest.length t
  rw [part] at p1; rw [notices] at p2; rw [lines] at p3; rw [localPort] at p4
  generalize hns : (s.told ev l).map (fun x => spanNotice ev x ⟨(t.st x).state, (t.st x).causes, added x⟩) = ns
  have len : ns.length = (s.told ev l).length := by rw [← hns, List.length_map]
  have frame := offerAll_frame ns (pairLockouts rest.length t)
  have st (x : Span) : (offerAll ns (pairLockouts rest.length t)).st x = t.st x := by rw [frame.eq, ← p5]; rfl
  refine ⟨count ▸ frame, fun hn hq => ?_, fun hf => ?_⟩
  · have base := base_of_ports p3 p4 s.part.noticePort
    have msgs : ns.map (noticeMsg (pairLockouts rest.length t)) = (s.told ev l).map fun x => s.noticeAbout ev x (t.st x) := by
      rw [← hns, List.map_map]
      refine List.map_congr_left fun x _ => ?_
      rw [← noticeMsg_spanNotice s ev x (t.st x) (added x)]
      simp only [Function.comp, noticeMsg, p1]
    have closed := offerAll_leaves ns (p2.trans hn) (by rw [p1, base, len]; exact hq)
    rw [p1, base, msgs] at closed
    simp only [st]
    obtain ⟨e1, e2⟩ := setBase_ports (p := s.part.noticePort)
      (x := { s.base s.part.noticePort with
        queue := (s.base s.part.noticePort).queue ++ (s.told ev l).map fun x => s.noticeAbout ev x (t.st x) }) p3 p4
    rw [State.HasSent, closed]
    exact ⟨by rw [State.setBase_notices, p2, hn], e1, e2⟩
  · rw [offerAll_full ns (by rw [p2, hf])]
    refine ⟨?_, p3, p4⟩
    have empty : ns = [] ↔ s.told ev l = [] := by rw [← hns, List.map_eq_nil_iff]
    simp only [empty, p2]
    split
    · rfl
    · rw [markNewest_eq, hf]

/-- An event that acts on spans, taken in RUN. -/
theorem exec_eventTaken_acts (hr : s.pins.resetLine = false) (hrun : s.part.run = true) (hraised : s.raised = ev :: rest)
    (hs : ev.span ≠ .none_) (hact : s.actionOf ev.event = act) (hn : act ≠ .note) (hl : actionSpans act ev = l) (nodup : l.Nodup) :
    ∃ t u, exec (.eventTaken ev.src) s = .next u ∧ Handled act ev.event l (s.facing act rest) t ∧ Notified s ev l t u := by
  obtain ⟨handled, reports⟩ := handAction_handled hn ev.event l nodup (s.facing act rest)
  generalize hh : handAction act ev.event l (s.facing act rest) = h at handled reports
  obtain ⟨t, rs⟩ := h
  simp only at handled reports
  have acting : actingAction { s.fresh with raised := rest } ev = act := by
    rw [actingAction, if_neg hs]; exact hact
  have adds : (fun x => (s.facing act rest).addsNewly x ev.event) = fun x => s.addsNewly x ev.event := by
    funext x; exact facing_addsNewly ..
  have frame := handled.frame
  have base := (facing_frame s act rest).eq
  have keeps : t.part = s.part ∧ t.notices = s.notices ∧ t.lines = s.lines ∧ t.localPort = s.localPort := by
    rw [handled_eq frame, base]; exact ⟨rfl, rfl, rfl, rfl⟩
  obtain ⟨part, notices, lines, localPort⟩ := keeps
  have offer := notified_offer (l := l) hraised part notices lines localPort
  have taken : takeEvent ev { s.fresh with raised := rest }
      = offerAll ((s.told ev l).map fun x => spanNotice ev x ⟨(t.st x).state, (t.st x).causes, (s.facing act rest).addsNewly x ev.event⟩)
          (pairLockouts rest.length t) := by
    rw [takeEvent_run (s := { s.fresh with raised := rest }) hrun acting (t := t) (reports := rs) (by rw [hl]; exact hh), if_neg hs,
      reports, toldNotices_eq hn, adds, State.told]
    cases hb : s.notifyOf ev.event
    · rw [if_neg (by rw [show ({ s.fresh with raised := rest } : State).notifyOf ev.event = s.notifyOf ev.event from rfl, hb]; decide)]
      rfl
    · rw [if_pos (by rw [show ({ s.fresh with raised := rest } : State).notifyOf ev.event = s.notifyOf ev.event from rfl, hb])]
      rfl
  exact ⟨t, _, (exec_eventTaken_first hr hraised).trans (congrArg _ taken), handled, offer _⟩

/-! ### What is left of the state it was taken in -/

/-- The spans, pumps, lines and events that an event's action leaves, seen from the state in which the event was taken. -/
structure ActedOn (s : State) (ev : Raised) (act : Action) (l : List Span) (rest : List Raised) (u : State) : Prop where
  frame : { u with
      status := s.status, pumps := s.pumps, pins := s.pins, raised := s.raised, notices := s.notices, lines := s.lines
      localPort := s.localPort, owed := s.owed, out := [] } = s.fresh
  pins : { u.pins with spanEn := s.pins.spanEn } = s.pins
  kept : ∀ x, x ∉ l → u.st x = s.st x
  record : ∀ x ∈ l, ∃ b, u.st x = (s.st x).acted act ev.event (s.stands x ev.event) b
  pump : act ≠ .snuffAll → ∀ ch,
    ((∃ x ∈ l, (s.pump ch).lights = some x ∧ actDarkens act ev.event (s.st x).state = true) → (u.pump ch).state.isDark = true)
    ∧ ((∀ x ∈ l, (s.pump ch).lights = some x → actDarkens act ev.event (s.st x).state = false) → u.pump ch = s.pump ch)
  snuffed : act = .snuffAll → ∀ ch, (u.pump ch).state.isDark = true
  raised : u.raised
    = (let lockouts := l.flatMap (s.lockouts act ev.event)
       rest ++ if 2 ≤ lockouts.length then markSecond lockouts else lockouts)
  off : ∀ x ∈ l, actMoves act ev.event (s.st x).state = true → u.pins.spanEn.get x = false
  stayOff : ∀ x, (s.st x).state.lit = false → s.pins.spanEn.get x = false → u.pins.spanEn.get x = false
  still : act ≠ .snuffAll → (∀ x ∈ l, actMoves act ev.event (s.st x).state = false) →
    { u with status := s.status, raised := s.raised, notices := s.notices, lines := s.lines, localPort := s.localPort } = s.fresh

theorem markSecond_behind (k : List Raised) {m : List Raised} (h : m ≠ []) : markSecond (k ++ m) = k ++ markSecond m := by
  obtain rfl | ⟨m, a, rfl⟩ := m.eq_nil_or_concat
  · exact absurd rfl h
  · rw [List.concat_eq_append, ← List.append_assoc, markSecond_append, markSecond_append, List.append_assoc]

theorem actedOn_of_handled (hraised : s.raised = ev :: rest) (h : Handled act ev.event l (s.facing act rest) t)
    (n : Notified s ev l t u) : ActedOn s ev act l rest u := by
  have base := (facing_frame s act rest).eq
  have hf := handled_eq h.frame
  have uf := n.frame.eq
  have count : s.raised.length - 1 = rest.length := by rw [hraised]; rfl
  rw [count, pairLockouts_spec] at uf
  have st (x : Span) : u.st x = t.st x := by rw [uf]; rfl
  have pins : u.pins = t.pins := by rw [uf]
  have pump (ch : Chan) : u.pump ch = t.pump ch := by rw [uf]; rfl
  have facingPins : (s.facing act rest).pins = s.pins := by rw [base]; rfl
  have facingRaised : (s.facing act rest).raised = rest := by rw [base]
  have facingTime : (s.facing act rest).time = s.time := by rw [base]; rfl
  have stands (x : Span) : (s.facing act rest).stands x ev.event = s.stands x ev.event := by
    rw [(facing_frame s act rest).stands]; cases ev.event <;> rfl
  have lockouts : (s.facing act rest).lockouts act ev.event = s.lockouts act ev.event := by
    funext x; simp only [State.lockouts, facing_st, facingTime]
  have plain (hs : act ≠ .snuffAll) : s.facing act rest = { s.fresh with raised := rest } := if_neg hs
  refine ⟨?_, ?_, fun x hx => ?_, fun x hx => ?_, fun hs ch => ⟨fun hd => ?_, fun hd => ?_⟩, fun hs ch => ?_, ?_, fun x hx hv => ?_,
    fun x hd ho => ?_, fun hs hm => ?_⟩
  · rw [uf, hf, base]; rfl
  · rw [pins, ← facingPins]; exact h.pins
  · rw [st, h.kept x hx, facing_st]
  · obtain ⟨b, e⟩ := h.record x hx
    exact ⟨b, by rw [st, e, facing_st, stands]⟩
  · have own := (h.pump ch).1
    simp only [plain hs] at own
    rw [pump, own hd]
    exact takeSnuff_isDark _
  · have own := (h.pump ch).2
    simp only [plain hs] at own
    rw [pump, own hd]; rfl
  · have dark : ((s.facing act rest).pump ch).state.isDark = true := by
      rw [State.facing, if_pos hs, snuffAll_pump]
      exact takeSnuff_isDark _
    rw [pump]
    by_cases hx : ∃ x ∈ l, ((s.facing act rest).pump ch).lights = some x
        ∧ actDarkens act ev.event ((s.facing act rest).st x).state = true
    · rw [(h.pump ch).1 hx]; exact takeSnuff_isDark _
    · rw [(h.pump ch).2 fun x hl hlx => by
        by_contra g
        exact hx ⟨x, hl, hlx, by simpa using g⟩]
      exact dark
  · rw [uf]
    simp only [h.raised, facingRaised, lockouts, List.length_append, Nat.add_le_add_iff_left]
    split
    next g => exact markSecond_behind rest (by rintro g'; rw [g'] at g; simp at g)
    next => rfl
  · rw [pins]; exact h.off x hx (by rw [facing_st]; exact hv)
  · rw [pins]; exact h.stayOff x (by rw [facing_st]; exact hd) (by rw [facingPins]; exact ho)
  · have own := h.still (by simpa only [facing_st] using hm)
    rw [uf, own, plain hs]; rfl

/-- An event that acts on spans, taken in RUN, seen from the state it was taken in. -/
theorem exec_eventTaken_actedOn (hr : s.pins.resetLine = false) (hrun : s.part.run = true) (hraised : s.raised = ev :: rest)
    (hs : ev.span ≠ .none_) (hact : s.actionOf ev.event = act) (hn : act ≠ .note) (hl : actionSpans act ev = l) (nodup : l.Nodup) :
    ∃ t u, exec (.eventTaken ev.src) s = .next u ∧ ActedOn s ev act l rest u ∧ Notified s ev l t u := by
  obtain ⟨t, u, run, h, n⟩ := exec_eventTaken_acts hr hrun hraised hs hact hn hl nodup
  exact ⟨t, u, run, actedOn_of_handled hraised h n, n⟩

theorem lockouts_shut (s : State) (e : Event) (x : Span) : s.lockouts .shutSpan e x = [] := if_neg fun h => h.1 rfl

theorem lockouts_lock (h : act ≠ .shutSpan) (s : State) (e : Event) (x : Span) :
    s.lockouts act e x
      = if (s.st x).state ≠ .unused ∧ (s.st x).state ≠ .locked then
          [⟨.engine x, .lockout, .one x, .none_, s.time.tickCount, false⟩] else [] := by
  simp only [State.lockouts, actMoves_lock h, ne_eq, h, not_false_eq_true, true_and]

/-- SHUT_SPAN raises no LOCKOUT. -/
theorem ActedOn.raised_shut (h : ActedOn s ev .shutSpan l rest u) : u.raised = rest := by
  have none_ : l.flatMap (s.lockouts .shutSpan ev.event) = [] := by simp [lockouts_shut]
  rw [h.raised, none_]; simp

theorem ActedOn.raised_one (h : ActedOn s ev act [sp] rest u) : u.raised = rest ++ s.lockouts act ev.event sp := by
  have : ¬ 2 ≤ (s.lockouts act ev.event sp).length := by unfold State.lockouts; split <;> simp
  rw [h.raised]
  simp only [List.flatMap_cons, List.flatMap_nil, List.append_nil]
  rw [if_neg this]

/-- The LOCKOUT events of two spans, the second of both marked (R158). -/
theorem ActedOn.raised_two {x y : Span} (ha : act ≠ .shutSpan) (h : ActedOn s ev act [x, y] rest u) :
    let locks := fun x : Span => (s.st x).state ≠ .unused ∧ (s.st x).state ≠ .locked
    u.raised = rest
      ++ (if locks x then [⟨.engine x, .lockout, .one x, .none_, s.time.tickCount, false⟩] else [])
      ++ (if locks y then [⟨.engine y, .lockout, .one y, .none_, s.time.tickCount, decide (locks x)⟩] else []) := by
  intro locks
  have one (z : Span) : s.lockouts act ev.event z
      = if locks z then [⟨.engine z, .lockout, .one z, .none_, s.time.tickCount, false⟩] else [] := lockouts_lock ha ..
  rw [h.raised]
  simp only [List.flatMap_cons, List.flatMap_nil, List.append_nil, one, List.append_assoc]
  by_cases hx : locks x
  · by_cases hy : locks y
    · rw [if_pos hx, if_pos hy, if_pos hy, decide_eq_true hx]; rfl
    · rw [if_pos hx, if_neg hy, if_neg hy]; rfl
  · by_cases hy : locks y
    · rw [if_neg hx, if_pos hy, if_pos hy, decide_eq_false hx]; rfl
    · rw [if_neg hx, if_neg hy, if_neg hy]; rfl

end Sys2Proof.Machine
end

section
/-! SUPPORT. The statements of SHUT_SPAN, LOCK_SPAN and SNUFF_ALL. -/

namespace Sys2Proof.Machine

variable {s t u b : State} {sp : Span} {act : Action} {ev : Raised} {rest : List Raised} {l : List Span}

theorem actionSpans_plain (h : act ≠ .snuffAll) (ev : Raised) : actionSpans act ev = ev.span.spans := by
  cases act
  case snuffAll => exact absurd rfl h
  all_goals rfl

theorem span_nodup (x : Span) : [x, x.other].Nodup := by cases x <;> decide

theorem unused_dark {x : SpanState} (h : x = .unused) : x.lit = false := by rw [h]; rfl

/-- A pump of a span that the action does not darken is as it was. -/
theorem ActedOn.pump_kept (h : ActedOn s ev act l rest u) (ha : act ≠ .snuffAll) {ch : Chan}
    (hd : ∀ x ∈ l, (s.pump ch).lights = some x → actDarkens act ev.event (s.st x).state = false) : u.pump ch = s.pump ch :=
  (h.pump ha ch).2 hd

/-- A pump of a span that the action darkens is dark. -/
theorem ActedOn.pump_dark (h : ActedOn s ev act l rest u) (ha : act ≠ .snuffAll) {x : Span} (hx : x ∈ l)
    (hd : actDarkens act ev.event (s.st x).state = true) {ch : Chan} (hl : (s.pump ch).lights = some x) :
    (u.pump ch).state.isDark = true :=
  (h.pump ha ch).1 ⟨x, hx, hl, hd⟩

theorem ActedOn.causes (h : ActedOn s ev act l rest u) {x : Span} (hx : x ∈ l) (e : Event) :
    e ∈ (u.st x).causes
      ↔ if e = ev.event ∧ (s.st x).state ≠ .unused then s.stands x e = true else e ∈ (s.st x).causes := by
  obtain ⟨b, eq⟩ := h.record x hx
  rw [eq, mem_acted]
  by_cases he : e = ev.event
  · subst he; rfl
  · rw [if_neg fun g => he g.1, if_neg fun g => he g.1]

theorem ActedOn.causes_used (h : ActedOn s ev act l rest u) {x : Span} (hx : x ∈ l) (hu : (s.st x).state ≠ .unused) (e : Event) :
    e ∈ (u.st x).causes ↔ if e = ev.event then s.stands x e = true else e ∈ (s.st x).causes :=
  (h.causes hx e).trans (by simp only [hu, ne_eq, not_false_eq_true, and_true])

/-- A span that the action does not move: the cause is all it takes. -/
theorem ActedOn.record_still (h : ActedOn s ev act l rest u) {x : Span} (hx : x ∈ l)
    (hm : actMoves act ev.event (s.st x).state = false) :
    u.st x = if (s.st x).state = .unused then s.st x
      else
        { s.st x with
          causes := (u.st x).causes, entryInterlock := (s.st x).entryInterlock && decide (ev.event ≠ .interlock)
          entrySupply := (s.st x).entrySupply && decide (ev.event ≠ .supplyLow) } := by
  obtain ⟨b, eq⟩ := h.record x hx
  rw [acted_still hm] at eq
  split at eq
  next hu => rw [if_pos hu]; exact eq
  next hu => rw [if_neg hu, eq]; rfl

theorem ActedOn.failures (h : ActedOn s ev act l rest u) {x : Span} (hx : x ∈ l) : (u.st x).failures = (s.st x).failures := by
  obtain ⟨b, eq⟩ := h.record x hx
  rw [eq, acted_failures]

theorem ActedOn.state (h : ActedOn s ev act l rest u) {x : Span} (hx : x ∈ l) :
    (u.st x).state = if actMoves act ev.event (s.st x).state then (if act = .shutSpan then .shut else .locked) else (s.st x).state := by
  obtain ⟨b, eq⟩ := h.record x hx
  rw [eq, acted_state]

theorem ActedOn.unused (h : ActedOn s ev act l rest u) {x : Span} (hx : x ∈ l) (hu : (s.st x).state = .unused) : u.st x = s.st x := by
  have still : actMoves act ev.event (s.st x).state = false := by rw [hu, actMoves_unused]
  rw [h.record_still hx still, if_pos hu]

/-- A span that LOCK_SPAN or SNUFF_ALL reaches is in LOCKED, or was in UNUSED. -/
theorem ActedOn.locked (h : ActedOn s ev act l rest u) (ha : act ≠ .shutSpan) {x : Span} (hx : x ∈ l) :
    (u.st x).state = if (s.st x).state = .unused then .unused else .locked := by
  rw [h.state hx, if_neg ha]
  by_cases hm : actMoves act ev.event (s.st x).state = true
  · rw [if_pos hm, if_neg ((actMoves_lock ha ..).mp hm).1]
  · rw [if_neg hm]
    by_cases hu : (s.st x).state = .unused
    · rw [if_pos hu, hu]
    · rw [if_neg hu]
      by_contra g
      exact hm ((actMoves_lock ha ..).mpr ⟨hu, g⟩)

theorem actDarkens_lock (ha : act ≠ .shutSpan) (e : Event) {x : SpanState} (h : x.lit = true) : actDarkens act e x = true := by
  have moves : actMoves act e x = true := (actMoves_lock ha ..).mpr ⟨fun g => (by rw [g] at h; cases h), fun g => (by rw [g] at h; cases h)⟩
  rw [actDarkens, h, moves]; rfl

theorem actDarkens_dark {e : Event} {x : SpanState} (h : x.lit = false) : actDarkens act e x = false := by
  rw [actDarkens, h, Bool.and_false]

theorem trips_other {e : Event} (h : e ≠ .lightLost) (x : SpanState) : trips x e = x.lit := by
  simp [trips, h]

theorem trips_false {e : Event} {x : SpanState} (h : x.lit = false ∨ (x = .probe ∧ e = .lightLost)) : trips x e = false := by
  rw [Bool.eq_false_iff, ne_eq, trips_iff]
  rintro ⟨h1, h2⟩
  exact h.elim (fun g => by rw [g] at h1; cases h1) h2

/-- An event raised for a span in UNUSED does nothing to it, and builds no notice (R14, R16). -/
theorem takeEvent_unused (hrun : s.part.run = true) (hs : ev.span = .one sp) (hact : s.actionOf ev.event = act) (hn : act ≠ .note)
    (ha : act ≠ .snuffAll) (hu : (s.st sp).state = .unused) : takeEvent ev s = s := by
  have acting : actingAction s ev = act := by rw [actingAction, if_neg (by rw [hs]; simp), hact]
  have still : actOn sp act ev.event s = s := if_pos (.inl hu)
  have spans : actionSpans act ev = [sp] := by rw [actionSpans_plain ha, hs]; rfl
  have hand : handAction act ev.event (actionSpans act ev) (if act = .snuffAll then snuffAll s else s)
      = (s, [(sp, reportOf sp act ev.event s s)]) := by
    rw [spans, if_neg ha]; simp only [handAction, still]
  have none_ : noticesOf act ev [(sp, reportOf sp act ev.event s s)] = [] := by simp [noticesOf, reportOf, hn, hu]
  have pair : pairLockouts s.raised.length s = s := if_neg (by omega)
  have some_ : ev.span ≠ .none_ := by rw [hs]; simp
  rw [takeEvent_run hrun acting hand, none_, pair, if_neg some_]
  exact ite_self _

/-- Settles O33. -/
theorem shutSpanTripsLitSpan : Obligations.ShutSpanTripsLitSpan := by
  have shut : Action.shutSpan ≠ .snuffAll := by decide
  have lock : Action.lockSpan ≠ .snuffAll := by decide
  have lock' : Action.lockSpan ≠ .shutSpan := by decide
  have one {act : Action} (ha : act ≠ .snuffAll) {ev : Raised} {sp : Span} (h : ev.span = .one sp) : actionSpans act ev = [sp] := by
    rw [actionSpans_plain ha, h]; rfl
  have both {act : Action} (ha : act ≠ .snuffAll) {ev : Raised} (h : ev.span = .both) : actionSpans act ev = [.ws, .es] := by
    rw [actionSpans_plain ha, h]; rfl
  have mem (x : Span) : x ∈ [Span.ws, .es] := by cases x <;> decide
  refine ⟨fun s sp ev rest hr hrun h hs hact hlit hno => ?_, fun s sp ev rest hr hrun h hs hact hdark => ?_,
    fun s sp ev rest hr hrun h hs hact hu => ?_, fun s ev rest hr hrun h hs hact hno => ?_,
    fun s sp ev rest hr hrun h hs hact hu => ?_, fun s ev rest hr hrun h hs hact => ?_, fun s ev rest hr hrun h hs hact => ?_⟩
  · obtain ⟨t, u, run, a, -⟩ := exec_eventTaken_actedOn hr hrun h (by rw [hs]; simp) hact (by decide) (one shut hs) (by simp)
    have ht : trips (s.st sp).state ev.event = true := (trips_iff ..).mpr ⟨hlit, hno⟩
    have hu : (s.st sp).state ≠ .unused := fun g => by rw [unused_dark g] at hlit; cases hlit
    have dark : actDarkens .shutSpan ev.event (s.st sp).state = true := Bool.and_eq_true_iff.mpr ⟨ht, hlit⟩
    have record := a.record sp (by simp)
    obtain ⟨b, eq⟩ := record
    simp only [SpanStatus.acted, if_neg hu, actMoves_shut, ht, if_true] at eq
    refine ⟨u, run, by rw [eq]; rfl, by rw [eq]; rfl, by rw [eq], a.off sp (by simp) ht, a.causes_used (by simp) hu, a.raised_shut,
      a.kept _ (by simp), fun ch hl => a.pump_dark shut (by simp) dark hl, fun ch hl => a.pump_kept shut ?_, a.frame⟩
    intro x hx hl'
    rw [List.mem_singleton.mp hx] at hl'
    exact absurd hl' hl
  · obtain ⟨t, u, run, a, -⟩ := exec_eventTaken_actedOn hr hrun h (by rw [hs]; simp) hact (by decide) (one shut hs) (by simp)
    have still : actMoves .shutSpan ev.event (s.st sp).state = false := trips_false hdark
    refine ⟨u, run, a.record_still (by simp) still, a.causes (by simp), a.raised_shut, a.kept _ (by simp), a.still shut ?_⟩
    intro x hx
    rw [List.mem_singleton.mp hx, still]
  · obtain ⟨t, u, run, a, -⟩ := exec_eventTaken_actedOn hr hrun h (by rw [hs]; simp) hact (by decide) (one lock hs) (by simp)
    have state := a.locked lock' (x := sp) (by simp)
    rw [if_neg hu] at state
    refine ⟨u, run, state, a.failures (by simp), a.causes_used (by simp) hu,
      fun hl => a.off sp (by simp) ((actMoves_lock lock' ..).mpr ⟨hu, hl⟩), ?_, a.kept _ (by simp),
      fun hl ch => a.pump_dark lock (by simp) (actDarkens_lock lock' _ hl), fun ch hd => a.pump_kept lock ?_, a.frame⟩
    · rw [a.raised_one, lockouts_lock lock']
      simp only [hu, ne_eq, not_false_eq_true, true_and, ite_not]
    · intro x hx hl
      rw [List.mem_singleton.mp hx] at hl ⊢
      exact actDarkens_dark (hd.resolve_left fun g => g hl)
  · obtain ⟨t, u, run, a, -⟩ := exec_eventTaken_actedOn hr hrun h (by rw [hs]; simp) hact (by decide) (both shut hs) (by decide)
    have moves (x : Span) : actMoves .shutSpan ev.event (s.st x).state = (s.st x).state.lit := trips_other hno _
    refine ⟨u, run, a.raised_shut,
      fun x => ⟨?_, fun hd hu => ?_, a.unused (mem x), a.causes (mem x), fun hl => ⟨?_, fun ch => ?_⟩⟩, a.frame⟩
    · rw [a.state (mem x), moves, if_pos rfl]
    · have still := a.record_still (mem x) ((moves x).trans hd)
      rwa [if_neg hu] at still
    · exact a.off x (mem x) ((moves x).trans hl)
    · exact a.pump_dark shut (mem x) (Bool.and_eq_true_iff.mpr ⟨(moves x).trans hl, hl⟩)
  · rw [exec_eventTaken_first hr h, takeEvent_unused (s := { s.fresh with raised := rest }) hrun hs hact (by decide) lock hu]
  · obtain ⟨t, u, run, a, -⟩ := exec_eventTaken_actedOn hr hrun h (by rw [hs]; simp) hact (by decide) (both lock hs) (by decide)
    refine ⟨u, run, a.raised_two lock', fun x => ⟨a.locked lock' (mem x), a.failures (mem x), a.unused (mem x), a.causes (mem x),
      fun hl => a.off x (mem x) ((actMoves_lock lock' ..).mpr hl), fun hl ch => a.pump_dark lock (mem x) (actDarkens_lock lock' _ hl)⟩,
      fun ch hd => a.pump_kept lock fun x _ hl => actDarkens_dark (hd x hl), a.frame⟩
  · intro spans told waiting
    have ne : s.actionOf ev.event ≠ .snuffAll := by obtain g | g := hact <;> rw [g] <;> decide
    have nn : s.actionOf ev.event ≠ .note := by obtain g | g := hact <;> rw [g] <;> decide
    have list : actionSpans (s.actionOf ev.event) ev = spans := by
      rw [actionSpans_plain ne]
      cases hv : ev.span <;> simp only [spans, hv] <;> rfl
    have nodup : spans.Nodup := by
      cases hv : ev.span <;> simp only [spans, hv] <;> simp
    obtain ⟨t, u, run, a, n⟩ := exec_eventTaken_actedOn hr hrun h hs rfl nn list nodup
    exact ⟨u, run, n.sent, fun hf _ => n.full hf⟩

/-- Settles O34. -/
theorem snuffAllLocksEverySpan : Obligations.SnuffAllLocksEverySpan := by
  intro s sp ev rest hr hrun hfollow h hs hact locks told
  have list : actionSpans .snuffAll ev = [sp, sp.other] := by
    obtain hs | ⟨hs, rfl⟩ := hs
    · unfold actionSpans; rw [hs]
    · unfold actionSpans; rw [hs]; rfl
  have some_ : ev.span ≠ .none_ := by obtain hs | ⟨hs, -⟩ := hs <;> rw [hs] <;> simp
  have mem (x : Span) : x ∈ [sp, sp.other] := by cases x <;> cases sp <;> decide
  have lock : Action.snuffAll ≠ .shutSpan := by decide
  obtain ⟨t, u, run, a, n⟩ := exec_eventTaken_actedOn hr hrun h some_ hact (by decide) list (span_nodup sp)
  have off (x : Span) : u.pins.spanEn.get x = false := by
    by_cases hm : actMoves .snuffAll ev.event (s.st x).state = true
    · exact a.off x (mem x) hm
    · have dark : (s.st x).state.lit = false := by
        by_contra g
        exact hm ((actMoves_lock lock ..).mpr ⟨by rintro g'; rw [g'] at g; exact g rfl, by rintro g'; rw [g'] at g; exact g rfl⟩)
      have follows : s.pins.spanEn.get x = s.enableOf x := by
        obtain ⟨ws, es, -⟩ := hfollow
        cases x
        · exact ws
        · exact es
      exact a.stayOff x dark (by rw [follows, State.enableOf, dark, Bool.and_false])
  refine ⟨u, run, a.snuffed rfl, ?_, fun x => a.locked lock (mem x), fun x => a.causes (mem x), a.raised_two lock, n.sent, a.frame⟩
  have both : u.pins.spanEn = ⟨false, false⟩ := PerSpan.ext_get fun x => by rw [off x]; cases x <;> rfl
  rw [← both, ← a.pins]

end Sys2Proof.Machine
end

section
/-! SUPPORT. The items of a READ's reply. -/

namespace Sys2Proof.Machine

variable {s : State} {r : Req}

/-- Fields in order, each by its code, its width and its value. -/
def fieldBytes (l : List (Nat × Nat × Nat)) : List Byte := l.flatMap fun f => item f.1 f.2.1 f.2.2

theorem fieldBytes_nil : fieldBytes [] = [] := rfl

theorem fieldBytes_cons (c w v : Nat) (l : List (Nat × Nat × Nat)) : fieldBytes ((c, w, v) :: l) = item c w v ++ fieldBytes l := rfl

theorem fieldBytes_append (l m : List (Nat × Nat × Nat)) : fieldBytes (l ++ m) = fieldBytes l ++ fieldBytes m := List.flatMap_append

theorem fieldBytes_option (c w : Nat) (v : Option Nat) (l : List (Nat × Nat × Nat)) (hs : ∀ x, v = some x → l = [(c, w, x)])
    (hn : v = none → l = []) : fieldBytes l = itemOpt c w v := by
  cases v with
  | none => rw [hn rfl]; rfl
  | some x => rw [hs x rfl, fieldBytes_cons, fieldBytes_nil, List.append_nil]; rfl

theorem bit_eq (b : Bool) : (if b = true then 1 else 0) = bit b := by cases b <;> rfl

theorem modeCode_eq (m : RestartMode) : (if m = .frame then 0 else 1) = m.code := by cases m <;> rfl

theorem spanCode_eq (sp : Span) : (if sp = .ws then 0 else 1) = spanCode sp := by cases sp <;> rfl

theorem dirCode_eq (d : Dir) : (if d = .eb then 0 else 1) = dirCode d := by cases d <;> rfl

theorem servedCode_eq (x : Served) : (if x = .forward then 0 else 1) = x.code := by cases x <;> rfl

theorem spanOfCode_spanCode (sp : Span) : spanOfCode (spanCode sp) = sp := by cases sp <;> rfl

theorem spanCode_le (sp : Span) : spanCode sp ≤ 1 := by cases sp <;> decide

theorem chanOf_val (ch : Chan) : chanOf ch.val = ch := Fin.ext (Nat.mod_eq_of_lt ch.isLt)

theorem chan_le (ch : Chan) : ch.val ≤ 7 := Nat.le_of_lt_succ ch.isLt

theorem item_one (c v : Nat) : item c 1 v = [BitVec.ofNat 8 c, BitVec.ofNat 8 v] := rfl

theorem byte_bit (b : Bool) : BitVec.ofNat 8 (bit b) = if b = true then 1 else 0 := by cases b <;> rfl

theorem bit_mul (b : Bool) (n : Nat) : bit b * n = if b = true then n else 0 := by cases b <;> simp [bit]

/-- The roles of the monitor channels as a READ tells them apart (R59, R76). -/
theorem monRole_eq (ch : Chan) :
    Config.monRole ch
      = if ch = 0 ∨ ch = 4 then .input (if ch = 0 then .ws else .es)
        else if ch = 2 ∨ ch = 6 then .reflection (if ch = 6 then .ws else .es)
        else .launch (Config.monSpan ch) := by
  revert ch; decide

/-! ### The lists of records -/

theorem recordItems_fresh (k n : Nat) (s : State) : recordItems k n s.fresh = recordItems k n s := rfl

/-- A record outside the lists has no items (R179). -/
theorem recordItems_none {k n : Nat}
    (h : 9 < k ∨ (k ≤ 1 ∧ 1 < n) ∨ ((k = 2 ∨ k = 3 ∨ k = 6) ∧ 7 < n) ∨ (k = 4 ∧ 31 < n) ∨ (k = 7 ∧ 2 < n)
      ∨ ((k = 5 ∨ k = 8 ∨ k = 9) ∧ 0 < n)) (s : State) : recordItems k n s = none := by
  unfold recordItems
  split
  case h_8 =>
    split
    case h_4 => rfl
    all_goals omega
  case h_11 => rfl
  all_goals exact if_neg (by omega)

theorem eventItems_event (e : Event) (s : State) :
    eventItems e.id s
      = fieldBytes [(1, 1, (s.entry e.id).action.code), (2, 1, bit (s.entry e.id).notify), (3, 1, e.floor.code), (4, 1, bit e.fixed),
          (5, 1, bit e.forced), (6, 1, bit (decide (e.id < s.tableLen)))] := by
  have about : Event.all[e.id]? = some e := by cases e <;> rfl
  simp only [eventItems, about, fieldBytes_cons, fieldBytes_nil, List.append_nil, List.append_assoc]

theorem eventItems_spare {id : Nat} (h : 21 ≤ id) (s : State) :
    eventItems id s
      = fieldBytes [(1, 1, (s.entry id).action.code), (2, 1, bit (s.entry id).notify), (3, 1, 0), (4, 1, 0), (5, 1, 0),
          (6, 1, bit (decide (id < s.tableLen)))] := by
  have about : Event.all[id]? = none := List.getElem?_eq_none h
  simp only [eventItems, about, fieldBytes_cons, fieldBytes_nil, List.append_nil, List.append_assoc]
  rfl

theorem answer_unknown {kind : BitVec 5} (h : kind = 0 ∨ (18 < kind.toNat ∧ kind.toNat < 30)) (r : Req) (s : State) :
    answer kind r s = refuse .unknown s := by
  have ne (c : BitVec 5) (h1 : 1 ≤ c.toNat) (h2 : c.toNat ≤ 18) : kind ≠ c := by
    rintro rfl
    obtain rfl | ⟨h, -⟩ := h
    · exact absurd h1 (by decide)
    · omega
  unfold answer
  iterate 18 (refine (if_neg (ne _ ?_ ?_)).trans ?_; (· decide); (· decide))
  rfl

theorem exec_read {k n : Byte} (hr : s.pins.resetLine = false) (hb : r.body = [k, n]) :
    exec (.read r) s
      = .next (match recordItems k.toNat n.toNat s with
        | some items => s.fresh.replied r 1 0 (k :: n :: items)
        | none => s.fresh.replied r 1 5 []) := by
  rw [exec, execRead, unlessReset_free hr, readReq, hb]
  simp only [recordItems_fresh]
  cases recordItems k.toNat n.toNat s with
  | none => exact congrArg _ (sendReply_replied ..)
  | some items => exact congrArg _ (sendReply_replied ..)

/-- Settles O37. -/
theorem readAnswersAndChangesNothing : Obligations.ReadAnswersAndChangesNothing := by
  intro s r k n hr fields yes opt
  have hf (l : List (Nat × Nat × Nat)) : fields l = fieldBytes l := rfl
  have hy (b : Bool) : yes b = bit b := bit_eq b
  have ho (c w : Nat) (v : Option Nat) : fieldBytes (opt c w v) = itemOpt c w v :=
    fieldBytes_option c w v _ (fun x hx => by simp only [opt, hx]) (fun hx => by simp only [opt, hx])
  refine ⟨exec_read hr, fun h => recordItems_none ?_ s, fun sp => ?_, ?_, fun ch => ?_, fun e => ?_, fun id h1 h2 => ?_, ?_,
    fun ch => ?_, ?_, ?_, fun kind hk => ?_⟩
  · bv_omega
  · intro target c x l
    have ht : target = spanCode sp := spanCode_eq sp
    have hc := spanCode_le sp
    rw [ht]
    refine ⟨?_, ?_, ?_⟩
    · refine (if_pos hc).trans (congrArg some ?_)
      rw [spanOfCode_spanCode]
      simp only [hf, fieldBytes_cons, fieldBytes_nil, hy, modeCode_eq, configItems, List.append_nil, List.append_assoc, c]
    · refine (if_pos hc).trans (congrArg some ?_)
      rw [spanOfCode_spanCode]
      simp only [hf, fieldBytes_append, fieldBytes_cons, fieldBytes_nil, hy, ho, statusItems, List.append_nil, List.append_assoc, x, c]
      rfl
    · have hl : recordItems 7 (spanCode sp) s = some (lineItems (s.line sp)) := by cases sp <;> rfl
      rw [hl]
      simp only [hf, fieldBytes_cons, fieldBytes_nil, hy, servedCode_eq, lineItems, List.append_nil, List.append_assoc, l]
  · refine congrArg some ?_
    simp only [hf, fieldBytes_cons, fieldBytes_nil, localItems, List.append_nil, List.append_assoc]
  · intro p c table record
    refine ⟨?_, ?_⟩
    · refine (if_pos (chan_le ch)).trans (congrArg some ?_)
      rw [chanOf_val]
      simp only [hf, fieldBytes_append, fieldBytes_cons, fieldBytes_nil, ho, spanCode_eq, dirCode_eq, pumpItems, List.append_nil,
        List.append_assoc, p]
    · refine (if_pos (chan_le ch)).trans (congrArg some ?_)
      rw [chanOf_val, monitorItems, monRole_eq]
      split_ifs <;>
        simp only [hf, fieldBytes_append, fieldBytes_cons, fieldBytes_nil, hy, List.append_nil, List.append_assoc, table, record, c]
  · intro entry
    refine (if_pos ?_).trans (congrArg some ((eventItems_event e s).trans ?_))
    · have := event_id_lt e; omega
    · simp only [hf, hy, entry]
  · refine (if_pos (by omega)).trans (congrArg some ((eventItems_spare h1 s).trans ?_))
    simp only [hf, hy]
  · refine Eq.trans (b := some (noticeItems s)) rfl (congrArg some ?_)
    simp only [hf, fieldBytes_cons, fieldBytes_nil, noticeItems, List.append_nil]
  · intro l
    refine (if_pos (chan_le ch)).trans (congrArg some ?_)
    rw [chanOf_val, interlockItems]
    cases (s.ilLine ch).observed <;>
      simp only [item_one, itemOpt, Option.map, byte_bit, List.cons_append, List.nil_append, l] <;> rfl
  · refine Eq.trans (b := some (partItems s)) rfl (congrArg some ?_)
    simp only [hf, fieldBytes_cons, fieldBytes_nil, hy, partItems, List.append_nil, List.append_assoc]
    rfl
  · refine Eq.trans (b := some (grantItems s.grants)) rfl (congrArg some ?_)
    simp only [hf, fieldBytes_cons, fieldBytes_nil, grantItems, grantBits, bit_mul, List.append_nil, List.append_assoc]
  · rw [exec, execUnknownRequest, unlessReset_free hr, takeRequest, answer_unknown hk]
    exact congrArg _ (sendReply_replied ..)

end Sys2Proof.Machine
end

section
/-! SUPPORT. A whole frame without a message on a line port: it is read back, counted, and its word taken. -/

namespace Sys2Proof.Machine

variable {s t u : State} {sp : Span} {w : SpanWord} {race : Race}

/-! ### A frame is read as it was built -/

theorem stateCode_lt (x : SpanState) : x.code < 8 := by cases x <;> decide

theorem ofCode_code (x : SpanState) : SpanState.ofCode x.code = x := by cases x <;> rfl

theorem headNat_lt (w : SpanWord) : headNat w 0 < 2 ^ 32 := by
  have h1 := w.sender.isLt
  have h2 := stateCode_lt w.state
  have h3 := w.tag.isLt
  have h4 := w.echoTag.isLt
  have h5 := w.echoValid.toNat_le
  have h6 := w.hear.toNat_le
  have h7 := w.light.toNat_le
  have h8 := w.thruDark.toNat_le
  unfold headNat
  omega

theorem readWord_headNat (w : SpanWord) : readWord (headNat w 0) = w := by
  obtain ⟨sender, state, tag, echoTag, echoValid, hear, light, thruDark⟩ := w
  have h1 := sender.isLt
  have h2 := stateCode_lt state
  have h3 := tag.isLt
  have h4 := echoTag.isLt
  have h5 := echoValid.toNat_le
  have h6 := hear.toNat_le
  have h7 := light.toNat_le
  have h8 := thruDark.toNat_le
  have flag (b : Bool) (n : Nat) (h : n = b.toNat) : decide (n = 1) = b := by subst h; cases b <;> rfl
  simp only [readWord, headNat]
  congr 1
  · refine BitVec.eq_of_toNat_eq ?_
    rw [BitVec.toNat_ofNat]; omega
  · rw [← ofCode_code state]
    congr 1
    rw [ofCode_code]; omega
  · refine BitVec.eq_of_toNat_eq ?_
    rw [BitVec.toNat_ofNat]; omega
  · refine BitVec.eq_of_toNat_eq ?_
    rw [BitVec.toNat_ofNat]; omega
  all_goals refine flag _ _ ?_; omega

theorem readLength_headNat (w : SpanWord) : readLength (headNat w 0) = 0 := by
  unfold readLength headNat
  omega

/-- A whole frame without a message is kept, with its word and nothing left over (R106, R192). -/
theorem parseFrame_frameBytes (w : SpanWord) : parseFrame (frameBytes w none) = .kept w none [] := by
  generalize hc : beBytes 4 (headNat w 0) = covered
  generalize hk : beBytes 2 (frameCheck covered).toNat = check
  have len4 : covered.length = 4 := by rw [← hc, beBytes_length]
  have len2 : check.length = 2 := by rw [← hk, beBytes_length]
  have bytes : frameBytes w none = covered ++ check := by
    rw [← hk, ← hc]
    simp only [frameBytes, List.length_nil, List.append_nil]
  have take4 : (covered ++ check).take 4 = covered := by rw [← len4, List.take_left]
  have drop4 : (covered ++ check).drop 4 = check := by rw [← len4, List.drop_left]
  have take2 : check.take 2 = check := by rw [← len2, List.take_length]
  have rest : (covered ++ check).drop 6 = [] := List.drop_eq_nil_of_le (by rw [List.length_append, len4, len2])
  have head : beNat covered = headNat w 0 := by
    rw [← hc, beNat_beBytes]; exact Nat.mod_eq_of_lt (headNat_lt w)
  have sum : beNat check = (frameCheck covered).toNat := by
    rw [← hk, beNat_beBytes]; exact Nat.mod_eq_of_lt (frameCheck covered).isLt
  have noMsg : readMsg (covered.drop 4) = none := by rw [List.drop_eq_nil_of_le (by rw [len4])]; rfl
  rw [bytes, parseFrame, if_neg (by rw [List.length_append, len4, len2]; decide)]
  simp only [take4, head, readLength_headNat, Nat.add_zero, Nat.reduceAdd, drop4, take2, rest, noMsg, sum, if_true, readWord_headNat]
  rw [if_neg (by decide), if_neg (by rw [List.length_append, len4, len2]; decide)]

/-! ### The word of a kept frame -/

/-- The state in which the engine makes its tests at a valid frame: the frame is counted, silence is over, and the far word is the frame's
(R107, R108). -/
def State.heard (s : State) (sp : Span) (w : SpanWord) : State :=
  (s.setLine sp
    { s.line sp with
      silence := 0, live := true, mismatch := false
      base := { (s.line sp).base with accepted := min 65535 ((s.line sp).base.accepted + 1) } }).setSt sp
    { s.st sp with far := some w }

theorem heard_st (sp : Span) (w : SpanWord) (s : State) : (s.heard sp w).st sp = { s.st sp with far := some w } := State.setSt_st_self ..

theorem heard_st_other (sp : Span) (w : SpanWord) (s : State) : (s.heard sp w).st sp.other = s.st sp.other := PerSpan.get_set_other ..

theorem heard_line_other (sp : Span) (w : SpanWord) (s : State) : (s.heard sp w).line sp.other = s.line sp.other :=
  PerSpan.get_set_other ..

theorem heard_frame (sp : Span) (w : SpanWord) (s : State) : { s.heard sp w with lines := s.lines, status := s.status } = s := rfl

theorem portBase (s : State) (sp : Span) : s.base sp.port = (s.line sp).base := by cases sp <;> rfl

theorem portSetBase (s : State) (sp : Span) (b : PortBase) : s.setBase sp.port b = s.setLine sp { s.line sp with base := b } := by
  cases sp <;> rfl

theorem portDeaf (s : State) (sp : Span) : s.deaf sp.port = decide ((s.line sp).loopNow = .inner) := by cases sp <;> rfl

theorem takeFrame_none (sp : Span) (race : Race) (w : SpanWord) (s : State) : takeFrame sp.port race w none s = takeWord sp w s := by
  cases sp <;> rcases inOrder_cases race.msgFirst (takeWord _ w) (withMsg none (routeLine _ race)) s with e | e <;> exact e

theorem frameTests_lines (sp : Span) (w : SpanWord) (s : State) : (frameTests sp w s).lines = s.lines := by
  have confirm (u : State) : (enterConfirm sp u).lines = u.lines := by
    rw [(enterConfirm_frame sp u).eq]
  have complete (u : State) : (completionTest sp u).lines = u.lines := by rw [(completionTest_frame sp u).eq]
  unfold frameTests
  split
  · split <;> rfl
  · rw [complete]; split <;> rfl
  · split <;> rfl
  · split
    · split
      · exact confirm s
      · rfl
    · split
      · exact confirm s
      · rfl
  all_goals rfl

theorem frameBytes_length (w : SpanWord) : (frameBytes w none).length = 6 := by
  simp [frameBytes, beBytes_length]

/-- A receiver that holds no byte of a frame waits for the next. -/
theorem receive_empty {p : Port} {race : Race} (n : Nat) (h : (s.base p).rx.bytes = []) : receive p race (n + 1) s = s := by
  have more : parseFrame [] = .more := rfl
  rw [receive, h, more]

/-- A receiver that holds one whole frame without a message. -/
theorem receive_frame {p : Port} {race : Race} (n : Nat) (h : (s.base p).rx.bytes = frameBytes w none) :
    receive p race (n + 1) s = receive p race n (takeFrame p race w none (setRx p ⟨false, []⟩ (countKept p s))) := by
  rw [receive, h, parseFrame_frameBytes]

theorem takeBytes_begin {p : Port} {race : Race} (bytes : List Byte) (h : (s.base p).rx = ⟨false, []⟩) :
    takeBytes p race bytes s = receive p race bytes.length (setRx p ⟨false, bytes⟩ s) := by
  simp only [takeBytes, h, Bool.false_eq_true, if_false, List.nil_append]

theorem takeWord_valid (h : w.sender = s.expectedSender sp) : takeWord sp w s = validWord sp w s := if_pos h

/-- The receiver once the frame is counted and its bytes are gone (R107). -/
theorem counted_eq (bytes : List Byte) (hrx : (s.line sp).base.rx = ⟨false, []⟩) :
    setRx sp.port ⟨false, []⟩ (countKept sp.port (setRx sp.port ⟨false, bytes⟩ s))
      = s.setLine sp
          { s.line sp with base := { (s.line sp).base with accepted := min 65535 ((s.line sp).base.accepted + 1) } } := by
  simp only [setRx, countKept, portBase, portSetBase, State.setLine_line_self, State.setLine_setLine, ← hrx, satSucc]

theorem validWord_counted {b : PortBase} (hb : b = { (s.line sp).base with accepted := min 65535 ((s.line sp).base.accepted + 1) }) :
    validWord sp w (s.setLine sp { s.line sp with base := b }) = frameTests sp w (s.heard sp w) := by
  simp only [validWord, State.setLine_line_self, State.setLine_setLine, State.setLine_st, State.heard, ← hb]

/-- A valid frame without a message, on a port that takes the line: the engine's tests on the state that has heard it. -/
theorem frameArrives_valid (hin : (s.line sp).loopNow ≠ .inner) (hrx : (s.line sp).base.rx = ⟨false, []⟩)
    (hw : w.sender = if (s.line sp).loopNow = .normal then (s.config sp).neighbour else s.part.site) :
    frameArrives sp.port race (frameBytes w none) s = frameTests sp w (s.heard sp w) := by
  have hears : ¬ s.deaf sp.port = true := by rw [portDeaf]; simpa using hin
  have rx : (s.base sp.port).rx = ⟨false, []⟩ := by rw [portBase, hrx]
  have held : ((setRx sp.port ⟨false, frameBytes w none⟩ s).base sp.port).rx.bytes = frameBytes w none := by
    rw [setRx, State.setBase_base_self]
  have taken : takeFrame sp.port race w none
      (setRx sp.port ⟨false, []⟩ (countKept sp.port (setRx sp.port ⟨false, frameBytes w none⟩ s))) = frameTests sp w (s.heard sp w) := by
    rw [takeFrame_none, counted_eq _ hrx, takeWord_valid, validWord_counted rfl]
    rw [hw]
    simp only [State.expectedSender, State.setLine_line_self, State.setLine_config, State.setLine_part]
  have empty : ((frameTests sp w (s.heard sp w)).base sp.port).rx.bytes = [] := by
    rw [portBase, State.line, frameTests_lines]
    show ((State.setSt _ _ _).line sp).base.rx.bytes = []
    rw [State.setSt_line, State.setLine_line_self, hrx]
  rw [frameArrives, if_neg hears, takeBytes_begin _ rx, frameBytes_length, receive_frame 5 held, taken, receive_empty 4 empty]

theorem exec_validFrame (hr : s.pins.resetLine = false) (hin : (s.line sp).loopNow ≠ .inner)
    (hrx : (s.line sp).base.rx = ⟨false, []⟩)
    (hw : w.sender = if (s.line sp).loopNow = .normal then (s.config sp).neighbour else s.part.site) :
    exec (.frameReceived sp.port race (frameBytes w none)) s = .next (frameTests sp w (s.fresh.heard sp w)) := by
  rw [exec, execFrameReceived, unlessReset_free hr, frameArrives_valid (s := s.fresh) hin hrx hw]

/-- Settles O12. -/
theorem validFrameReplacesFarWord : Obligations.ValidFrameReplacesFarWord := by
  refine ⟨fun race s sp w hr hrx hw hs => ?_, fun race s sp bytes hr hin => ⟨?_, ?_⟩⟩
  · have sender : (s.line sp).loopNow ≠ .inner
        ∧ w.sender = if (s.line sp).loopNow = .normal then (s.config sp).neighbour else s.part.site := by
      obtain ⟨hn, e⟩ | ⟨ho, e⟩ := hw
      · rw [hn]; exact ⟨by decide, e⟩
      · rw [ho]; exact ⟨by decide, e⟩
    have noTest : frameTests sp w (s.fresh.heard sp w) = s.fresh.heard sp w := by
      unfold frameTests
      rw [heard_st]
      obtain hs | hs | hs | hs := hs <;> simp only [show s.fresh.st sp = s.st sp from rfl, hs]
    rw [exec_validFrame hr sender.1 hrx sender.2, noTest]
    rfl
  · have deaf : s.fresh.deaf sp.port = true := by rw [portDeaf]; exact decide_eq_true hin
    rw [exec, execFrameReceived, unlessReset_free hr, frameArrives, if_pos deaf]
  · have deaf : s.fresh.deaf sp.port = true := by rw [portDeaf]; exact decide_eq_true hin
    rw [exec, execIdleFillReceived, unlessReset_free hr, idleArrives, if_pos deaf]

end Sys2Proof.Machine
end

section
/-! SUPPORT. The tests of the engine at a valid frame: the far state in SERVICE, CONFIRM and WAIT, and the proof of a probe. -/

namespace Sys2Proof.Machine

variable {s t u : State} {sp : Span} {w : SpanWord} {race : Race}

theorem frameTests_service (h : (s.st sp).state = .service) :
    frameTests sp w s
      = { s with
          raised := s.raised ++
            if w.state = .confirm ∨ w.state = .service then []
            else [⟨.engine sp, .farShut, .one sp, .port sp.port, s.time.tickCount, false⟩] } := by
  unfold frameTests
  rw [h]
  cases w.state <;> simp [farShuts, engineRaise, State.raise]

theorem frameTests_wait (h : (s.st sp).state = .wait) :
    frameTests sp w s
      = s.setSt sp
          { s.st sp with callPending := (s.st sp).callPending || decide (w.state = .probe) || decide (w.state = .confirm) } := by
  unfold frameTests
  rw [h]
  have same : s.setSt sp (s.st sp) = s := State.setSt_self ..
  cases w.state <;> simp [same]

/-- FAR_SHUT in CONFIRM, where it is due. -/
def State.farShutRaised (s : State) (sp : Span) (w : SpanWord) : State :=
  { s with
    raised := s.raised ++
      if w.state = .probe ∨ w.state = .confirm ∨ w.state = .service then []
      else [⟨.engine sp, .farShut, .one sp, .port sp.port, s.time.tickCount, false⟩] }

theorem frameTests_confirm (h : (s.st sp).state = .confirm) :
    frameTests sp w s = completionTest sp (s.farShutRaised sp w) := by
  unfold frameTests State.farShutRaised
  rw [h]
  cases w.state <;> simp [farShuts, engineRaise, State.raise]

theorem isProof_iff (x : SpanStatus) (w : SpanWord) :
    isProof x w = true ↔ w.echoValid = true ∧ w.echoTag = x.tag ∧ w.light = true := by
  simp [isProof, and_assoc]

theorem frameTests_probe (h : (s.st sp).state = .probe) (hm : (s.config sp).mode = .frame) :
    frameTests sp w s
      = if w.echoValid = true ∧ w.echoTag = (s.st sp).tag ∧ w.light = true then enterConfirm sp s else s := by
  unfold frameTests
  rw [h]
  simp only [hm, isProof_iff]

/-- The completion conditions, where the far word is known. -/
theorem ready_of_far (h : (s.st sp).far = some w) :
    s.Ready sp ↔
      (∀ ch, (s.pump ch).of sp = true → (s.pump ch).service ≠ 0 → (s.pump ch).state = .lit)
        ∧ ((s.config sp).mode = .frame → (w.state = .confirm ∨ w.state = .service) ∧ w.light = true)
        ∧ ((s.config sp).mode = .light → (s.inp sp).light = .present) := by
  have far : (∃ w', (s.st sp).far = some w' ∧ (w'.state = .confirm ∨ w'.state = .service) ∧ w'.light = true)
      ↔ (w.state = .confirm ∨ w.state = .service) ∧ w.light = true := by
    rw [h]; simp
  unfold State.Ready
  rw [far]

/-- Settles O13. -/
theorem farStateTestsAtValidFrame : Obligations.FarStateTestsAtValidFrame := by
  intro race s sp w hr hin hrx hw
  have run : exec (.frameReceived sp.port race (frameBytes w none)) s = .next (frameTests sp w (s.fresh.heard sp w)) :=
    exec_validFrame hr hin hrx hw
  have st : (s.fresh.heard sp w).st sp = { s.st sp with far := some w } := heard_st ..
  refine ⟨fun hs => ?_, fun hs => ?_, fun hs => ?_⟩
  · refine ⟨_, run, ?_⟩
    rw [frameTests_service (by rw [st]; exact hs)]
    exact ⟨rfl, heard_line_other sp w s.fresh, rfl, rfl⟩
  · intro events complete
    refine ⟨_, run, ?_⟩
    rw [frameTests_confirm (by rw [st]; exact hs)]
    have ready : ((s.fresh.heard sp w).farShutRaised sp w).Ready sp ↔ complete := ready_of_far (congrArg SpanStatus.far st)
    have confirm : (((s.fresh.heard sp w).farShutRaised sp w).st sp).state = .confirm := (congrArg SpanStatus.state st).trans hs
    have frame := (completionTest_frame sp ((s.fresh.heard sp w).farShutRaised sp w)).eq
    refine ⟨?_, ?_, ?_, ?_, ?_, fun hc => ?_, fun hc => ?_⟩
    · rw [completionTest_far]; exact congrArg SpanStatus.far st
    · rw [completionTest_st_other]; exact heard_st_other ..
    · rw [frame]; exact heard_line_other sp w s.fresh
    · rw [frame]; rfl
    · exact completionTest_raised sp ((s.fresh.heard sp w).farShutRaised sp w)
    · rw [completionTest_of_ready confirm (ready.mpr hc), enterService_st]; rfl
    · rw [completionTest_of_not_ready fun g => hc (ready.mp g)]
      exact ⟨st, rfl, rfl⟩
  · refine ⟨_, run, ?_⟩
    rw [frameTests_wait (by rw [st]; exact hs), st]
    exact ⟨rfl, heard_line_other sp w s.fresh, (PerSpan.get_set_other ..).trans (heard_st_other ..), State.setSt_st_self ..⟩

/-! ### The proof of a probe -/

theorem outSpan_iff (d : Dir) (sp : Span) : Config.outSpan d = sp ↔ d = if sp = .es then .eb else .wb := by
  cases d <;> cases sp <;> decide

theorem inSpan_of_outSpan {d : Dir} (h : Config.outSpan d = sp) : Config.inSpan d = sp.other := by
  subst h; cases d <;> rfl

theorem raisedBy_iff (sp : Span) (p : Pump) (s : State) :
    s.raisedBy sp p ↔
      ((p.role = .launch ∨ p.role = .counter) ∧ p.span = sp)
        ∨ (p.role = .stage ∧ p.dir = (if sp = .es then .eb else .wb) ∧ (s.inp sp.other).light = .present) := by
  have stage : (Config.outSpan p.dir = sp ∧ s.lightOf (Config.inSpan p.dir) = .present)
      ↔ (p.dir = (if sp = .es then .eb else .wb) ∧ (s.inp sp.other).light = .present) := by
    rw [← outSpan_iff]
    refine and_congr_right fun h => ?_
    rw [inSpan_of_outSpan h]; rfl
  unfold State.raisedBy
  rw [stage]
  simp [Pump.of]

/-- A pump that is sent RISE at a proof lights the span of the proof. -/
theorem raisedBy_lights {p : Pump} (h : s.raisedBy sp p) : p.lights = some sp := by
  obtain h | ⟨hr, ho, -⟩ := h
  · exact of_lights h
  · simp [Pump.lights, hr, ho]

/-- What a proof makes of each pump (R29): RISE for those of the span, nothing for the others. -/
theorem enterConfirm_pump_eq (hrun : s.part.run = true) (ch : Chan) :
    (enterConfirm sp s).pump ch
      = let p := s.pump ch
        if ((p.role = .launch ∨ p.role = .counter) ∧ p.span = sp)
            ∨ (p.role = .stage ∧ p.dir = (if sp = .es then .eb else .wb) ∧ (s.inp sp.other).light = .present) then
          p.takeRise p.service
        else p := by
  generalize hy : (s.st sp).proved (s.owes (.slot sp)) = y
  have open_ : y.state.isOpen = true := by rw [← hy]; rfl
  have pump : (shift sp y s).pump ch = s.pump ch := rfl
  have rise (h : s.raisedBy sp (s.pump ch)) : (shift sp y s).mayRise (s.pump ch) = true := by
    rw [State.mayRise, raisedBy_lights h]
    simp only [State.spanOpen, shift_st_self, open_, Bool.and_true]
    exact hrun
  have same : (shift sp y s).raisedBy sp (s.pump ch) ↔ s.raisedBy sp (s.pump ch) := Iff.rfl
  rw [enterConfirm_pump, hy, riseSpan_pump, pump]
  by_cases h : s.raisedBy sp (s.pump ch)
  · rw [if_pos ⟨same.mpr h, rise h⟩]
    exact (if_pos ((raisedBy_iff ..).mp h)).symm
  · rw [if_neg fun g => h (same.mp g.1)]
    exact (if_neg fun g => h ((raisedBy_iff ..).mpr g)).symm

/-- Settles O14. -/
theorem echoOfTagProvesProbe : Obligations.EchoOfTagProvesProbe := by
  intro race s sp w hr hrun hin hrx hw hs hm
  have st : (s.fresh.heard sp w).st sp = { s.st sp with far := some w } := heard_st ..
  refine ⟨_, exec_validFrame hr hin hrx hw, ?_⟩
  rw [frameTests_probe (s := s.fresh.heard sp w) (by rw [st]; exact hs) hm, st]
  by_cases hp : w.echoValid = true ∧ w.echoTag = (s.st sp).tag ∧ w.light = true
  · rw [if_pos hp, if_pos hp]
    have frame := (enterConfirm_frame sp (s.fresh.heard sp w)).eq
    obtain ⟨state, ticks⟩ := enterConfirm_state sp (s.fresh.heard sp w)
    have lines : (enterConfirm sp (s.fresh.heard sp w)).lines = (s.fresh.heard sp w).lines := by
      rw [frame]
    refine ⟨?_, ?_, ?_, ?_, ?_, state, ticks, ?_, fun ch => ?_⟩
    · rw [enterConfirm_far, st]
    · rw [enterConfirm_tag, st]
    · rw [enterConfirm_st_other, heard_st_other]; rfl
    · rw [State.line, lines]; exact heard_line_other ..
    · rw [frame]; rfl
    · rw [enterConfirm_spanEn]; exact hrun
    · exact enterConfirm_pump_eq (s := s.fresh.heard sp w) hrun ch
  · rw [if_neg hp, if_neg hp]
    exact ⟨by rw [st], by rw [st], heard_st_other .., heard_line_other sp w s.fresh, rfl, st, rfl, rfl, rfl⟩

end Sys2Proof.Machine
end

section
/-! SUPPORT. The words of a slot start, and the three frames it begins. -/

namespace Sys2Proof.Machine

variable {s t u : State} {sp : Span} {w : SpanWord} {race : Race}

/-! ### The span word -/

/-- The echo of a span's word (R35, R46). -/
theorem spanWord_echo (s : State) (sp : Span) :
    s.spanWord sp
      = { sender := s.part.site
          state := if s.part.run = true then (s.st sp).state else .unused
          tag := (s.st sp).tag
          echoTag := (s.echo sp).getD 0
          echoValid := (s.echo sp).isSome
          hear := (s.line sp).live
          light := decide ((s.inp sp).light = .present)
          thruDark := decide ((s.inp sp.other).light = .absent) } := rfl

theorem echo_far (hf : (s.st sp).far = some w) :
    s.echo sp
      = if s.part.run = true ∧ (s.st sp).state ≠ .unused ∧ (s.st sp).state ≠ .maint ∧ w.state = .probe ∧ (s.inp sp).light = .present then
          some w.tag
        else none := by
  rw [State.echo, hf]; rfl

theorem echo_none (hf : (s.st sp).far = none) : s.echo sp = none := by
  rw [State.echo, hf]

/-! ### A port that sends its own frame -/

theorem latchLoop_line {l : LinePort} (h : l.loop ≠ .inner) (h' : l.loopNow ≠ .inner) : l.latchLoop = { l with loopNow := l.loop } :=
  if_pos (by simp [h, h'])

/-- The arbiter looks at the queues alone. -/
theorem arbitrate_loopNow (l : LinePort) (x : Loop) :
    ({ l with loopNow := x } : LinePort).arbitrate = (l.arbitrate.1, { l.arbitrate.2 with loopNow := x }) := by
  obtain ⟨⟨accepted, discarded, queue, rx, sending⟩, live, silence, mismatch, loop, loopNow, forward, served⟩ := l
  cases forward <;> cases queue <;> cases served <;> rfl

/-- Arbitration leaves the loop mode in effect as it was. -/
theorem arbitrate_keeps_loopNow (l : LinePort) : l.arbitrate.2.loopNow = l.loopNow := by
  have h := arbitrate_loopNow l l.loopNow
  rw [show ({ l with loopNow := l.loopNow } : LinePort) = l from rfl] at h
  rw [h]

theorem sendLine_out (h : (s.line sp).loopNow ≠ .inner) :
    sendLine sp s
      = { s with
          lines := s.lines.set sp
            { (s.line sp).arbitrate.2 with base := { (s.line sp).arbitrate.2.base with sending := some (s.lineFrame sp) } }
          out := s.out ++ [.frame sp.port (s.lineFrame sp)] } :=
  if_neg (by rw [arbitrate_keeps_loopNow]; exact h)

/-- The state in which the frames of a slot start are built: the slot is counted, and each loop mode has taken effect (R104, R138). -/
def State.slotBegun (s : State) : State :=
  { s with
    time := { s.time with prescaler := Config.slotPeriods * s.time.slotNext, slotNext := s.time.slotNext + 1 }
    lines := ⟨(s.line .ws).latchLoop, (s.line .es).latchLoop⟩ }

theorem loopBack_line (h : (s.line sp).loopNow ≠ .inner) (bytes : List Byte) : loopBack sp race bytes s = s := if_neg h

theorem departNotices_none (h : s.notices = []) : departNotices s = s := by
  rw [departNotices, show Config.queueRoom = 7 + 1 from rfl, departures, h]

section Plain

variable (hl : ∀ sp, (s.line sp).loop ≠ .inner ∧ (s.line sp).loopNow ≠ .inner)
include hl

theorem slotBegun_line (sp : Span) : s.slotBegun.line sp = { s.line sp with loopNow := (s.line sp).loop } := by
  rw [← latchLoop_line (hl sp).1 (hl sp).2]; cases sp <;> rfl

theorem slotBegun_spanWord (sp : Span) : s.slotBegun.spanWord sp = s.spanWord sp := by
  simp only [spanWord_echo, slotBegun_line hl]; rfl

theorem slotBegun_lineFrame (sp : Span) : s.slotBegun.lineFrame sp = frameBytes (s.spanWord sp) (s.line sp).arbitrate.1 := by
  rw [State.lineFrame, slotBegun_spanWord hl, slotBegun_line hl, arbitrate_loopNow]

/-- A line port as it begins its frame. -/
theorem slotBegun_sends (sp : Span) :
    ({ (s.slotBegun.line sp).arbitrate.2 with
        base := { (s.slotBegun.line sp).arbitrate.2.base with sending := some (s.slotBegun.lineFrame sp) } } : LinePort)
      = { (s.line sp).arbitrate.2 with
          loopNow := (s.line sp).loop
          base := { (s.line sp).arbitrate.2.base with sending := some (frameBytes (s.spanWord sp) (s.line sp).arbitrate.1) } } := by
  rw [slotBegun_lineFrame hl, slotBegun_line hl, arbitrate_loopNow]

/-- The three frames of a slot start begin (R104, R120, R121). -/
theorem sendFrames_eq :
    let frame := fun sp : Span => frameBytes (s.spanWord sp) (s.line sp).arbitrate.1
    let localFrame := frameBytes s.localWord s.localPort.queue.head?
    let line := fun sp : Span =>
      { (s.line sp).arbitrate.2 with
        loopNow := (s.line sp).loop
        base := { (s.line sp).arbitrate.2.base with sending := some (frame sp) } }
    sendLocal (sendLine .es (sendLine .ws s.slotBegun))
      = { s with
          time := { s.time with prescaler := 2048 * s.time.slotNext, slotNext := s.time.slotNext + 1 }
          lines := ⟨line .ws, line .es⟩
          localPort := { s.localPort with queue := s.localPort.queue.tail, sending := some localFrame }
          out := s.out ++ [.frame .west (frame .ws), .frame .east (frame .es), .frame .loc localFrame] } := by
  intro frame localFrame line
  have loop (sp : Span) : (s.slotBegun.line sp).loopNow ≠ .inner := by rw [slotBegun_line hl]; exact (hl sp).1
  have ws := sendLine_out (loop .ws)
  rw [slotBegun_sends hl, slotBegun_lineFrame hl] at ws
  have es := sendLine_out (s := sendLine .ws s.slotBegun) (sp := .es) (by rw [ws]; exact loop .es)
  have line_es : (sendLine .ws s.slotBegun).line .es = s.slotBegun.line .es := by rw [ws]; rfl
  have frame_es : (sendLine .ws s.slotBegun).lineFrame .es = s.slotBegun.lineFrame .es := by rw [ws]; rfl
  rw [line_es, frame_es, slotBegun_sends hl, slotBegun_lineFrame hl] at es
  rw [es, ws, sendLocal]
  simp only [State.emit, List.append_assoc, List.cons_append, List.nil_append]
  rfl

/-- A slot start with no port in a loop and no notice waiting is the start of the three frames. -/
theorem startSlot_plain (eastFirst : Bool) (hn : s.time.slotNext < 8) (hq : s.notices = []) :
    startSlot race eastFirst s = sendLocal (sendLine .es (sendLine .ws s.slotBegun)) := by
  have sent := sendFrames_eq hl
  have empty : (sendLocal (sendLine .es (sendLine .ws s.slotBegun))).notices = [] := by rw [sent]; exact hq
  have out (sp : Span) : ((sendLocal (sendLine .es (sendLine .ws s.slotBegun))).line sp).loopNow ≠ .inner := by
    rw [sent]; cases sp <;> exact (hl _).1
  have begun : startSlot race eastFirst s
      = inOrder race.replyFirst departNotices
          (inOrder eastFirst (loopBack .ws race (s.slotBegun.lineFrame .ws)) (loopBack .es race (s.slotBegun.lineFrame .es)))
          (sendLocal (sendLine .es (sendLine .ws s.slotBegun))) := if_pos hn
  rw [begun]
  generalize sendLocal (sendLine .es (sendLine .ws s.slotBegun)) = u at empty out
  have loops : inOrder eastFirst (loopBack .ws race (s.slotBegun.lineFrame .ws)) (loopBack .es race (s.slotBegun.lineFrame .es)) u = u := by
    obtain e | e := inOrder_cases eastFirst (loopBack .ws race (s.slotBegun.lineFrame .ws))
      (loopBack .es race (s.slotBegun.lineFrame .es)) u <;>
      rw [e, loopBack_line (out _), loopBack_line (out _)]
  obtain e | e := inOrder_cases race.replyFirst departNotices
    (inOrder eastFirst (loopBack .ws race (s.slotBegun.lineFrame .ws)) (loopBack .es race (s.slotBegun.lineFrame .es))) u
  · rw [e, departNotices_none empty, loops]
  · rw [e, loops, departNotices_none empty]

end Plain

/-- Settles O9. -/
theorem slotStartBeginsThreeFrames : Obligations.SlotStartBeginsThreeFrames := by
  refine ⟨fun s sp => ?_, fun race eastFirst s hr hn hq hl => ?_⟩
  · intro echoes word
    refine ⟨fun w hf => ?_, fun hf => ?_, rfl⟩
    · rw [spanWord_echo, echo_far hf]
      by_cases h : echoes w
      · rw [if_pos h, if_pos h]; rfl
      · rw [if_neg h, if_neg h]; rfl
    · rw [spanWord_echo, echo_none hf]; rfl
  · intro frame localFrame line
    rw [exec, execSlotStart, unlessReset_free hr, startSlot_plain (s := s.fresh) hl eastFirst hn hq]
    exact congrArg _ (sendFrames_eq (s := s.fresh) hl)

end Sys2Proof.Machine
end

section
/-! SUPPORT. A change of an input's light state: the loss tests, what the engine makes of it, and STAGE following. -/

namespace Sys2Proof.Machine

variable {s t u : State} {sp : Span} {w : SpanWord} {old new : Light}

/-! ### The tests at a loss -/

theorem signalLossTest_eq (sp : Span) (s : State) :
    signalLossTest sp s =
      { s with
        raised := s.raised ++
          if (s.config sp).mode = .frame ∧ (s.st sp).state.isOpen ∧ (s.line sp).live = true ∧ farThruDark sp s = false then
            [⟨.engine sp, .signalLoss, .one sp, .monitor (Config.inputChan sp), s.time.tickCount, false⟩]
          else [] } := by
  unfold signalLossTest
  split
  · rfl
  · rw [List.append_nil]

theorem lightLostTest_eq (sp : Span) (s : State) :
    lightLostTest sp s =
      { s with
        raised := s.raised ++
          if (s.config sp).mode = .light ∧ (s.st sp).state.lit then
            [⟨.engine sp, .lightLost, .one sp, .monitor (Config.inputChan sp), s.time.tickCount, false⟩]
          else [] } := by
  unfold lightLostTest
  split
  · rfl
  · rw [List.append_nil]

/-- The events of a change to `new` from `old`: SPAN_BREAK, SIGNAL_LOSS, LIGHT_LOST (R25, R26, R28). -/
def State.lossEvents (s : State) (sp : Span) (old new : Light) : List Raised :=
  let event (e : Event) : List Raised := [⟨.engine sp, e, .one sp, .monitor (Config.inputChan sp), s.time.tickCount, false⟩]
  (if new = .absent ∧ (s.config sp).mode = .frame ∧ (s.st sp).state.isOpen = true ∧ (s.inp sp).light = .absent
      ∧ (s.line sp).live = false then event .spanBreak else [])
  ++ (if isLoss old new = true ∧ (s.config sp).mode = .frame ∧ (s.st sp).state.isOpen = true ∧ (s.line sp).live = true
      ∧ farThruDark sp s = false then event .signalLoss else [])
  ++ (if isLoss old new = true ∧ (s.config sp).mode = .light ∧ (s.st sp).state.lit = true then event .lightLost else [])

/-- The state once the loss tests have been made. -/
def State.lossTested (s : State) (sp : Span) (old new : Light) : State := { s with raised := s.raised ++ s.lossEvents sp old new }

theorem lossTests_eq (sp : Span) (old new : Light) (s : State) :
    (let s1 := if new = .absent then breakTest sp s else s
     if isLoss old new then lightLostTest sp (signalLossTest sp s1) else s1) = s.lossTested sp old new := by
  have first : (if new = .absent then breakTest sp s else s)
      = { s with
          raised := s.raised ++
            if new = .absent ∧ (s.config sp).mode = .frame ∧ (s.st sp).state.isOpen = true ∧ (s.inp sp).light = .absent
                ∧ (s.line sp).live = false then
              [⟨.engine sp, .spanBreak, .one sp, .monitor (Config.inputChan sp), s.time.tickCount, false⟩]
            else [] } := by
    by_cases h : new = .absent
    · rw [if_pos h, breakTest_eq]
      simp only [h, true_and, isOpen_iff, or_comm (a := (s.st sp).state = .service)]
    · rw [if_neg h, if_neg fun g => h g.1, List.append_nil]
  simp only [first]
  cases h : isLoss old new
  · simp [State.lossTested, State.lossEvents, h]
  · simp only [if_true, signalLossTest_eq, lightLostTest_eq, State.lossTested, State.lossEvents, h, true_and, List.append_assoc]
    rfl

/-! ### The engine takes the change -/

theorem engineLight_tested (sp : Span) (old new : Light) (s : State) :
    engineLight sp old new s
      = match (s.st sp).state with
        | .wait =>
          if (s.config sp).mode = .light ∧ isReturn old new then
            (s.lossTested sp old new).setSt sp { s.st sp with callPending := true }
          else s.lossTested sp old new
        | .probe =>
          if (s.config sp).mode = .light ∧ new = .present then enterConfirm sp (s.lossTested sp old new) else s.lossTested sp old new
        | .confirm => completionTest sp (s.lossTested sp old new)
        | .unused | .shut | .service | .locked | .maint => s.lossTested sp old new := by
  have tested := lossTests_eq sp old new s
  unfold engineLight
  simp only [tested]
  rfl

theorem lossTested_frame (s : State) (sp : Span) (old new : Light) : ProofFrame s (s.lossTested sp old new) := rfl

theorem ProofFrame.trans (h : ProofFrame s t) (g : ProofFrame t u) : ProofFrame s u := by
  rw [ProofFrame, ← show _ = s from h, ← show _ = t from g]

theorem SpanFrame.proof (h : SpanFrame s t) : ProofFrame s t := by
  rw [ProofFrame, h.eq]

theorem engineLight_cases (sp : Span) (old new : Light) (s : State) :
    engineLight sp old new s = s.lossTested sp old new
      ∨ engineLight sp old new s = (s.lossTested sp old new).setSt sp { s.st sp with callPending := true }
      ∨ engineLight sp old new s = enterConfirm sp (s.lossTested sp old new)
      ∨ engineLight sp old new s = completionTest sp (s.lossTested sp old new) := by
  rw [engineLight_tested]
  cases (s.st sp).state
  case wait =>
    dsimp only
    split
    · exact .inr (.inl rfl)
    · exact .inl rfl
  case probe =>
    dsimp only
    split
    · exact .inr (.inr (.inl rfl))
    · exact .inl rfl
  case confirm => exact .inr (.inr (.inr rfl))
  all_goals exact .inl rfl

theorem engineLight_frame (sp : Span) (old new : Light) (s : State) : ProofFrame s (engineLight sp old new s) := by
  have tested := lossTested_frame s sp old new
  obtain e | e | e | e := engineLight_cases sp old new s <;> rw [e]
  · exact tested
  · exact rfl
  · exact tested.trans (enterConfirm_frame ..)
  · exact tested.trans (completionTest_frame ..).proof

theorem engineLight_st_other (sp : Span) (old new : Light) (s : State) : (engineLight sp old new s).st sp.other = s.st sp.other := by
  obtain e | e | e | e := engineLight_cases sp old new s <;> rw [e]
  · rfl
  · exact PerSpan.get_set_other ..
  · exact enterConfirm_st_other ..
  · exact completionTest_st_other ..

theorem engineLight_raised (sp : Span) (old new : Light) (s : State) :
    (s.raised ++ s.lossEvents sp old new) <+: (engineLight sp old new s).raised := by
  obtain e | e | e | e := engineLight_cases sp old new s <;> rw [e]
  · exact List.prefix_rfl
  · exact List.prefix_rfl
  · exact enterConfirm_raised sp (s.lossTested sp old new)
  · exact completionTest_raised sp (s.lossTested sp old new)

/-! ### STAGE following -/

theorem stageFollow_frame (d : Dir) (old new : Light) (s : State) : PumpFrame s (stageFollow d old new s) := by
  unfold stageFollow
  split_ifs
  · exact .refl s
  · exact riseStage_frame ..
  · exact douseStage_frame ..
  · exact .refl s

theorem isLoss_iff : isLoss old new = true ↔ (old = .present ∨ old = .fading) ∧ new = .absent := by
  cases old <;> cases new <;> decide

theorem isReturn_iff : isReturn old new = true ↔ (old = .absent ∨ old = .returning) ∧ new = .present := by
  cases old <;> cases new <;> decide

/-- STAGE following, for a STAGE pump of the input's direction (R92). -/
theorem stageFollow_pump {d : Dir} {ch : Chan} (hr : (s.pump ch).role = .stage) (hd : (s.pump ch).dir = d) :
    (stageFollow d old new s).pump ch
      = if s.part.run = true ∧ isReturn old new = true ∧ (s.st (Config.outSpan d)).state.isOpen = true then
          (s.pump ch).takeRise (s.pump ch).service
        else if s.part.run = true ∧ isLoss old new = true then (s.pump ch).takeDouse
        else s.pump ch := by
  have may : s.mayRise (s.pump ch) = (s.part.run && (s.st (Config.outSpan d)).state.isOpen) := by
    simp [State.mayRise, Pump.lights, hr, hd, State.spanOpen]
  unfold stageFollow
  cases hrun : s.part.run
  · simp
  · by_cases h1 : isReturn old new = true ∧ (s.st (Config.outSpan d)).state.isOpen = true
    · simp [h1, riseStage_pump, hr, hd, may, hrun]
    · by_cases h2 : isLoss old new = true
      · simp [h1, h2, douseStage_pump, hr, hd]
      · simp [h1, h2]

/-! ### The change handed on -/

theorem lightChanged_same (sp : Span) (x : Light) (s : State) : lightChanged sp x x s = s := if_pos rfl

theorem lightChanged_ne (h : old ≠ new) (sp : Span) (s : State) :
    lightChanged sp old new s = stageFollow (Config.inputDir sp) old new (engineLight sp old new s) := if_neg h

/-- What a change of light leaves as it was. -/
theorem lightChanged_frame (sp : Span) (old new : Light) (s : State) :
    { lightChanged sp old new s with
        status := s.status, pumps := s.pumps, owed := s.owed, pins := s.pins, raised := s.raised, out := s.out } = s := by
  by_cases h : old = new
  · rw [h, lightChanged_same]
  · rw [lightChanged_ne h, (stageFollow_frame ..).eq, (engineLight_frame ..).eq]

theorem lightChanged_st (h : old ≠ new) (x : Span) : (lightChanged sp old new s).st x = (engineLight sp old new s).st x := by
  rw [lightChanged_ne h, (stageFollow_frame ..).st]

theorem lightChanged_raised (h : old ≠ new) : (lightChanged sp old new s).raised = (engineLight sp old new s).raised := by
  rw [lightChanged_ne h, (stageFollow_frame ..).eq]

theorem outSpan_inputDir (sp : Span) : Config.outSpan (Config.inputDir sp) = sp.other := by cases sp <;> rfl

/-- The engine of the input's span leaves the STAGE pumps of the input's direction alone: they light the other span. -/
theorem engineLight_pump {ch : Chan} (hr : (s.pump ch).role = .stage) (hd : (s.pump ch).dir = Config.inputDir sp) :
    (engineLight sp old new s).pump ch = s.pump ch := by
  obtain e | e | e | e := engineLight_cases sp old new s <;> rw [e]
  · rfl
  · rfl
  · generalize hv : s.lossTested sp old new = v
    have pump : v.pump ch = s.pump ch := by rw [← hv]; rfl
    rw [enterConfirm_pump, riseSpan_pump, if_neg, ← pump]
    · rfl
    rintro ⟨h, -⟩
    have lights := raisedBy_lights h
    rw [show (shift sp ((v.st sp).proved (v.owes (.slot sp))) v).pump ch = s.pump ch from pump] at lights
    simp only [Pump.lights, hr, hd, outSpan_inputDir] at lights
    cases sp <;> cases lights
  · rw [(completionTest_frame sp _).pump]; rfl

theorem lightChanged_pump (h : old ≠ new) {ch : Chan} (hr : (s.pump ch).role = .stage) (hd : (s.pump ch).dir = Config.inputDir sp) :
    (lightChanged sp old new s).pump ch
      = if s.part.run = true ∧ isReturn old new = true ∧ (s.st sp.other).state.isOpen = true then
          (s.pump ch).takeRise (s.pump ch).service
        else if s.part.run = true ∧ isLoss old new = true then (s.pump ch).takeDouse
        else s.pump ch := by
  have same : (engineLight sp old new s).pump ch = s.pump ch := engineLight_pump hr hd
  have part : (engineLight sp old new s).part = s.part := by rw [(engineLight_frame sp old new s).eq]
  rw [lightChanged_ne h, stageFollow_pump (by rw [same, hr]) (by rw [same, hd]), same, part, outSpan_inputDir, engineLight_st_other]

end Sys2Proof.Machine
end

section
/-! SUPPORT. A sample of an input, and what its change of light brings about. -/

namespace Sys2Proof.Machine

variable {s t u : State} {sp : Span} {w : SpanWord} {old new : Light}

/-- An event of a span's engine about the light of its input. -/
def State.lightEvent (s : State) (sp : Span) (e : Event) : Raised :=
  ⟨.engine sp, e, .one sp, .monitor (Config.inputChan sp), s.time.tickCount, false⟩

section Losses

variable (hl : isLoss old new = true)
include hl

theorem lossEvents_light (hm : (s.config sp).mode = .light) (ho : (s.st sp).state.lit = true) :
    s.lossEvents sp old new = [s.lightEvent sp .lightLost] := by
  simp [State.lossEvents, State.lightEvent, hl, hm, ho]

theorem lossEvents_live (hm : (s.config sp).mode = .frame) (ho : (s.st sp).state.isOpen = true) (hv : (s.line sp).live = true) :
    s.lossEvents sp old new = if farThruDark sp s = false then [s.lightEvent sp .signalLoss] else [] := by
  simp [State.lossEvents, State.lightEvent, hl, hm, ho, hv]

theorem lossEvents_silent (hm : (s.config sp).mode = .frame) (ho : (s.st sp).state.isOpen = true) (hv : (s.line sp).live = false)
    (hi : (s.inp sp).light = .absent) : s.lossEvents sp old new = [s.lightEvent sp .spanBreak] := by
  have hn : new = .absent := (isLoss_iff.mp hl).2
  simp [State.lossEvents, State.lightEvent, hm, ho, hv, hi, hn]

end Losses

theorem farThruDark_iff (sp : Span) (s : State) : farThruDark sp s = true ↔ ∃ w, (s.st sp).far = some w ∧ w.thruDark = true := by
  unfold farThruDark
  cases (s.st sp).far <;> simp

/-! ### What a change of light does to the span -/

theorem lightChanged_st_lost (hl : isLoss old new = true) (hi : (s.inp sp).light = new) (hm : (s.config sp).mode = .light) :
    (lightChanged sp old new s).st sp = s.st sp := by
  obtain ⟨ho, rfl⟩ := isLoss_iff.mp hl
  have ne : old ≠ .absent := by rintro rfl; simp at ho
  have dark : ¬ (s.lossTested sp old .absent).Ready sp := by
    rintro ⟨-, -, g⟩
    exact absurd ((show (s.inp sp).light = .present from g hm).symm.trans hi) (by decide)
  have noReturn : isReturn old .absent = false := by cases old <;> rfl
  rw [lightChanged_st ne, engineLight_tested]
  cases hs : (s.st sp).state
  case wait => rw [noReturn]; simp only [Bool.false_eq_true, and_false, if_false]; rfl
  case probe => simp only [reduceCtorEq, and_false, if_false]; rfl
  case confirm => simp only [completionTest_of_not_ready dark]; rfl
  all_goals rfl

theorem lightChanged_st_wait (h : old ≠ new) (hs : (s.st sp).state = .wait) :
    (lightChanged sp old new s).st sp
      = if (s.config sp).mode = .light ∧ isReturn old new = true then { s.st sp with callPending := true } else s.st sp := by
  rw [lightChanged_st h, engineLight_tested]
  simp only [hs]
  split
  · exact State.setSt_st_self ..
  · rfl

theorem lightChanged_st_probe (h : old ≠ .present) (hs : (s.st sp).state = .probe) (hm : (s.config sp).mode = .light) :
    ((lightChanged sp old .present s).st sp).state = .confirm ∨ ((lightChanged sp old .present s).st sp).state = .service := by
  rw [lightChanged_st h, engineLight_tested]
  simp only [hs, hm, and_self, if_true]
  exact (enterConfirm_state ..).1

theorem lightChanged_raised_prefix (h : old ≠ new) : (s.raised ++ s.lossEvents sp old new) <+: (lightChanged sp old new s).raised := by
  rw [lightChanged_raised h]
  exact engineLight_raised ..

theorem lightChanged_raised_service (h : old ≠ new) (hs : (s.st sp).state = .service) :
    (lightChanged sp old new s).raised = s.raised ++ s.lossEvents sp old new := by
  rw [lightChanged_raised h, engineLight_tested]
  simp only [hs]
  rfl

theorem lightChanged_mon (sp : Span) (old new : Light) (s : State) : (lightChanged sp old new s).mon = s.mon := by
  conv_rhs => rw [← lightChanged_frame sp old new s]

theorem lightChanged_input (sp : Span) (old new : Light) (s : State) : (lightChanged sp old new s).input = s.input := by
  conv_rhs => rw [← lightChanged_frame sp old new s]

/-! ### A sample -/

theorem isLoss_ne (h : isLoss old new = true) : old ≠ new := by
  rintro rfl; cases old <;> cases h

theorem sampleCode_eq (b1 b2 : Byte) : sampleCode b1 b2 = b1.toNat * 256 + b2.toNat := by
  simp [sampleCode, beNat]

theorem sampleChan_eq {b : Byte} {ch : Chan} (h : b.toNat % 8 = ch.val) : sampleChan b = ch := Fin.ext (by
  rw [← h]; exact Nat.mod_mod ..)

theorem monRole_input (sp : Span) : Config.monRole (Config.inputChan sp) = .input sp := by cases sp <;> rfl

theorem inputDir_eq (sp : Span) : Config.inputDir sp = if sp = .ws then .eb else .wb := by cases sp <;> rfl

/-- The table of R66 and R67, by powers. -/
theorem sample_eq (c : InputChan) (power : Nat) :
    c.sample (decide (power < c.lo)) (decide (c.hi ≤ power))
      = (match c.light with
        | .present =>
          if power < c.lo then
            (if c.nLoss ≤ 1 then { c with light := .absent, run := 0 } else { c with light := .fading, run := 1 })
          else c
        | .fading =>
          if power < c.lo then
            (if c.nLoss ≤ c.run + 1 then { c with light := .absent, run := 0 } else { c with run := c.run + 1 })
          else { c with light := .present, run := 0 }
        | .absent =>
          if c.hi ≤ power then
            (if c.nRest ≤ 1 then { c with light := .present, run := 0 } else { c with light := .returning, run := 1 })
          else c
        | .returning =>
          if c.hi ≤ power then
            (if c.nRest ≤ c.run + 1 then { c with light := .present, run := 0 } else { c with run := c.run + 1 })
          else { c with light := .absent, run := 0 }) := by
  unfold InputChan.sample
  cases c.light <;> simp only [decide_eq_true_eq]

/-- The state in which a sample's change of light is handed on. -/
def State.sampled (s : State) (sp : Span) (power : Nat) : State :=
  (s.setChan (Config.inputChan sp) { s.chan (Config.inputChan sp) with latest := power, fresh := 0, stale := false }).setInp sp
    ((s.inp sp).sample (decide (power < (s.inp sp).lo)) (decide ((s.inp sp).hi ≤ power)))

theorem exec_inputSample {b0 b1 b2 : Byte} (hr : s.pins.resetLine = false) (hb : sampleChan b0 = Config.inputChan sp) {power : Nat}
    (hp : power = convert (sampleCode b1 b2) (s.chan (Config.inputChan sp)).offset (s.chan (Config.inputChan sp)).gain) :
    exec (.sampleWord b0 b1 b2) s
      = .next (lightChanged sp (s.inp sp).light ((s.fresh.sampled sp power).inp sp).light (s.fresh.sampled sp power)) := by
  have new : (s.fresh.sampled sp power).inp sp
      = (s.inp sp).sample (decide (power < (s.inp sp).lo)) (decide ((s.inp sp).hi ≤ power)) := State.setInp_inp_self ..
  rw [exec, execSampleWord, unlessReset_free hr, hb, new, takeSample]
  simp only [monRole_input, State.sampled, hp]
  rfl

/-- Settles O29. -/
theorem lightStateMovesBySample : Obligations.LightStateMovesBySample := by
  intro s b0 b1 b2 sp hr hb ch power c
  have hch : ch = Config.inputChan sp := (inputChan_eq sp).symm
  have run : exec (.sampleWord b0 b1 b2) s
      = .next (lightChanged sp c.light ((s.fresh.sampled sp power).inp sp).light (s.fresh.sampled sp power)) := by
    refine exec_inputSample hr (sampleChan_eq ?_) ?_
    · rw [hb, inputChan_eq]; split <;> rfl
    · rw [sampleCode_eq, ← hch]; rfl
  have inp : (s.fresh.sampled sp power).inp sp = c.sample (decide (power < c.lo)) (decide (c.hi ≤ power)) := State.setInp_inp_self ..
  refine ⟨_, run, ?_⟩
  generalize hv : s.fresh.sampled sp power = v at inp
  have mon := lightChanged_mon sp c.light (v.inp sp).light v
  have input := lightChanged_input sp c.light (v.inp sp).light v
  have got (x : Span) : (lightChanged sp c.light (v.inp sp).light v).inp x = v.inp x := by rw [State.inp, input]; rfl
  have chan (m : Chan) : (lightChanged sp c.light (v.inp sp).light v).chan m = v.chan m := by rw [State.chan, mon]; rfl
  have st (x : Span) : v.st x = s.st x := by rw [← hv]; rfl
  have mode : (v.config sp).mode = (s.config sp).mode := by rw [← hv]; rfl
  have live : (v.line sp).live = (s.line sp).live := by rw [← hv]; rfl
  have raised : v.raised = s.raised := by rw [← hv]; rfl
  have part : v.part = s.part := by rw [← hv]; rfl
  have pump (p : Chan) : v.pump p = s.pump p := by rw [← hv]; rfl
  have event (e : Event) : v.lightEvent sp e = ⟨.engine sp, e, .one sp, .monitor ch, s.time.tickCount, false⟩ := by
    rw [← hv, hch]; rfl
  rw [got, got]
  refine ⟨?_, fun m hm => ?_, ?_, fun same => ?_, inp.trans (sample_eq c power), ?_⟩
  · rw [chan, ← hv, hch]; exact State.setChan_chan_self ..
  · rw [hch] at hm
    rw [chan, ← hv]
    exact (State.setChan_chan ..).trans (if_neg hm)
  · rw [← hv]; exact PerSpan.get_set_other ..
  · rw [same, lightChanged_same, ← hv]; rfl
  · generalize hn : (v.inp sp).light = new
    intro loss ret raisedWith
    have unchanged (h : c.light = new) : lightChanged sp c.light new v = v := if_pos h
    have isLoss' : isLoss c.light new = true ↔ loss := isLoss_iff
    have isReturn' : isReturn c.light new = true ↔ ret := isReturn_iff
    have thruDark : farThruDark sp v = true ↔ ∃ w, (s.st sp).far = some w ∧ w.thruDark = true := by rw [farThruDark_iff, st]
    have open_ (h : (s.st sp).state = .service ∨ (s.st sp).state = .confirm) : (v.st sp).state.isOpen = true := by
      rw [st, isOpen_iff]; exact h.symm
    have added (l : loss) : (s.raised ++ v.lossEvents sp c.light new) <+: (lightChanged sp c.light new v).raised := by
      rw [← raised]
      exact lightChanged_raised_prefix (isLoss_ne (isLoss'.mpr l))
    refine ⟨fun hm ho hl => ?_, fun hm ho hl => ?_, fun hm hs ho hp => ?_, fun hs => ?_, fun p hr hd => ?_⟩
    · have more := added hl
      have il := isLoss'.mpr hl
      by_cases hlive : (s.line sp).live = false
      · rw [lossEvents_silent il (mode.trans hm) (open_ ho) (live.trans hlive) (hn.trans hl.2), event] at more
        rw [if_pos hlive]; exact more
      · have events := lossEvents_live il (mode.trans hm) (open_ ho) (live.trans (by simpa using hlive))
        rw [if_neg hlive]
        by_cases ht : farThruDark sp v = true
        · rw [if_neg (by rw [ht]; decide)] at events
          rw [if_pos (thruDark.mp ht)]
          intro hs
          rw [lightChanged_raised_service (isLoss_ne il) (by rw [st]; exact hs), events, raised, List.append_nil]
        · rw [if_pos (by simpa using ht), event] at events
          rw [events] at more
          rw [if_neg fun g => ht (thruDark.mpr g)]
          exact more
    · have more := added hl
      have lit : (v.st sp).state.lit = true := by
        rw [st]; obtain h | h | h := ho <;> rw [h] <;> rfl
      rw [lossEvents_light (isLoss'.mpr hl) (mode.trans hm) lit, event] at more
      exact ⟨more, (lightChanged_st_lost (isLoss'.mpr hl) hn (mode.trans hm)).trans (st sp)⟩
    · subst hp
      exact lightChanged_st_probe ho (by rw [st]; exact hs) (mode.trans hm)
    · by_cases ne : c.light = new
      · have noReturn : ¬ ret := by rintro ⟨h1, h2⟩; rw [ne, h2] at h1; simp at h1
        rw [if_neg fun g => noReturn g.2, unchanged ne, st]
      · rw [lightChanged_st_wait ne (by rw [st]; exact hs), mode, st]
        exact if_congr (and_congr_right fun _ => isReturn') rfl rfl
    · have role : (v.pump p).role = .stage := by rw [pump]; exact hr
      have dir : (v.pump p).dir = Config.inputDir sp := by rw [pump, inputDir_eq]; exact hd
      by_cases ne : c.light = new
      · have noReturn : ¬ ret := by rintro ⟨h1, h2⟩; rw [ne, h2] at h1; simp at h1
        have noLoss : ¬ loss := by rintro ⟨h1, h2⟩; rw [ne, h2] at h1; simp at h1
        rw [if_neg fun g => noReturn g.2.1, if_neg fun g => noLoss g.2, unchanged ne, pump]
      · rw [lightChanged_pump ne role dir, part, pump, st]
        exact if_congr (and_congr_right fun _ => and_congr isReturn' (isOpen_iff _)) rfl
          (if_congr (and_congr_right fun _ => isLoss') rfl rfl)

end Sys2Proof.Machine
end

section
/-! SUPPORT. A monitor channel that goes stale, and the zero samples of a stale input. -/

namespace Sys2Proof.Machine

variable {s t u : State} {sp : Span} {ch : Chan} {old new : Light} {levels : BitVec 8}

/-! ### Work on the pump channels only takes owed ticks away -/

theorem putPump_owed (s : State) (ch : Chan) (p : Pump) : (s.putPump ch p).owed ⊆ s.owed := by
  obtain e | e := putPump_spec s ch p <;> rw [e]
  · exact List.Subset.refl _
  · exact List.filter_subset_self _

theorem forChans_owed {f : Chan → State → State} (hf : ∀ ch t, (f ch t).owed ⊆ t.owed) (s : State) : (forChans f s).owed ⊆ s.owed :=
  forChans_inv (Q := fun s t => t.owed ⊆ s.owed) (fun _ => List.Subset.refl _) (fun h g => List.Subset.trans g h) hf s

theorem riseChannel_owed (ch : Chan) (x : Nat) (s : State) : (riseChannel ch x s).owed ⊆ s.owed := by
  obtain ⟨-, e⟩ | ⟨-, e⟩ := riseChannel_cases ch x s <;> rw [e]
  · exact putPump_owed ..
  · exact List.Subset.refl _

theorem riseSpan_owed (sp : Span) (s : State) : (riseSpan sp s).owed ⊆ s.owed :=
  forChans_owed (fun ch t => by
    dsimp only
    split
    · exact riseChannel_owed ..
    · exact List.Subset.refl _) s

theorem enterConfirm_owed (sp : Span) (s : State) : (enterConfirm sp s).owed ⊆ s.owed := by
  have test : (completionTest sp (confirmed sp s)).owed = (confirmed sp s).owed := by rw [(completionTest_frame sp _).eq]
  rw [enterConfirm_confirmed, test, confirmed]
  generalize hv : shift sp ((s.st sp).proved (s.owes (.slot sp))) s = v
  have owed : v.owed = s.owed := by rw [← hv]; rfl
  have loss : (breakTest sp (riseSpan sp v)).owed = (riseSpan sp v).owed := by rw [(breakTest_spanFrame sp _).eq]
  rw [loss, ← owed]
  exact riseSpan_owed sp v

theorem stageFollow_owed (d : Dir) (old new : Light) (s : State) : (stageFollow d old new s).owed ⊆ s.owed := by
  unfold stageFollow
  split_ifs
  · exact List.Subset.refl _
  · refine forChans_owed (fun ch t => ?_) s
    split
    · exact riseChannel_owed ..
    · exact List.Subset.refl _
  · refine forChans_owed (fun ch t => ?_) s
    split
    · exact putPump_owed ..
    · exact List.Subset.refl _
  · exact List.Subset.refl _

theorem lightChanged_owed (sp : Span) (old new : Light) (s : State) : (lightChanged sp old new s).owed ⊆ s.owed := by
  by_cases h : old = new
  · rw [h, lightChanged_same]; exact List.Subset.refl _
  · rw [lightChanged_ne h]
    refine List.Subset.trans (stageFollow_owed ..) ?_
    obtain e | e | e | e := engineLight_cases sp old new s <;> rw [e]
    · exact List.Subset.refl _
    · exact List.Subset.refl _
    · exact enterConfirm_owed sp (s.lossTested sp old new)
    · rw [(completionTest_frame ..).eq]; exact List.Subset.refl _

theorem lightChanged_raised_more (sp : Span) (old new : Light) (s : State) : s.raised <+: (lightChanged sp old new s).raised := by
  by_cases h : old = new
  · rw [h, lightChanged_same]
  · exact (List.prefix_append ..).trans (lightChanged_raised_prefix h)

/-! ### A channel goes stale -/

theorem monSpan_eq (ch : Chan) : Config.monSpan ch = if ch ∈ [0, 3, 5, 6] then .ws else .es := by revert ch; decide

/-- A channel's record and its event as it goes stale (R70). -/
def State.staled (s : State) (ch : Chan) : State :=
  (s.setChan ch { s.chan ch with stale := true }).raise .monitorUnit .monitorStale (.one (Config.monSpan ch)) (.monitor ch)

theorem goStale_cases (ch : Chan) (s : State) :
    (goStale ch s = s.staled ch ∧ ch ≠ 6 ∧ ch ≠ 2)
      ∨ (∃ sp, goStale ch s = (s.staled ch).setReflection sp { s.reflection sp with run := 0 }
          ∧ (ch = 6 → sp = .ws) ∧ (ch = 2 → sp = .es)) := by
  unfold goStale
  rw [monRole_eq]
  by_cases h1 : ch = 0 ∨ ch = 4
  · rw [if_pos h1]
    refine .inl ⟨rfl, ?_, ?_⟩ <;> obtain rfl | rfl := h1 <;> decide
  · rw [if_neg h1]
    by_cases h2 : ch = 2 ∨ ch = 6
    · rw [if_pos h2]
      refine .inr ⟨_, rfl, fun h => if_pos h, fun h => if_neg ?_⟩
      rw [h]; decide
    · rw [if_neg h2]
      exact .inl ⟨rfl, fun h => h2 (.inr h), fun h => h2 (.inl h)⟩

/-- A stale channel of no input takes no sample; an input advances (R71). -/
theorem zeroSample_cases (ch : Chan) (s : State) :
    (zeroSample ch s = s ∧ ch ≠ 0 ∧ ch ≠ 4)
      ∨ ∃ sp, ch = Config.inputChan sp ∧ zeroSample ch s
          = lightChanged sp (s.inp sp).light ((s.inp sp).sample true false).light (s.setInp sp ((s.inp sp).sample true false)) := by
  unfold zeroSample
  rw [monRole_eq]
  by_cases h1 : ch = 0 ∨ ch = 4
  · rw [if_pos h1]
    refine .inr ⟨_, ?_, rfl⟩
    obtain rfl | rfl := h1 <;> decide
  · rw [if_neg h1]
    refine .inl ⟨?_, fun h => h1 (.inl h), fun h => h1 (.inr h)⟩
    by_cases h2 : ch = 2 ∨ ch = 6
    · rw [if_pos h2]
    · rw [if_neg h2]

theorem zeroSample_keeps (ch : Chan) (s : State) :
    (zeroSample ch s).mon = s.mon ∧ (zeroSample ch s).refl = s.refl ∧ (zeroSample ch s).owed ⊆ s.owed
      ∧ s.raised <+: (zeroSample ch s).raised := by
  obtain ⟨e, -⟩ | ⟨sp, -, e⟩ := zeroSample_cases ch s <;> rw [e]
  · exact ⟨rfl, rfl, List.Subset.refl _, List.prefix_rfl⟩
  · generalize hv : s.setInp sp ((s.inp sp).sample true false) = v
    have frame := lightChanged_frame sp (s.inp sp).light ((s.inp sp).sample true false).light v
    refine ⟨?_, ?_, ?_, ?_⟩
    · rw [lightChanged_mon, ← hv]; rfl
    · have reflections : (lightChanged sp (s.inp sp).light ((s.inp sp).sample true false).light v).refl = v.refl := by
        conv_rhs => rw [← frame]
      rw [reflections, ← hv]; rfl
    · have owed : v.owed = s.owed := by rw [← hv]; rfl
      rw [← owed]; exact lightChanged_owed ..
    · have raised : v.raised = s.raised := by rw [← hv]; rfl
      rw [← raised]; exact lightChanged_raised_more ..

theorem monitorTick_eq {n : Nat} (hn : min 255 ((s.chan ch).fresh + 1) = n) :
    monitorTick ch s
      = if ((if (s.chan ch).stale = false ∧ (s.chan ch).window ≤ n then goStale ch (s.setChan ch { s.chan ch with fresh := n })
            else s.setChan ch { s.chan ch with fresh := n }).chan ch).stale = true then
          zeroSample ch
            (if (s.chan ch).stale = false ∧ (s.chan ch).window ≤ n then goStale ch (s.setChan ch { s.chan ch with fresh := n })
            else s.setChan ch { s.chan ch with fresh := n })
        else
          (if (s.chan ch).stale = false ∧ (s.chan ch).window ≤ n then goStale ch (s.setChan ch { s.chan ch with fresh := n })
          else s.setChan ch { s.chan ch with fresh := n }) := by
  subst hn; rfl

/-- A tick that makes a channel stale. -/
theorem monitorTick_stales {n : Nat} (hs : (s.chan ch).stale = false) (hn : min 255 ((s.chan ch).fresh + 1) = n)
    (hw : (s.chan ch).window ≤ n) :
    monitorTick ch s = zeroSample ch (goStale ch (s.setChan ch { s.chan ch with fresh := n })) := by
  have stale : ((goStale ch (s.setChan ch { s.chan ch with fresh := n })).chan ch).stale = true := by
    obtain ⟨e, -⟩ | ⟨sp, e, -⟩ := goStale_cases ch (s.setChan ch { s.chan ch with fresh := n }) <;> rw [e]
    · exact congrArg MonChan.stale (State.setChan_chan_self ..)
    · exact congrArg MonChan.stale (State.setChan_chan_self ..)
  have due : (s.chan ch).stale = false ∧ (s.chan ch).window ≤ n := ⟨hs, hw⟩
  have closed : monitorTick ch s = _ := monitorTick_eq hn
  rw [if_pos due, if_pos stale] at closed
  exact closed

theorem goStale_chan (ch m : Chan) (s : State) :
    (goStale ch s).chan m = if m = ch then { s.chan ch with stale := true } else s.chan m := by
  obtain ⟨e, -⟩ | ⟨sp, e, -⟩ := goStale_cases ch s <;> rw [e] <;> exact State.setChan_chan ..

theorem goStale_raised (ch : Chan) (s : State) :
    (goStale ch s).raised
      = s.raised ++ [⟨.monitorUnit, .monitorStale, .one (Config.monSpan ch), .monitor ch, s.time.tickCount, false⟩] := by
  obtain ⟨e, -⟩ | ⟨sp, e, -⟩ := goStale_cases ch s <;> rw [e] <;> rfl

theorem goStale_owed (ch : Chan) (s : State) : (goStale ch s).owed = s.owed := by
  obtain ⟨e, -⟩ | ⟨sp, e, -⟩ := goStale_cases ch s <;> rw [e] <;> rfl

theorem goStale_run (s : State) : ((goStale 6 s).reflection .ws).run = 0 ∧ ((goStale 2 s).reflection .es).run = 0 := by
  refine ⟨?_, ?_⟩
  · obtain ⟨-, h, -⟩ | ⟨sp, e, h, -⟩ := goStale_cases 6 s
    · exact absurd rfl h
    · rw [e, h rfl]; rfl
  · obtain ⟨-, -, h⟩ | ⟨sp, e, -, h⟩ := goStale_cases 2 s
    · exact absurd rfl h
    · rw [e, h rfl]; rfl

/-- A channel that goes stale, and its zero sample. -/
theorem monitorTick_stale_chan {n : Nat} (hs : (s.chan ch).stale = false) (hn : min 255 ((s.chan ch).fresh + 1) = n)
    (hw : (s.chan ch).window ≤ n) (m : Chan) :
    (monitorTick ch s).chan m = if m = ch then { s.chan ch with fresh := n, stale := true } else s.chan m := by
  obtain ⟨mon, -⟩ := zeroSample_keeps ch (goStale ch (s.setChan ch { s.chan ch with fresh := n }))
  have same : (zeroSample ch (goStale ch (s.setChan ch { s.chan ch with fresh := n }))).chan m
      = (goStale ch (s.setChan ch { s.chan ch with fresh := n })).chan m := by rw [State.chan, mon]; rfl
  rw [monitorTick_stales hs hn hw, same, goStale_chan, State.setChan_chan_self, State.setChan_chan]
  split <;> rfl

/-- MONITOR_STALE of a channel that reaches its window (R70, R73). -/
theorem exec_monitorStale {n : Nat} (hr : s.pins.resetLine = false) (hj : .monitor ch ∈ s.owed) (hs : (s.chan ch).stale = false)
    (hn : min 255 ((s.chan ch).fresh + 1) = n) (hw : (s.chan ch).window ≤ n) :
    ∃ t, exec (.monitorStale ch) s = .next t
      ∧ t.chan ch = { s.chan ch with fresh := n, stale := true }
      ∧ (∀ c, c ≠ ch → t.chan c = s.chan c) ∧ .monitor ch ∉ t.owed
      ∧ (s.raised ++ [⟨.monitorUnit, .monitorStale, .one (Config.monSpan ch), .monitor ch, s.time.tickCount, false⟩]) <+: t.raised
      ∧ (ch = 6 → (t.reflection .ws).run = 0) ∧ (ch = 2 → (t.reflection .es).run = 0) := by
  generalize hu : s.fresh.dropJob (.monitor ch) = u
  have chan (m : Chan) : u.chan m = s.chan m := by rw [← hu]; rfl
  have raised : u.raised = s.raised := by rw [← hu]; rfl
  have owed : .monitor ch ∉ u.owed := by rw [← hu]; exact fun h => (mem_dropJob.mp h).2 rfl
  have time : u.time = s.time := by rw [← hu]; rfl
  rw [← chan] at hs hn hw
  have after := monitorTick_stale_chan hs hn hw
  have tick := monitorTick_stales hs hn hw
  generalize hg : u.setChan ch { u.chan ch with fresh := n } = g at tick
  obtain ⟨-, same, kept, more⟩ := zeroSample_keeps ch (goStale ch g)
  have stales : channelStales ch s.fresh (monitorTick ch u) = true := by
    rw [channelStales, after ch, if_pos rfl, show s.fresh.chan ch = s.chan ch from rfl, ← chan, hs]; rfl
  refine ⟨monitorTick ch u, ?_, ?_, fun c hc => ?_, ?_, ?_, ?_, ?_⟩
  · rw [exec, execMonitorStale, unlessReset_free hr]
    exact congrArg _ (takeWhere_eq (s := s.fresh) hj (by rw [hu]; rfl) stales)
  · rw [after ch, if_pos rfl, chan]
  · rw [after c, if_neg hc, chan]
  · rw [tick]
    intro h
    have := kept h
    rw [goStale_owed, ← hg] at this
    exact owed this
  · rw [tick, ← raised, ← time]
    refine List.IsPrefix.trans ?_ more
    rw [goStale_raised, ← hg]; exact List.prefix_rfl
  · rintro rfl
    rw [tick, State.reflection, same]
    exact (goStale_run g).1
  · rintro rfl
    rw [tick, State.reflection, same]
    exact (goStale_run g).2

/-! ### A stale input at a tick -/

/-- MONITOR_STALE of an input that a tick makes stale; none of one that is stale already (R70). -/
def State.staleEvents (s : State) (sp : Span) : List Raised :=
  if (s.chan (Config.inputChan sp)).stale = true then []
  else [⟨.monitorUnit, .monitorStale, .one sp, .monitor (Config.inputChan sp), s.time.tickCount, false⟩]

/-- The state in which the zero sample of a stale input is handed on. -/
def State.zeroed (s : State) (sp : Span) (n : Nat) : State :=
  State.setInp
    (State.setChan { s with raised := s.raised ++ s.staleEvents sp } (Config.inputChan sp)
      { s.chan (Config.inputChan sp) with fresh := n, stale := true })
    sp ((s.inp sp).sample true false)

theorem zeroSample_input (sp : Span) (s : State) :
    zeroSample (Config.inputChan sp) s
      = lightChanged sp (s.inp sp).light ((s.inp sp).sample true false).light (s.setInp sp ((s.inp sp).sample true false)) := by
  rw [zeroSample, monRole_input]; rfl

theorem goStale_input (sp : Span) (s : State) : goStale (Config.inputChan sp) s = s.staled (Config.inputChan sp) := by
  rw [goStale, monRole_input]; rfl

theorem monSpan_inputChan (sp : Span) : Config.monSpan (Config.inputChan sp) = sp := by cases sp <;> rfl

/-- A tick of a stale input, or of one that becomes stale (R70, R71). -/
theorem monitorTick_input {n : Nat} (hn : min 255 ((s.chan (Config.inputChan sp)).fresh + 1) = n)
    (hs : (s.chan (Config.inputChan sp)).stale = true ∨ (s.chan (Config.inputChan sp)).window ≤ n) :
    monitorTick (Config.inputChan sp) s
      = lightChanged sp (s.inp sp).light ((s.inp sp).sample true false).light (s.zeroed sp n) := by
  cases h : (s.chan (Config.inputChan sp)).stale
  · have due : (s.chan (Config.inputChan sp)).window ≤ n := hs.resolve_left (by rw [h]; decide)
    rw [monitorTick_stales h hn due, goStale_input, zeroSample_input, State.zeroed, State.staleEvents, h, if_neg (by decide),
      State.staled, State.setChan_chan_self, State.setChan_setChan, monSpan_inputChan]
    rfl
  · have closed : monitorTick (Config.inputChan sp) s = _ := monitorTick_eq hn
    have notDue : ¬ ((s.chan (Config.inputChan sp)).stale = false ∧ (s.chan (Config.inputChan sp)).window ≤ n) := by
      rw [h]; rintro ⟨g, -⟩; cases g
    have still : (State.chan (s.setChan (Config.inputChan sp) { s.chan (Config.inputChan sp) with fresh := n })
        (Config.inputChan sp)).stale = true := (congrArg MonChan.stale (State.setChan_chan_self ..)).trans h
    have record : ({ s.chan (Config.inputChan sp) with fresh := n } : MonChan)
        = { s.chan (Config.inputChan sp) with fresh := n, stale := true } := by rw [← h]
    rw [if_neg notDue, if_pos still, zeroSample_input, record] at closed
    rw [closed, State.zeroed, State.staleEvents, if_pos h, List.append_nil]
    rfl

/-- The table of a zero sample (R67, R71). -/
theorem sample_zero (c : InputChan) :
    c.sample true false
      = (match c.light with
        | .present => if c.nLoss ≤ 1 then { c with light := .absent, run := 0 } else { c with light := .fading, run := 1 }
        | .fading => if c.nLoss ≤ c.run + 1 then { c with light := .absent, run := 0 } else { c with run := c.run + 1 }
        | .absent => c
        | .returning => { c with light := .absent, run := 0 }) := by
  unfold InputChan.sample
  cases c.light <;> rfl

theorem monitor_mem (ch : Chan) : TickJob.monitor ch ∈ Config.allJobs := by revert ch; decide

/-- Settles O31. -/
theorem silentMonitorGoesStale : Obligations.SilentMonitorGoesStale := by
  refine ⟨fun s ch hr hj hs hw => ?_, fun s sp levels hr ho => ?_⟩
  · obtain ⟨t, run, own, others, owed, raised, runs⟩ := exec_monitorStale hr hj hs rfl hw
    rw [monSpan_eq] at raised
    exact ⟨t, run, own, others, owed, raised, runs⟩
  · intro ch n hs c
    have hch : ch = Config.inputChan sp := (inputChan_eq sp).symm
    have hn : min 255 ((s.chan ch).fresh + 1) = n := rfl
    clear_value n ch
    subst hch
    have run : exec (.tick levels [.monitor (Config.inputChan sp)]) s = _ := exec_tick_one levels hr ho (monitor_mem _)
    generalize hu : (s.ticked levels).dropJob (.monitor (Config.inputChan sp)) = u at run
    have uchan (m : Chan) : u.chan m = s.chan m := by rw [← hu]; rfl
    have uinp : u.inp sp = c := by rw [← hu]; rfl
    rw [← uchan] at hn hs
    have tick : runJob (.monitor (Config.inputChan sp)) u = _ := monitorTick_input hn hs
    rw [uinp] at tick
    refine ⟨_, run.trans (congrArg _ tick), ?_⟩
    generalize hv : u.zeroed sp n = v
    have inp : v.inp sp = c.sample true false := by rw [← hv, ← uinp]; exact State.setInp_inp_self ..
    have chan (m : Chan) : (lightChanged sp c.light (c.sample true false).light v).chan m = v.chan m := by
      rw [State.chan, lightChanged_mon]; rfl
    have got (x : Span) : (lightChanged sp c.light (c.sample true false).light v).inp x = v.inp x := by
      rw [State.inp, lightChanged_input]; rfl
    have st (x : Span) : v.st x = s.st x := by rw [← hv, ← hu]; rfl
    have mode : (v.config sp).mode = (s.config sp).mode := by rw [← hv, ← hu]; rfl
    have live : (v.line sp).live = (s.line sp).live := by rw [← hv, ← hu]; rfl
    have part : v.part = s.part := by rw [← hv, ← hu]; rfl
    have pump (p : Chan) : v.pump p = s.pump p := by rw [← hv, ← hu]; rfl
    have event (e : Event) : v.lightEvent sp e
        = ⟨.engine sp, e, .one sp, .monitor (Config.inputChan sp), s.time.tickCount + 1, false⟩ := by
      rw [← hv, ← hu]; rfl
    have raised : v.raised = s.raised
        ++ if (s.chan (Config.inputChan sp)).stale = true then []
          else [⟨.monitorUnit, .monitorStale, .one sp, .monitor (Config.inputChan sp), s.time.tickCount + 1, false⟩] := by
      rw [← hv, ← hu]; rfl
    refine ⟨?_, fun m hm => ?_, ?_, ?_, ?_⟩
    · rw [chan, ← hv, ← uchan]; exact State.setChan_chan_self ..
    · rw [chan, ← hv, ← uchan]; exact (State.setChan_chan ..).trans (if_neg hm)
    · rw [got, ← hv, ← hu]; exact PerSpan.get_set_other ..
    · rw [got, inp]; exact sample_zero c
    · rw [got, inp, ← raised]
      intro stales loss
      refine ⟨lightChanged_raised_more .., fun same => ?_, fun hm ho hv' hl => ?_, fun hrun hl p hr hd => ?_⟩
      · rw [same, lightChanged_same]
        exact ⟨rfl, by rw [← hv, ← hu]; rfl⟩
      · have il : isLoss c.light (c.sample true false).light = true := isLoss_iff.mpr hl
        have more := lightChanged_raised_prefix (s := v) (sp := sp) (isLoss_ne il)
        rw [lossEvents_silent il (mode.trans hm) (by rw [st, isOpen_iff]; exact ho.symm) (live.trans hv')
          (by rw [inp]; exact hl.2), event] at more
        exact more
      · have il : isLoss c.light (c.sample true false).light = true := isLoss_iff.mpr hl
        have noReturn : isReturn c.light (c.sample true false).light = false := by
          rw [Bool.eq_false_iff, ne_eq, isReturn_iff, hl.2]; rintro ⟨-, g⟩; cases g
        rw [lightChanged_pump (isLoss_ne il) (by rw [pump]; exact hr) (by rw [pump, inputDir_eq]; exact hd), pump, part, noReturn, il,
          hrun]
        rfl

end Sys2Proof.Machine
end

section
/-! SUPPORT. The Pump Link's tick where no channel reaches its third missing answer: the checks, then the records. -/

namespace Sys2Proof.Machine

variable {s t u : State} {sp : Span} {ch c : Chan}

/-- A channel after the check of a tick: a missing answer counts (R100). -/
def Pump.checked (p : Pump) : Pump :=
  { p with answered := false, noReply := if p.sent = true ∧ p.answered = false then min 3 (p.noReply + 1) else p.noReply }

/-- A channel once its record of a tick has gone out (R97). -/
def Pump.recorded (p : Pump) : Pump := { p with sent := decide (p.role ≠ .unused) }

/-- A channel after the Pump Link's tick. -/
def Pump.linked (p : Pump) : Pump :=
  { p with
    sent := decide (p.role ≠ .unused), answered := false
    noReply := if p.sent = true ∧ p.answered = false then min 3 (p.noReply + 1) else p.noReply }

theorem checked_recorded (p : Pump) : p.checked.recorded = p.linked := rfl

/-- A channel that does not reach its third missing answer at this tick (R100). -/
def Pump.Answers (p : Pump) : Prop := p.sent = false ∨ p.answered = true ∨ p.noReply < 2 ∨ p.state = .faulted

/-- A used channel's record of the tick (R97). -/
def State.record (s : State) (ch : Chan) : List Output :=
  if (s.pump ch).role = .unused then [] else [.setpoint (setpointRecord ch (s.pump ch).level)]

theorem checkTick_answers (h : (s.pump ch).Answers) : checkTick ch s = s.setPump ch (s.pump ch).checked := by
  have missed : ((s.pump ch).sent && !(s.pump ch).answered) = true ↔ (s.pump ch).sent = true ∧ (s.pump ch).answered = false := by simp
  have checked : ({ s.pump ch with
      noReply := if (s.pump ch).sent && !(s.pump ch).answered then satSucc 3 (s.pump ch).noReply else (s.pump ch).noReply
      answered := false } : Pump) = (s.pump ch).checked := by
    unfold Pump.checked
    simp only [missed, satSucc]
  obtain ⟨⟨h1, h2, h3⟩, -⟩ | ⟨-, e⟩ := checkTick_cases ch s
  · obtain ⟨hs, ha⟩ := missed.mp h1
    obtain g | g | g | g := h
    · rw [g] at hs; cases hs
    · rw [g] at ha; cases ha
    · simp only [h1, if_true, satSucc] at h2; omega
    · exact absurd g h3
  · rw [e, checked]

/-! ### The checks -/

theorem takeCheck_owed (h : .check ch ∈ s.owed) (ha : (s.pump ch).Answers) :
    takeCheck ch s = (s.dropJob (.check ch)).setPump ch (s.pump ch).checked := by
  obtain ⟨-, e⟩ | ⟨g, -⟩ := takeCheck_cases ch s
  · rw [e]; exact checkTick_answers ha
  · exact absurd h g

theorem takeChecks_none (h : ∀ c, .check c ∉ s.owed) : forChans takeCheck s = s := by
  refine (forChans_induct (P := fun t => t = s) (fun c t ht => ?_) rfl : _)
  subst ht
  obtain ⟨g, -⟩ | ⟨-, e⟩ := takeCheck_cases c t
  · exact absurd g (h c)
  · exact e

/-- The checks of all channels: each counts its missing answer, and no check is owed any more. -/
theorem takeChecks_spec (h : ∀ c, .check c ∈ s.owed) (ha : ∀ c, (s.pump c).Answers) :
    { forChans takeCheck s with pumps := s.pumps, owed := s.owed } = s
      ∧ (∀ c, (forChans takeCheck s).pump c = (s.pump c).checked)
      ∧ (∀ c, .check c ∉ (forChans takeCheck s).owed)
      ∧ (∀ c, .link c ∈ (forChans takeCheck s).owed ↔ .link c ∈ s.owed) := by
  have go : ∀ (l : List Chan) (t : State), l.Nodup → (∀ c ∈ l, .check c ∈ t.owed) → (∀ c ∈ l, (t.pump c).Answers) →
      let r := l.foldl (fun t c => takeCheck c t) t
      { r with pumps := t.pumps, owed := t.owed } = t
        ∧ (∀ c, r.pump c = if c ∈ l then (t.pump c).checked else t.pump c)
        ∧ (∀ c, .check c ∈ r.owed ↔ .check c ∈ t.owed ∧ c ∉ l)
        ∧ (∀ c, .link c ∈ r.owed ↔ .link c ∈ t.owed) := by
    intro l
    induction l with
    | nil => intro t _ _ _; exact ⟨rfl, fun _ => rfl, fun c => by simp, fun _ => Iff.rfl⟩
    | cons a l ih =>
      intro t hl ho hq
      obtain ⟨hal, hl⟩ := List.nodup_cons.mp hl
      have first : takeCheck a t = _ := takeCheck_owed (ho a (by simp)) (hq a (by simp))
      generalize hr : (t.dropJob (.check a)).setPump a (t.pump a).checked = r at first
      have pump (c : Chan) : r.pump c = if c = a then (t.pump a).checked else t.pump c := by rw [← hr]; exact State.setPump_pump ..
      have owed (j : TickJob) : j ∈ r.owed ↔ j ∈ t.owed ∧ j ≠ .check a := by rw [← hr]; exact mem_dropJob
      obtain ⟨frame, pumps, checks, links⟩ := ih r hl
        (fun c hc => (owed _).mpr ⟨ho c (List.mem_cons_of_mem _ hc), by rintro ⟨⟩; exact hal hc⟩)
        (fun c hc => by
          rw [pump, if_neg (by rintro rfl; exact hal hc)]
          exact hq c (List.mem_cons_of_mem _ hc))
      simp only [List.foldl_cons, first]
      refine ⟨?_, fun c => ?_, fun c => ?_, fun c => ?_⟩
      · have own : { r with pumps := t.pumps, owed := t.owed } = t := by rw [← hr]; rfl
        conv_rhs => rw [← own, ← frame]
      · rw [pumps, pump]
        by_cases hc : c = a
        · subst hc; simp [hal]
        · simp [hc]
      · rw [checks, owed]
        simp only [ne_eq, TickJob.check.injEq, List.mem_cons, not_or, and_assoc]
      · rw [links, owed]; simp
  obtain ⟨frame, pumps, checks, links⟩ := go Config.chans s (by decide) (fun c _ => h c) (fun c _ => ha c)
  exact ⟨frame, fun c => (pumps c).trans (if_pos (mem_chans c)), fun c g => ((checks c).mp g).2 (mem_chans c), links⟩

/-! ### The records -/

theorem sendRecord_eq (ch : Chan) (s : State) : sendRecord ch s = { s with out := s.out ++ s.record ch } := by
  unfold sendRecord State.record
  split
  · rw [List.append_nil]
  · rfl

/-- The record of a channel where the checks are done (R97). -/
theorem takeLink_checked (h : .link ch ∈ s.owed) (hc : ∀ c, .check c ∉ s.owed) :
    takeLink ch s
      = { (s.dropJob (.link ch)).setPump ch (s.pump ch).recorded with out := s.out ++ s.record ch } := by
  obtain ⟨-, e⟩ | ⟨g, -⟩ := takeLink_cases ch s
  · have none_ : forChans takeCheck (s.dropJob (.link ch)) = s.dropJob (.link ch) :=
      takeChecks_none fun c g => hc c (mem_dropJob.mp g).1
    have record : State.record ((s.dropJob (.link ch)).setPump ch (s.pump ch).recorded) ch = s.record ch := by
      simp only [State.record, State.setPump_pump_self]; rfl
    rw [e, linkTick, none_]
    refine (sendRecord_eq ..).trans ?_
    rw [← record]; rfl
  · exact absurd h g

/-- Where the Pump Link's tick stands with the records of some channels sent, in that order. -/
structure Linking (s : State) (sent : List Chan) (t : State) : Prop where
  frame : PumpFrame s t
  pump : ∀ c, t.pump c = if c ∈ sent then (s.pump c).linked else (s.pump c).checked
  checks : ∀ c, .check c ∉ t.owed
  links : ∀ c, .link c ∈ t.owed ↔ .link c ∈ s.owed ∧ c ∉ sent
  out : t.out = s.out ++ sent.flatMap s.record

/-- The first record of a tick, with the checks of all channels before it (R97, R100). -/
theorem linking_first (h : .link ch ∈ s.owed) (hc : ∀ c, .check c ∈ s.owed) (ha : ∀ c, (s.pump c).Answers) :
    Linking s [ch] (takeLink ch s) := by
  obtain ⟨-, e⟩ | ⟨g, -⟩ := takeLink_cases ch s
  · obtain ⟨frame, pumps, checks, links⟩ := takeChecks_spec (s := s.dropJob (.link ch))
      (fun c => mem_dropJob.mpr ⟨hc c, by simp⟩) ha
    have linked : takeLink ch s = _ := e.trans (sendRecord_eq ..)
    generalize forChans takeCheck (s.dropJob (.link ch)) = r at linked frame pumps checks links
    have out : r.out = s.out := (show r.out = (s.dropJob (.link ch)).out by rw [← frame])
    have pump (c : Chan) : (takeLink ch s).pump c = if c = ch then (r.pump ch).recorded else r.pump c := by
      rw [linked]; exact State.setPump_pump ..
    refine ⟨?_, fun c => ?_, fun c => ?_, fun c => ?_, ?_⟩
    · have drop : PumpFrame s (s.dropJob (.link ch)) := rfl
      refine drop.trans (.trans (t := r) ?_ ?_)
      · have out' : (s.dropJob (.link ch)).out = r.out := out.symm
        rw [PumpFrame, out']; exact frame
      · rw [linked]; rfl
    · rw [pump, pumps, pumps]
      by_cases hcc : c = ch
      · subst hcc; simp; rfl
      · simp [hcc]
    · rw [linked]; exact checks c
    · have owed : (takeLink ch s).owed = r.owed := by rw [linked]; rfl
      rw [owed, links, mem_dropJob]; simp
    · have record : State.record (r.setPump ch { r.pump ch with sent := decide ((r.pump ch).role ≠ .unused) }) ch = s.record ch := by
        simp only [State.record, State.setPump_pump_self, pumps]; rfl
      rw [linked]
      show r.out ++ State.record _ ch = _
      rw [record, out]; simp
  · exact absurd h g

/-- A further record of the tick. -/
theorem Linking.next {sent : List Chan} (h : Linking s sent t) (ho : .link ch ∈ s.owed) (hn : ch ∉ sent) :
    Linking s (sent ++ [ch]) (takeLink ch t) := by
  have linked := takeLink_checked ((h.links ch).mpr ⟨ho, hn⟩) h.checks
  have pump (c : Chan) : (takeLink ch t).pump c = if c = ch then (t.pump ch).recorded else t.pump c := by
    rw [linked]; exact State.setPump_pump ..
  have owed (j : TickJob) : j ∈ (takeLink ch t).owed ↔ j ∈ t.owed ∧ j ≠ .link ch := by rw [linked]; exact mem_dropJob
  refine ⟨h.frame.trans (by rw [linked]; rfl), fun c => ?_, fun c g => h.checks c ((owed _).mp g).1, fun c => ?_, ?_⟩
  · rw [pump, h.pump, h.pump]
    by_cases hcc : c = ch
    · subst hcc; simp [hn, checked_recorded]
    · simp [hcc]
  · rw [owed, h.links]
    simp [and_assoc]
  · have record : t.record ch = s.record ch := by
      simp only [State.record, h.pump, hn, if_false]; rfl
    rw [linked]
    show t.out ++ t.record ch = _
    rw [record, h.out, List.flatMap_append, List.append_assoc]
    simp

/-- The Pump Link's tick: every channel checked, then the records of all used channels, in their order (R97, R100, log 45). -/
theorem takeLinks_linking (hl : ∀ c, .link c ∈ s.owed) (hc : ∀ c, .check c ∈ s.owed) (ha : ∀ c, (s.pump c).Answers) :
    Linking s Config.chans (forChans takeLink s) := by
  have go : ∀ (l sent : List Chan) (t : State), (sent ++ l).Nodup → Linking s sent t →
      Linking s (sent ++ l) (l.foldl (fun t c => takeLink c t) t) := by
    intro l
    induction l with
    | nil => intro sent t _ h; simpa using h
    | cons a l ih =>
      intro sent t hn h
      have new : a ∉ sent := fun g => (List.nodup_append.mp hn).2.2 a g a (by simp) rfl
      have := ih (sent ++ [a]) (takeLink a t) (by simpa using hn) (h.next (hl a) new)
      simpa using this
  have rest := go [1, 2, 3, 4, 5, 6, 7] [0] (takeLink 0 s) (by decide) (linking_first (hl 0) hc ha)
  rw [forChans, show Config.chans = 0 :: [1, 2, 3, 4, 5, 6, 7] from rfl, List.foldl_cons]
  exact rest

/-- The records of a tick, in the order of the channels. -/
theorem records_eq (s : State) :
    Config.chans.flatMap s.record
      = (Config.chans.filter fun c => (s.pump c).role ≠ .unused).map fun c => Output.setpoint (setpointRecord c (s.pump c).level) := by
  generalize Config.chans = l
  induction l with
  | nil => rfl
  | cons a l ih =>
    rw [List.flatMap_cons, ih, State.record]
    by_cases h : (s.pump a).role = .unused
    · simp [h]
    · simp [h]

end Sys2Proof.Machine
end

section
/-! SUPPORT. The step of a pump channel at a tick, and the completion test after it. -/

namespace Sys2Proof.Machine

variable {s t u v : State} {sp : Span} {ch c : Chan} {p q : Pump} {b : Bool} {levels : BitVec 8}

/-! ### A channel's step by its state -/

theorem takeStep_pulseEnd {len : Nat} (h : p.state = .pulsing) (hl : p.pulseLen = some len) (hn : len ≤ p.pulseCount + 1) :
    p.takeStep b = p.goHold := by
  unfold Pump.takeStep
  simp only [h, hl, Option.getD_some, hn, if_true]

theorem takeStep_pulse {len : Nat} (h : p.state = .pulsing) (hl : p.pulseLen = some len) (hn : p.pulseCount + 1 < len) :
    p.takeStep b = { p with pulseCount := p.pulseCount + 1 } := by
  unfold Pump.takeStep
  simp only [h, hl, Option.getD_some, Nat.not_le.mpr hn, if_false]

theorem takeStep_hold (h : p.state = .darkHold) (hn : 2 ≤ p.darkLeft) : p.takeStep b = { p with darkLeft := p.darkLeft - 1 } := by
  unfold Pump.takeStep
  have : ¬ p.darkLeft - 1 = 0 := by omega
  simp only [h, this, if_false]

theorem takeStep_holdEnd (h : p.state = .darkHold) (hn : p.darkLeft ≤ 1) (hr : p.rise = none) :
    p.takeStep b = { p with state := .dark, darkLeft := 0 } := by
  unfold Pump.takeStep
  have : p.darkLeft - 1 = 0 := by omega
  simp only [h, this, if_true, hr]

theorem takeStep_holdRise {x : Nat} (h : p.state = .darkHold) (hn : p.darkLeft ≤ 1) (hr : p.rise = some x) :
    p.takeStep b
      = if b = true then { p with state := .rising, target := some x, rise := none, darkLeft := 0 }
        else { p with state := .dark, rise := none, darkLeft := 0 } := by
  unfold Pump.takeStep
  have : p.darkLeft - 1 = 0 := by omega
  simp only [h, this, if_true, hr]

theorem takeStep_riseEnd {x : Nat} (h : p.state = .rising) (ht : p.target = some x) (hn : x ≤ p.level + p.up) :
    p.takeStep b = { p with state := .lit, level := x, target := none } := by
  unfold Pump.takeStep
  simp only [h, ht, Option.getD_some, Nat.min_eq_left hn, if_true]

theorem takeStep_rise {x : Nat} (h : p.state = .rising) (ht : p.target = some x) (hn : p.level + p.up < x) :
    p.takeStep b = { p with level := p.level + p.up } := by
  unfold Pump.takeStep
  simp only [h, ht, Option.getD_some, Nat.min_eq_right hn.le, hn.ne, if_false]

theorem takeStep_fallEnd {x : Nat} (h : p.state = .falling) (ht : p.target = some x) (hn : p.level - p.down ≤ x) :
    p.takeStep b = if x = 0 then p.goHold else { p with state := .lit, level := x, target := none } := by
  unfold Pump.takeStep
  simp only [h, ht, Option.getD_some, Nat.max_eq_left hn, if_true]

theorem takeStep_fall {x : Nat} (h : p.state = .falling) (ht : p.target = some x) (hn : x < p.level - p.down) :
    p.takeStep b = { p with level := p.level - p.down } := by
  unfold Pump.takeStep
  simp only [h, ht, Option.getD_some, Nat.max_eq_right hn.le, hn.ne', if_false]

theorem takeStep_none (h : p.state = .dark ∨ p.state = .lit ∨ p.state = .faulted) : p.takeStep b = p := by
  unfold Pump.takeStep
  obtain h | h | h := h <;> simp only [h]

theorem takeStep_lights (p : Pump) (b : Bool) : (p.takeStep b).lights = p.lights := (takeStep_keeps p b).lights_eq

/-! ### The step in the part -/

/-- The state with a channel's step of the tick taken, before its span tests completion. -/
def State.stepped (s : State) (ch : Chan) : State := s.setPump ch ((s.pump ch).takeStep (s.mayRise (s.pump ch)))

theorem stepped_pump (s : State) (ch c : Chan) :
    (s.stepped ch).pump c = if c = ch then (s.pump ch).takeStep (s.mayRise (s.pump ch)) else s.pump c := State.setPump_pump ..

theorem takeLinks_none (h : ∀ c, .link c ∉ s.owed) : forChans takeLink s = s := by
  refine (forChans_induct (P := fun t => t = s) (fun c t ht => ?_) rfl : _)
  subst ht
  obtain ⟨g, -⟩ | ⟨-, e⟩ := takeLink_cases c t
  · exact absurd g (h c)
  · exact e

theorem stepTick_records (ch : Chan) (s : State) : stepTick ch s = testCompletion ch ((forChans takeLink s).stepped ch) := rfl

/-- A step once all records of its tick are out. -/
theorem stepTick_linked (h : ∀ c, .link c ∉ s.owed) : stepTick ch s = testCompletion ch (s.stepped ch) := by
  rw [stepTick, takeLinks_none h]; rfl

theorem testCompletion_frame (ch : Chan) (s : State) : SpanFrame s (testCompletion ch s) := by
  unfold testCompletion
  split
  · exact completionTest_frame ..
  · exact .refl s

/-- The test of a pump's span is nothing where the span is not in CONFIRM. -/
theorem testCompletion_still (h : ∀ sp, (s.pump ch).lights = some sp → (s.st sp).state ≠ .confirm) : testCompletion ch s = s := by
  unfold testCompletion
  split
  next sp hl => exact completionTest_of_state (h sp hl)
  next => rfl

theorem stepped_still (h : ∀ sp, (s.pump ch).lights = some sp → (s.st sp).state ≠ .confirm) :
    testCompletion ch (s.stepped ch) = s.stepped ch := by
  refine testCompletion_still fun sp hl => ?_
  rw [stepped_pump, if_pos rfl, takeStep_lights] at hl
  exact h sp hl

theorem stepped_test (h : (s.pump ch).lights = some sp) : testCompletion ch (s.stepped ch) = completionTest sp (s.stepped ch) :=
  testCompletion_some (by rw [stepped_pump, if_pos rfl, takeStep_lights, h])

/-! ### The rows that name what a step brings about -/

section Rows

theorem dropStep_noLink (hl : ∀ c, TickJob.link c ∉ s.owed) (c : Chan) : TickJob.link c ∉ (s.fresh.dropJob (.step ch)).owed :=
  fun g => hl c (mem_dropJob.mp g).1

variable {happens : State → State → Bool} (hj : .step ch ∈ s.owed) (hl : ∀ c, TickJob.link c ∉ s.owed)
include hj hl

/-- A step that brings about what its row names, for a pump of no span in CONFIRM. -/
theorem takeWhere_step_still (hc : ∀ sp, (s.pump ch).lights = some sp → (s.st sp).state ≠ .confirm)
    (hq : (s.pump ch).takeStep (s.mayRise (s.pump ch)) = q)
    (hh : ∀ t : State, t.pump ch = q → happens s.fresh t = true) :
    takeWhere (.step ch) happens s.fresh = (s.fresh.dropJob (.step ch)).setPump ch q := by
  have still : testCompletion ch ((s.fresh.dropJob (.step ch)).stepped ch) = _ := stepped_still hc
  have run : runJob (.step ch) (s.fresh.dropJob (.step ch)) = (s.fresh.dropJob (.step ch)).setPump ch q := by
    rw [runJob, stepTick_linked (dropStep_noLink hl), still, ← hq]; rfl
  exact takeWhere_eq (s := s.fresh) hj run (hh _ (State.setPump_pump_self ..))

/-- A step that brings about what its row names, for a pump of a span in CONFIRM: the span tests completion. -/
theorem takeWhere_step_test (hc : (s.pump ch).lights = some sp)
    (hq : (s.pump ch).takeStep (s.mayRise (s.pump ch)) = q)
    (hh : ∀ t : State, t.pump ch = q → happens s.fresh t = true) :
    takeWhere (.step ch) happens s.fresh = completionTest sp ((s.fresh.dropJob (.step ch)).setPump ch q) := by
  have test : testCompletion ch ((s.fresh.dropJob (.step ch)).stepped ch) = _ := stepped_test hc
  have run : runJob (.step ch) (s.fresh.dropJob (.step ch)) = completionTest sp ((s.fresh.dropJob (.step ch)).setPump ch q) := by
    rw [runJob, stepTick_linked (dropStep_noLink hl), test, ← hq]; rfl
  refine takeWhere_eq (s := s.fresh) hj run (hh _ ?_)
  rw [(completionTest_frame ..).pump]
  exact State.setPump_pump_self ..

end Rows

/-! ### The step of a whole tick -/

/-- A TICK of one channel's step, no channel reaching its third missing answer: all records first, then the step (R88, R97). -/
theorem exec_tick_step (hr : s.pins.resetLine = false) (ho : s.owed = []) (ha : ∀ c, (s.pump c).Answers) :
    ∃ t, exec (.tick levels [.step ch]) s = .next (testCompletion ch (t.stepped ch))
      ∧ PumpFrame ((s.ticked levels).dropJob (.step ch)) t
      ∧ (∀ c, t.pump c = (s.pump c).linked)
      ∧ t.out = (Config.chans.filter fun c => (s.pump c).role ≠ .unused).map
          fun c => Output.setpoint (setpointRecord c (s.pump c).level) := by
  have step_mem : TickJob.step ch ∈ Config.allJobs := by revert ch; decide
  have owes (j : TickJob) (hj : j ∈ Config.allJobs) (hne : j ≠ .step ch) : j ∈ ((s.ticked levels).dropJob (.step ch)).owed :=
    mem_dropJob.mpr ⟨hj, hne⟩
  have link_mem (c : Chan) : TickJob.link c ∈ Config.allJobs := by revert c; decide
  have check_mem (c : Chan) : TickJob.check c ∈ Config.allJobs := by revert c; decide
  have run := exec_tick_one levels hr ho step_mem
  have pump (c : Chan) : ((s.ticked levels).dropJob (.step ch)).pump c = s.pump c := rfl
  have out : ((s.ticked levels).dropJob (.step ch)).out = [] := rfl
  generalize (s.ticked levels).dropJob (.step ch) = u at run owes pump out
  have links := takeLinks_linking (s := u) (fun c => owes _ (link_mem c) (by simp)) (fun c => owes _ (check_mem c) (by simp))
    (fun c => by rw [pump]; exact ha c)
  have record : u.record = s.record := by funext c; simp only [State.record, pump]
  rw [runJob, stepTick_records] at run
  generalize forChans takeLink u = t at run links
  refine ⟨t, run, links.frame, fun c => ?_, ?_⟩
  · rw [links.pump, if_pos (mem_chans c), pump]
  · rw [links.out, out, record, records_eq]; rfl

end Sys2Proof.Machine
end

section
/-! SUPPORT. The statement of the channels' steps. -/

namespace Sys2Proof.Machine

variable {s t u v : State} {sp : Span} {ch c : Chan} {p q : Pump} {b : Bool} {levels : BitVec 8}

theorem pulseEnds_of (hs : (s.pump ch).state = .pulsing) (ht : (t.pump ch).state = .darkHold) : pulseEnds ch s t = true := by
  simp [pulseEnds, hs, ht]

theorem holdEnds_of (hs : (s.pump ch).state = .darkHold) (ht : (t.pump ch).state = .dark ∨ (t.pump ch).state = .rising) :
    holdEnds ch s t = true := by
  obtain ht | ht := ht <;> simp [holdEnds, hs, ht]

theorem rampEnds_of (hs : (s.pump ch).state = .rising ∨ (s.pump ch).state = .falling)
    (ht : (t.pump ch).state = .lit ∨ (t.pump ch).state = .darkHold) : rampEnds ch s t = true := by
  obtain hs | hs := hs <;> obtain ht | ht := ht <;> simp [rampEnds, hs, ht, PumpState.ramping]

theorem mayRise_lights {p : Pump} (h : p.lights = some sp) : s.mayRise p = (s.part.run && (s.st sp).state.isOpen) := by
  simp only [State.mayRise, h, State.spanOpen]

/-- A pending rise out of CONFIRM: it rises in SERVICE in RUN. -/
theorem mayRise_service {p : Pump} (h : p.lights = some sp) (hc : (s.st sp).state ≠ .confirm) :
    s.mayRise p = true ↔ s.part.run = true ∧ (s.st sp).state = .service := by
  rw [mayRise_lights h, Bool.and_eq_true, isOpen_iff, or_iff_right hc]

theorem mayRise_confirm {p : Pump} (h : p.lights = some sp) (hc : (s.st sp).state = .confirm) : s.mayRise p = s.part.run := by
  rw [mayRise_lights h, hc]; exact Bool.and_true _

theorem fallEnd_state (p : Pump) (x : Nat) :
    (if x = 0 then p.goHold else { p with state := .lit, level := x, target := none }).state = .lit
      ∨ (if x = 0 then p.goHold else { p with state := .lit, level := x, target := none }).state = .darkHold := by
  split
  · exact .inr rfl
  · exact .inl rfl

theorem holdRise_state (p : Pump) (x : Nat) (b : Bool) :
    (if b = true then { p with state := .rising, target := some x, rise := none, darkLeft := 0 }
      else { p with state := .dark, rise := none, darkLeft := 0 } : Pump).state = .dark
    ∨ (if b = true then { p with state := .rising, target := some x, rise := none, darkLeft := 0 }
      else { p with state := .dark, rise := none, darkLeft := 0 } : Pump).state = .rising := by
  split
  · exact .inr rfl
  · exact .inl rfl

/-- What a step leaves of a pump whose span is in CONFIRM: the channel's new record, and the completion test (R30). -/
theorem step_taken (hc : (s.st sp).state = .confirm) (q : Pump) :
    let t := completionTest sp ((s.fresh.dropJob (.step ch)).setPump ch q)
    t.pump ch = q ∧ (∀ c, c ≠ ch → t.pump c = s.pump c) ∧ t.st sp.other = s.st sp.other
      ∧ (let complete :=
          (∀ c, (t.pump c).of sp = true → (t.pump c).service ≠ 0 → (t.pump c).state = .lit)
            ∧ ((s.config sp).mode = .frame →
                ∃ w, (s.st sp).far = some w ∧ (w.state = .confirm ∨ w.state = .service) ∧ w.light = true)
            ∧ ((s.config sp).mode = .light → (s.inp sp).light = .present)
        (complete → (t.st sp).state = .service)
          ∧ (¬ complete → t.st sp = s.st sp ∧ t.raised = s.raised ∧ t.pins = s.pins))
      ∧ { t with pumps := s.pumps, owed := s.owed, status := s.status, pins := s.pins, raised := s.raised } = s.fresh := by
  generalize hu : (s.fresh.dropJob (.step ch)).setPump ch q = u
  have own : u.pump ch = q := by rw [← hu]; exact State.setPump_pump_self ..
  have others (c : Chan) (h : c ≠ ch) : u.pump c = s.pump c := by rw [← hu]; exact (State.setPump_pump ..).trans (if_neg h)
  have st (x : Span) : u.st x = s.st x := by rw [← hu]; rfl
  have mode : (u.config sp).mode = (s.config sp).mode := by rw [← hu]; rfl
  have light : (u.inp sp).light = (s.inp sp).light := by rw [← hu]; rfl
  have raised : u.raised = s.raised := by rw [← hu]; rfl
  have pins : u.pins = s.pins := by rw [← hu]; rfl
  have frame := completionTest_frame sp u
  refine ⟨by rw [frame.pump, own], fun c h => by rw [frame.pump, others c h], by rw [completionTest_st_other, st],
    ⟨fun h => ?_, fun h => ?_⟩, ?_⟩
  · simp only [frame.pump, ← mode, ← light, ← st] at h
    rw [completionTest_of_ready (by rw [st, hc]) h, enterService_st]; rfl
  · simp only [frame.pump, ← mode, ← light, ← st] at h
    rw [completionTest_of_not_ready h]
    exact ⟨st sp, raised, pins⟩
  · rw [frame.eq, ← hu]; rfl

/-- A step of a whole tick that leaves its span's completion conditions as they were. -/
theorem exec_tick_step_quiet (hr : s.pins.resetLine = false) (ho : s.owed = []) (ha : ∀ c, (s.pump c).Answers)
    (hq : ∀ b, (s.pump ch).linked.takeStep b = q.linked)
    (still : ∀ t : State, (∀ x, t.st x = s.st x) → (∀ x, t.config x = s.config x) → (∀ x, t.inp x = s.inp x) →
      (∀ c, t.pump c = if c = ch then q.linked else (s.pump c).linked) → testCompletion ch t = t) :
    ∃ t, exec (.tick levels [.step ch]) s = .next t ∧ t.pump ch = q.linked ∧ (∀ c, c ≠ ch → t.pump c = (s.pump c).linked)
      ∧ t.out = (Config.chans.filter fun c => (s.pump c).role ≠ .unused).map
          (fun c => Output.setpoint (setpointRecord c (s.pump c).level))
      ∧ { t with pumps := s.pumps, time := s.time, pins := s.pins, owed := s.owed, out := [] } = s.fresh := by
  obtain ⟨t, run, frame, pumps, out⟩ := exec_tick_step (levels := levels) hr ho ha
  have pump (c : Chan) : (t.stepped ch).pump c = if c = ch then q.linked else (s.pump c).linked := by
    rw [stepped_pump, pumps, pumps, hq]
  have same : testCompletion ch (t.stepped ch) = t.stepped ch := by
    refine still _ (fun x => ?_) (fun x => ?_) (fun x => ?_) pump
    · exact frame.st x
    · exact frame.config x
    · exact frame.inp x
  rw [same] at run
  refine ⟨t.stepped ch, run, by rw [pump, if_pos rfl], fun c hc => by rw [pump, if_neg hc], out, ?_⟩
  rw [State.stepped, frame.eq]
  rfl

/-- The completion conditions see a channel's binding, its service setpoint and its state. -/
theorem completes_of_same {x : Span} (hst : t.st x = s.st x) (hcfg : t.config x = s.config x) (hinp : t.inp x = s.inp x)
    (hp : ∀ c, (t.pump c).of x = (s.pump c).of x ∧ (t.pump c).service = (s.pump c).service ∧ (t.pump c).state = (s.pump c).state)
    (h : completes x s = false) : completes x t = false := by
  rw [Bool.eq_false_iff, ne_eq, completes_iff_ready] at h ⊢
  rintro ⟨hc, lit, frame, light⟩
  rw [hcfg, hst] at frame
  rw [hcfg, hinp] at light
  refine h ⟨by rw [← hst]; exact hc, fun c hof hs => ?_, frame, light⟩
  obtain ⟨e1, e2, e3⟩ := hp c
  rw [← e3]
  exact lit c (by rw [e1]; exact hof) (by rw [e2]; exact hs)

theorem testCompletion_incomplete (h : ∀ sp, completes sp s = false) : testCompletion ch s = s := by
  unfold testCompletion
  split
  next sp _ => rw [completionTest, h sp]; rfl
  next => rfl

/-- Settles O23. -/
theorem channelStepsAtTick : Obligations.ChannelStepsAtTick := by
  refine ⟨fun s ch hr hj hl hc => ⟨fun len hs hp hn => ?_, fun hs hn hrise => ?_, fun x sp hs hn hrise hsp => ?_⟩,
    fun s ch x hr hl hc ht => ⟨fun hj hs hn => ?_, fun hj hs hn => ?_, fun levels ho hu ha hm => ?_⟩,
    fun s ch sp hr hj hl hsp hc => ?_, fun levels s ch hr ho hprompt ha => ?_⟩
  · rw [exec, execPulseEnd, unlessReset_free hr,
      takeWhere_step_still hj hl hc (takeStep_pulseEnd hs hp hn) fun t e => pulseEnds_of hs (by rw [e]; rfl)]
    rfl
  · rw [exec, execMinDarkEnd, unlessReset_free hr,
      takeWhere_step_still hj hl hc (takeStep_holdEnd hs hn hrise) fun t e => holdEnds_of hs (.inl (by rw [e]))]
  · rw [exec, execMinDarkEnd, unlessReset_free hr,
      takeWhere_step_still hj hl hc (takeStep_holdRise hs hn hrise) fun t e => holdEnds_of hs (by rw [e]; exact holdRise_state ..)]
    refine congrArg (fun q => Host.Outcome.next ((s.fresh.dropJob (.step ch)).setPump ch q)) ?_
    exact if_congr (mayRise_service hsp (hc sp hsp)) rfl rfl
  · rw [exec, execRampComplete, unlessReset_free hr,
      takeWhere_step_still hj hl hc (takeStep_riseEnd hs ht hn) fun t e => rampEnds_of (.inl hs) (.inl (by rw [e]))]
  · rw [exec, execRampComplete, unlessReset_free hr,
      takeWhere_step_still hj hl hc (takeStep_fallEnd hs ht hn) fun t e =>
        rampEnds_of (.inr hs) (by rw [e]; exact fallEnd_state ..)]
    rfl
  · have quiet (q : Pump) (hq : ∀ b, (s.pump ch).linked.takeStep b = q.linked) (hlights : q.lights = (s.pump ch).lights) :=
      exec_tick_step_quiet (levels := levels) (q := q) hr ho ha hq fun t st _ _ pump => testCompletion_still fun sp hl' => by
        rw [pump, if_pos rfl] at hl'
        rw [st]
        exact hc sp (hlights ▸ hl')
    obtain ⟨hs, hn⟩ | ⟨hs, hn⟩ := hm
    · obtain ⟨t, run, own, others, out, frame⟩ := quiet { s.pump ch with level := (s.pump ch).level + (s.pump ch).up }
        (fun b => takeStep_rise (p := (s.pump ch).linked) hs ht hn) rfl
      refine ⟨t, run, ?_, by rw [own]; rfl, by rw [own]; exact ht, out, others, frame⟩
      rw [own, if_pos hs]; rfl
    · obtain ⟨t, run, own, others, out, frame⟩ := quiet { s.pump ch with level := (s.pump ch).level - (s.pump ch).down }
        (fun b => takeStep_fall (p := (s.pump ch).linked) hs ht hn) rfl
      refine ⟨t, run, ?_, by rw [own]; rfl, by rw [own]; exact ht, out, others, frame⟩
      rw [own, if_neg (by rw [hs]; decide)]; rfl
  · intro taken
    have rise := mayRise_confirm hsp hc
    refine ⟨fun x hs hn hrise => ?_, fun x hs ht hn => ?_, ⟨fun x hs ht hn => ?_, fun len hs hp hn => ?_⟩, fun hs hn hrise => ?_⟩
    · rw [exec, execMinDarkEnd, unlessReset_free hr,
        takeWhere_step_test hj hl hsp (takeStep_holdRise hs hn hrise) fun t e => holdEnds_of hs (by rw [e]; exact holdRise_state ..),
        rise]
      exact ⟨_, rfl, step_taken hc _⟩
    · rw [exec, execRampComplete, unlessReset_free hr,
        takeWhere_step_test hj hl hsp (takeStep_riseEnd hs ht hn) fun t e => rampEnds_of (.inl hs) (.inl (by rw [e]))]
      exact ⟨_, rfl, step_taken hc _⟩
    · rw [exec, execRampComplete, unlessReset_free hr,
        takeWhere_step_test hj hl hsp (takeStep_fallEnd hs ht hn) fun t e =>
          rampEnds_of (.inr hs) (by rw [e]; exact fallEnd_state ..)]
      exact ⟨_, rfl, step_taken hc _⟩
    · rw [exec, execPulseEnd, unlessReset_free hr,
        takeWhere_step_test hj hl hsp (takeStep_pulseEnd hs hp hn) fun t e => pulseEnds_of hs (by rw [e]; rfl)]
      exact ⟨_, rfl, step_taken hc _⟩
    · rw [exec, execMinDarkEnd, unlessReset_free hr,
        takeWhere_step_test hj hl hsp (takeStep_holdEnd hs hn hrise) fun t e => holdEnds_of hs (.inl (by rw [e]))]
      exact ⟨_, rfl, step_taken hc _⟩
  · intro linked stepped p
    have quiet (q : Pump) (hq : ∀ b, (s.pump ch).linked.takeStep b = q.linked) (hof : ∀ x, q.of x = (s.pump ch).of x)
        (hservice : q.service = (s.pump ch).service) (hstate : q.state = (s.pump ch).state) : stepped q :=
      exec_tick_step_quiet (levels := levels) (q := q) hr ho ha hq fun t st cfg inp pump =>
        testCompletion_incomplete fun x => completes_of_same (st x) (cfg x) (inp x) (fun c => by
          rw [pump]
          split
          next h => subst h; exact ⟨hof x, hservice, hstate⟩
          next => exact ⟨rfl, rfl, rfl⟩) (hprompt.2 x)
    refine ⟨fun len hs hp hn => ?_, fun hs hn => ?_, fun x hs ht hn => ?_, fun x hs ht hn => ?_, fun hs => ?_⟩
    · exact quiet _ (fun b => takeStep_pulse (p := (s.pump ch).linked) hs hp hn) (fun _ => rfl) rfl rfl
    · exact quiet _ (fun b => takeStep_hold (p := (s.pump ch).linked) hs hn) (fun _ => rfl) rfl rfl
    · exact quiet _ (fun b => takeStep_rise (p := (s.pump ch).linked) hs ht hn) (fun _ => rfl) rfl rfl
    · exact quiet _ (fun b => takeStep_fall (p := (s.pump ch).linked) hs ht hn) (fun _ => rfl) rfl rfl
    · exact quiet _ (fun b => takeStep_none (p := (s.pump ch).linked) hs) (fun _ => rfl) rfl rfl

end Sys2Proof.Machine
end

section
/-! SUPPORT. WRITE_SPAN of one field: how it is read, what it writes, and when it is refused. -/

namespace Sys2Proof.Machine

variable {s t u : State} {sp : Span} {r : Req} {c c' : SpanConfig} {code lo hi : Nat} {bytes : List Byte}

/-! ### One item -/

/-- A body of one item with the width of its code is read as that item. -/
theorem readItems_one {width : Nat → List Byte → Option Nat} {b : Byte} (h : width b.toNat bytes = some bytes.length) :
    readItems width (b :: bytes) = some [(b.toNat, bytes)] := by
  have rest (fuel : Nat) : splitItems width fuel [] = some [] := by cases fuel <;> rfl
  have split : splitItems width (bytes.length + 1) (b :: bytes) = some [(b.toNat, bytes)] := by
    simp [splitItems, h, rest]
  simp [readItems, split]

theorem written_one_self {α : Type} (read : Nat → α) (old : α) :
    written [(code, bytes)] code read old = read (beNat bytes) := by
  simp [written, itemVal]

theorem written_one_other {α : Type} {d : Nat} (h : code ≠ d) (read : Nat → α) (old : α) :
    written [(code, bytes)] d read old = old :=
  written_of_not_carries (by simp [carries, h]) read old

theorem inRanges_one {ranges : List (Nat × Nat)} (h : ranges[code - 1]? = some (lo, hi)) :
    inRanges ranges [(code, bytes)] = true ↔ lo ≤ beNat bytes ∧ beNat bytes ≤ hi := by
  simp [inRanges, h]

theorem carries_one {d : Nat} : carries [(code, bytes)] d = decide (code = d) := by
  simp [carries, Bool.beq_eq_decide_eq]

/-! ### The request -/

theorem exec_writeSpan (h : s.pins.resetLine = false) (r : Req) :
    exec (.writeSpan r) s = .next (sendReply Config.kindWriteSpan r (writeSpan r s.fresh)) := by
  rw [exec, execWriteSpan, unlessReset_free h]

/-- A write of one field with every right goes to the span's engine whole. -/
theorem writeSpan_one {b : Byte} (hb : r.body = spanByte sp :: b :: bytes) (hc : s.classUsed r = 0)
    (hw : widthsOf spanWidths b.toNat bytes = some bytes.length) :
    writeSpan r s = ownerWriteSpan sp [(b.toNat, bytes)] [] s := by
  simp [writeSpan, hb, readItems_one hw, if_neg (spanByte_le sp), spanOfCode_spanByte, granted_zero hc, safe_zero hc, divide]

/-- The answer to a write of one field (R3). -/
theorem exec_writeSpan_one {b : Byte} (hr : s.pins.resetLine = false) (hc : s.classUsed r = 0) (hb : r.body = spanByte sp :: b :: bytes)
    (hw : widthsOf spanWidths b.toNat bytes = some bytes.length) :
    exec (.writeSpan r) s =
      .next
        (if spanRangeBad ((s.config sp).write [(b.toNat, bytes)]) [(b.toNat, bytes)] then s.fresh.replied r 2 5 []
        else if spanStateBad (s.config sp) ((s.config sp).write [(b.toNat, bytes)]) (s.st sp) [(b.toNat, bytes)] then
          s.fresh.replied r 2 4 []
        else (applySpan sp ((s.config sp).write [(b.toNat, bytes)]) s.fresh).replied r 2 0 []) := by
  rw [exec_writeSpan hr, writeSpan_one (s := s.fresh) hb hc hw, ownerWriteSpan]
  refine congrArg _ ?_
  generalize hk : (s.fresh.config sp).write [(b.toNat, bytes)] = k
  rw [show (s.config sp).write [(b.toNat, bytes)] = k from hk]
  split
  · exact sendReply_replied ..
  · rw [fresh_config, fresh_st]
    split
    · exact sendReply_replied ..
    · exact sendReply_replied ..

/-- The first step of R3 for one field. -/
theorem spanRangeBad_one (h : spanRanges[code - 1]? = some (lo, hi)) :
    spanRangeBad c' [(code, bytes)] = true ↔
      beNat bytes < lo ∨ hi < beNat bytes ∨ c'.window ≤ c'.duration ∨ c'.limit < c'.ceiling * c'.duration := by
  have value : inRanges spanRanges [(code, bytes)] = false ↔ beNat bytes < lo ∨ hi < beNat bytes := by
    rw [← Bool.not_eq_true, inRanges_one h, not_and_or, not_le, not_le]
  simp only [spanRangeBad, Bool.or_eq_true, Bool.not_eq_true', decide_eq_true_eq, value, or_assoc]

/-! ### The fields that hold a number -/

/-- What a write of a numbered field is to the rest of the record: the entry of its code in the tables, and which checks and effects of
R3 and R4 look at it. -/
structure OneField (c : SpanConfig) (code width lo hi : Nat) (c' : SpanConfig) (bytes : List Byte) : Prop where
  small : code < 256
  width : widthsOf spanWidths code bytes = some width
  range : spanRanges[code - 1]? = some (lo, hi)
  write : c.write [(code, bytes)] = c'
  mode : c'.mode = c.mode
  present : c'.present = c.present
  exposure : (c'.duration ≠ c.duration ∨ c'.ceiling ≠ c.ceiling ∨ c'.window ≠ c.window ∨ c'.limit ≠ c.limit)
    ↔ code ∈ [4, 5, 6, 7] ∧ c' ≠ c
  neighbour : c'.neighbour = c.neighbour ↔ ¬ (code = 2 ∧ c' ≠ c)
  offStage : c'.offStage = c.offStage ↔ ¬ (code = 11 ∧ c' ≠ c)
  silenceStage : c'.silenceStage = c.silenceStage ↔ ¬ (code = 15 ∧ c' ≠ c)
  lockout : code = 8 → c'.lockout = beNat bytes

theorem oneField_of_numbered {width : Nat} (h : (code, width, lo, hi, c') ∈ c.numbered (beNat bytes)) :
    OneField c code width lo hi c' bytes := by
  obtain ⟨present, neighbour, mode, duration, ceiling, window, limit, lockout, tolerance, timeout, offStage, offCount, grace, confirm,
    silenceStage, silenceCount⟩ := c
  simp only [SpanConfig.numbered, List.mem_cons, List.not_mem_nil, or_false, Prod.mk.injEq] at h
  rcases h with ⟨rfl, rfl, rfl, rfl, rfl⟩ | ⟨rfl, rfl, rfl, rfl, rfl⟩ | ⟨rfl, rfl, rfl, rfl, rfl⟩ | ⟨rfl, rfl, rfl, rfl, rfl⟩ |
    ⟨rfl, rfl, rfl, rfl, rfl⟩ | ⟨rfl, rfl, rfl, rfl, rfl⟩ | ⟨rfl, rfl, rfl, rfl, rfl⟩ | ⟨rfl, rfl, rfl, rfl, rfl⟩ |
    ⟨rfl, rfl, rfl, rfl, rfl⟩ | ⟨rfl, rfl, rfl, rfl, rfl⟩ | ⟨rfl, rfl, rfl, rfl, rfl⟩ | ⟨rfl, rfl, rfl, rfl, rfl⟩ |
    ⟨rfl, rfl, rfl, rfl, rfl⟩ | ⟨rfl, rfl, rfl, rfl, rfl⟩ <;>
  constructor <;> simp [widthsOf, spanWidths, spanRanges, SpanConfig.write, written_one_self, written_one_other]

/-- The second step of R3 for a numbered field. -/
theorem spanStateBad_one {width : Nat} (h : OneField c code width lo hi c' bytes) (x : SpanStatus) :
    spanStateBad c c' x [(code, bytes)] = true ↔
      (code ∈ [4, 5, 6, 7] ∧ c' ≠ c ∧ (x.state = .probe ∨ x.state = .confirm))
        ∨ (code = 8 ∧ 0 < beNat bytes ∧ beNat bytes ≤ x.failures ∧ x.state ≠ .locked) := by
  have limit : (code = 8 ∧ c'.lockout ≠ 0 ∧ c'.lockout ≤ x.failures ∧ x.state ≠ .locked)
      ↔ code = 8 ∧ 0 < beNat bytes ∧ beNat bytes ≤ x.failures ∧ x.state ≠ .locked := by
    refine and_congr_right fun e => ?_
    rw [h.lockout e, Nat.pos_iff_ne_zero]
  have exposure : (c'.mode ≠ c.mode ∨ c'.duration ≠ c.duration ∨ c'.ceiling ≠ c.ceiling ∨ c'.window ≠ c.window ∨ c'.limit ≠ c.limit)
      ↔ code ∈ [4, 5, 6, 7] ∧ c' ≠ c := by
    rw [or_iff_right (not_not.mpr h.mode), h.exposure]
  simp only [spanStateBad, carries_one, h.present, Bool.and_not_self, ne_eq, not_true_eq_false, decide_false, Bool.false_and,
    Bool.or_false, Bool.or_eq_true, Bool.and_eq_true, decide_eq_true_eq]
  simp only [← ne_eq, exposure, and_assoc, limit]

end Sys2Proof.Machine
end

section
/-! SUPPORT. WRITE_SPAN of one field: its effect, and the statement. -/

namespace Sys2Proof.Machine

variable {s t u : State} {sp : Span} {r : Req} {c c' : SpanConfig} {code lo hi : Nat} {bytes : List Byte} {v : Byte}

theorem setConfig_self (s : State) (sp : Span) : s.setConfig sp (s.config sp) = s := by
  rw [State.setConfig, State.config, PerSpan.set_get]

/-! ### The fields that hold a number -/

/-- The effect of a stored number (R4, R109, R145). -/
theorem applySpan_one {width : Nat} (h : OneField (s.config sp) code width lo hi c' bytes) :
    applySpan sp c' s =
      if code = 2 ∧ c' ≠ s.config sp then forgetFar sp (s.setConfig sp c')
      else if code = 11 ∧ c' ≠ s.config sp then restartOff sp (s.setConfig sp c')
      else if code = 15 ∧ c' ≠ s.config sp then restartSilence sp (s.setConfig sp c')
      else s.setConfig sp c' := by
  simp only [applySpan_eq, h.mode, h.present, h.neighbour, h.offStage, h.silenceStage, if_true, ite_not]
  by_cases site : code = 2 ∧ c' ≠ s.config sp
  · obtain ⟨rfl, changed⟩ := site
    simp [changed]
  · by_cases off : code = 11 ∧ c' ≠ s.config sp
    · obtain ⟨rfl, changed⟩ := off
      simp [changed]
    · simp only [if_neg site, if_neg off]

/-- WRITE_SPAN of a field that holds a number, by R3 and R4. -/
theorem writeSpan_number {width : Nat} (hr : s.pins.resetLine = false) (hc : s.classUsed r = 0)
    (h : OneField (s.config sp) code width lo hi c' bytes) (hl : bytes.length = width)
    (hb : r.body = spanByte sp :: BitVec.ofNat 8 code :: bytes) :
    exec (.writeSpan r) s =
      .next
        (if beNat bytes < lo ∨ hi < beNat bytes ∨ c'.window ≤ c'.duration ∨ c'.limit < c'.ceiling * c'.duration then
          s.fresh.replied r 2 5 []
        else if (code ∈ [4, 5, 6, 7] ∧ c' ≠ s.config sp ∧ ((s.st sp).state = .probe ∨ (s.st sp).state = .confirm))
            ∨ (code = 8 ∧ 0 < beNat bytes ∧ beNat bytes ≤ (s.st sp).failures ∧ (s.st sp).state ≠ .locked) then s.fresh.replied r 2 4 []
        else (applySpan sp c' s.fresh).replied r 2 0 []) := by
  have hcode : (BitVec.ofNat 8 code).toNat = code := by rw [BitVec.toNat_ofNat, Nat.mod_eq_of_lt h.small]
  rw [exec_writeSpan_one hr hc hb (by rw [hcode, hl, h.width]), hcode, h.write]
  simp only [spanRangeBad_one h.range, spanStateBad_one h]

/-! ### The restart mode and present -/

theorem rangeBad_code (hv : v.toNat ≤ 1) (h : spanRanges[code - 1]? = some (0, 1)) (hw : c'.duration < c'.window)
    (hl : c'.ceiling * c'.duration ≤ c'.limit) : spanRangeBad c' [(code, [v])] = false := by
  have value : beNat [v] = v.toNat := by simp [beNat]
  rw [← Bool.not_eq_true, spanRangeBad_one h, value]
  omega

theorem rangeBad_code_above (hv : 1 < v.toNat) (h : spanRanges[code - 1]? = some (0, 1)) : spanRangeBad c' [(code, [v])] = true := by
  have value : beNat [v] = v.toNat := by simp [beNat]
  exact (spanRangeBad_one h).mpr (.inr (.inl (by rwa [value])))

/-- A span byte or a restart mode above 1 is out of range (R2, R3). -/
theorem writeSpan_code_above (hr : s.pins.resetLine = false) (hc : s.classUsed r = 0) (hv : 1 < v.toNat)
    (hb : r.body = [spanByte sp, 1, v] ∨ r.body = [spanByte sp, 3, v]) : exec (.writeSpan r) s = .next (s.fresh.replied r 2 5 []) := by
  obtain hb | hb := hb
  · rw [exec_writeSpan_one hr hc hb rfl, if_pos (rangeBad_code_above hv rfl)]
  · rw [exec_writeSpan_one hr hc hb rfl, if_pos (rangeBad_code_above hv rfl)]

/-- The restart mode a byte stands for (R2). -/
def modeOf (v : Byte) : RestartMode := if v = 1 then .light else .frame

theorem ofCode_modeOf (hv : v.toNat ≤ 1) : RestartMode.ofCode v.toNat = modeOf v := by
  obtain rfl | rfl : v = 0 ∨ v = 1 := by
    rcases Nat.le_one_iff_eq_zero_or_eq_one.mp hv with h | h
    · exact .inl (BitVec.eq_of_toNat_eq h)
    · exact .inr (BitVec.eq_of_toNat_eq h)
  · rfl
  · rfl

theorem decide_toNat_one (v : Byte) : decide (v.toNat = 1) = decide (v = 1) :=
  decide_eq_decide.mpr ⟨fun h => BitVec.eq_of_toNat_eq h, fun h => by rw [h]; rfl⟩

theorem write_mode (hv : v.toNat ≤ 1) : c.write [(3, [v])] = { c with mode := modeOf v } := by
  have value : beNat [v] = v.toNat := by simp [beNat]
  simp [SpanConfig.write, written_one_self, written_one_other, value, ofCode_modeOf hv]

theorem write_present : c.write [(1, [v])] = { c with present := decide (v = 1) } := by
  have value : beNat [v] = v.toNat := by simp [beNat]
  simp [SpanConfig.write, written_one_self, written_one_other, value, decide_toNat_one]

theorem stateBad_mode {m : RestartMode} {x : SpanStatus} :
    spanStateBad c { c with mode := m } x [(3, [v])] = true ↔ m ≠ c.mode ∧ (x.state = .probe ∨ x.state = .confirm) := by
  simp [spanStateBad, carries_one]

theorem stateBad_present {now : Bool} {x : SpanStatus} :
    spanStateBad c { c with present := now } x [(1, [v])] = true ↔
      now ≠ c.present ∧ (x.state.lit = true ∨ (now = false ∧ x.state = .shut)) := by
  simp only [spanStateBad, carries_one]
  cases now <;> cases c.present <;> simp

/-- The loss events of a changed restart mode (R4, R25, R28). -/
def State.modeEvents (s : State) (sp : Span) (mode : RestartMode) : List Raised :=
  if (s.st sp).state = .service ∧ (s.inp sp).light = .absent ∧ (mode = .frame → (s.line sp).live = false) then
    [⟨.engine sp, if mode = .frame then .spanBreak else .lightLost, .one sp, .monitor (Config.inputChan sp), s.time.tickCount, false⟩]
  else []

theorem modeChanged_eq (sp : Span) (s : State) :
    modeChanged sp s = { s with raised := s.raised ++ s.modeEvents sp (s.config sp).mode } := by
  unfold modeChanged State.modeEvents
  by_cases h : (s.st sp).state = .service ∧ (s.inp sp).light = .absent
  · obtain ⟨service, absent⟩ := h
    rw [if_pos (show _ ∧ s.lightOf sp = .absent from ⟨service, absent⟩)]
    cases hm : (s.config sp).mode
    · rw [breakTest_eq]; simp [hm, service, absent]
    · simp [service, absent]; rfl
  · rw [if_neg (show ¬ (_ ∧ s.lightOf sp = .absent) from h), if_neg fun ⟨h1, h2, _⟩ => h ⟨h1, h2⟩, List.append_nil]

theorem applySpan_mode {m : RestartMode} (h : m ≠ (s.config sp).mode) :
    applySpan sp { s.config sp with mode := m } s =
      { s.setConfig sp { s.config sp with mode := m } with raised := s.raised ++ s.modeEvents sp m } := by
  simp only [applySpan_eq, if_true, if_neg h, modeChanged_eq, State.setConfig_config_self]
  rfl

theorem applySpan_present {now : Bool} (h : now ≠ (s.config sp).present) :
    applySpan sp { s.config sp with present := now } s =
      presentChanged sp now (s.setConfig sp { s.config sp with present := now }) := by
  simp only [applySpan_eq, if_true, if_neg h]

/-- A record that is written as it stood is stored, and nothing changes. -/
theorem applySpan_self (sp : Span) (s : State) : applySpan sp (s.config sp) s = s := by
  simp only [applySpan_eq, if_true, setConfig_self]

/-- A span leaves UNUSED at a write of present to yes in RUN (R4, R132, R137). -/
theorem presentChanged_yes (hr : s.part.run = true) (hu : (s.st sp).state = .unused) :
    presentChanged sp true s =
      { shift sp (((s.st sp).rested (decide ((s.line sp).loop ≠ .normal)) false).reported (s.interlocked sp) s.supplyDown) s with
        raised := s.raised
          ++ ((s.activeLine sp).map fun n => (⟨.interlockUnit, .interlock, .one sp, .line n, s.time.tickCount, false⟩ : Raised)).toList
          ++ if s.supplyDown then [⟨.supplyMonitor, .supplyLow, .one sp, .none_, s.time.tickCount, false⟩] else [] } := by
  have left := leaveUnused_eq sp false s
  rw [raiseActive_eq] at left
  have down : (leaveUnused sp false s).supplyDown = s.supplyDown := by rw [left]; rfl
  rw [presentChanged, if_neg (by simp [hr]), if_pos rfl, if_pos hu]
  dsimp only
  rw [down, left]
  cases s.supplyDown
  · rw [if_neg (by decide), if_neg (by decide), List.append_nil]; rfl
  · rfl

/-- A dark span enters UNUSED at a write of present to no in RUN (R4, R9). -/
theorem presentChanged_no (hr : s.part.run = true) (h : (s.st sp).state = .wait ∨ (s.st sp).state = .locked ∨ (s.st sp).state = .maint) :
    presentChanged sp false s = (shift sp (s.st sp).emptied s).setHeld sp false := by
  have dark : (s.st sp).state.lit ≠ true := by rcases h with e | e | e <;> rw [e] <;> decide
  rw [presentChanged, if_neg (by simp [hr]), if_neg (by decide), if_pos h, enterUnused, if_neg dark, emptySpan_eq]

end Sys2Proof.Machine
end

section
/-! SUPPORT. The statement of WRITE_SPAN. -/

namespace Sys2Proof.Machine

variable {s : State} {r : Req} {sp : Span} {v : Byte}

theorem lit_iff {x : SpanState} : x.lit = true ↔ (x = .probe ∨ x = .confirm) ∨ x = .service := by
  cases x <;> simp [SpanState.lit]

theorem rested_offExpired (x : SpanStatus) (looped : Bool) : (x.rested looped false).offExpired = false := by
  cases looped <;> rfl

theorem rested_entries (x : SpanStatus) (looped expired : Bool) :
    (x.rested looped expired).entryInterlock = x.entryInterlock ∧ (x.rested looped expired).entrySupply = x.entrySupply := by
  cases looped <;> exact ⟨rfl, rfl⟩

/-- A write of the restart mode, by R3 and R4. -/
theorem writeSpan_mode (hr : s.pins.resetLine = false) (hc : s.classUsed r = 0) (hv : v.toNat ≤ 1)
    (hw : (s.config sp).duration < (s.config sp).window) (hl : (s.config sp).ceiling * (s.config sp).duration ≤ (s.config sp).limit)
    (hb : r.body = [spanByte sp, 3, v]) :
    exec (.writeSpan r) s =
      .next
        (if modeOf v = (s.config sp).mode then s.fresh.replied r 2 0 []
        else if (s.st sp).state = .probe ∨ (s.st sp).state = .confirm then s.fresh.replied r 2 4 []
        else State.replied
          { s.fresh.setConfig sp { s.config sp with mode := modeOf v } with raised := s.raised ++ s.modeEvents sp (modeOf v) } r 2 0 []) := by
  rw [exec_writeSpan_one hr hc hb rfl]
  rw [show (3 : Byte).toNat = 3 from rfl, write_mode hv]
  refine congrArg _ ((if_neg (ne_true_of_eq_false (rangeBad_code hv rfl hw hl))).trans ?_)
  by_cases same : modeOf v = (s.config sp).mode
  · have kept : { s.config sp with mode := modeOf v } = s.fresh.config sp := by rw [same]; rfl
    rw [if_neg fun h => (stateBad_mode.mp h).1 same, if_pos same, kept, applySpan_self]
  · rw [if_neg same]
    exact if_congr (stateBad_mode.trans (and_iff_right same)) rfl (replied_congr (applySpan_mode (s := s.fresh) same) ..)

/-- A write of present, by R3 and R4. -/
theorem writeSpan_present (hr : s.pins.resetLine = false) (hc : s.classUsed r = 0) (hv : v.toNat ≤ 1)
    (hw : (s.config sp).duration < (s.config sp).window) (hl : (s.config sp).ceiling * (s.config sp).duration ≤ (s.config sp).limit)
    (hb : r.body = [spanByte sp, 1, v]) :
    exec (.writeSpan r) s =
      .next
        (if decide (v = 1) = (s.config sp).present then s.fresh.replied r 2 0 []
        else if ((s.st sp).state = .probe ∨ (s.st sp).state = .confirm) ∨ (s.st sp).state = .service
            ∨ (decide (v = 1) = false ∧ (s.st sp).state = .shut) then s.fresh.replied r 2 4 []
        else (presentChanged sp (decide (v = 1)) (s.fresh.setConfig sp { s.config sp with present := decide (v = 1) })).replied r 2 0 []) := by
  rw [exec_writeSpan_one hr hc hb rfl]
  rw [show (1 : Byte).toNat = 1 from rfl, write_present]
  refine congrArg _ ((if_neg (ne_true_of_eq_false (rangeBad_code hv rfl hw hl))).trans ?_)
  by_cases same : decide (v = 1) = (s.config sp).present
  · have kept : { s.config sp with present := decide (v = 1) } = s.fresh.config sp := by rw [same]; rfl
    rw [if_neg fun h => (stateBad_present.mp h).1 same, if_pos same, kept, applySpan_self]
  · rw [if_neg same]
    exact if_congr (stateBad_present.trans ((and_iff_right same).trans (by rw [lit_iff, or_assoc]))) rfl
      (replied_congr (applySpan_present (s := s.fresh) same) ..)

/-- A write of present that is no refusal: the change is made (R4). -/
theorem writeSpan_present_changed (hr : s.pins.resetLine = false) (hc : s.classUsed r = 0) (hv : v.toNat ≤ 1)
    (hw : (s.config sp).duration < (s.config sp).window) (hl : (s.config sp).ceiling * (s.config sp).duration ≤ (s.config sp).limit)
    (hb : r.body = [spanByte sp, 1, v]) (changed : decide (v = 1) ≠ (s.config sp).present)
    (dark : ¬ ((s.st sp).state = .probe ∨ (s.st sp).state = .confirm)) (service : (s.st sp).state ≠ .service)
    (shut : decide (v = 1) = true ∨ (s.st sp).state ≠ .shut) :
    exec (.writeSpan r) s =
      .next ((presentChanged sp (decide (v = 1)) (s.fresh.setConfig sp { s.config sp with present := decide (v = 1) })).replied r 2 0 []) := by
  rw [writeSpan_present hr hc hv hw hl hb, if_neg changed, if_neg]
  rintro (h | h | ⟨h, g⟩)
  · exact dark h
  · exact service h
  · exact shut.elim (fun e => nomatch e.symm.trans h) fun e => e g

theorem presentChanged_standby (hr : s.part.run = false) (now : Bool) : presentChanged sp now s = s := if_pos hr

/-- A reply changes nothing outside what a write of present may change. -/
theorem replied_writeFrame {u v : State}
    (h : { u with
      cfg := s.cfg, status := s.status, hold := s.hold, raised := s.raised, pins := s.pins, lines := s.lines
      localPort := s.localPort } = v) (r : Req) (kind code : Byte) (extra : List Byte) :
    { u.replied r kind code extra with
      cfg := s.cfg, status := s.status, hold := s.hold, raised := s.raised, pins := s.pins, lines := s.lines
      localPort := s.localPort } = v := by
  rw [← h, replied_eq]
  cases r.port <;> rfl

/-- A write of present to yes in RUN for a span in UNUSED. -/
theorem writeSpan_present_yes (hr : s.pins.resetLine = false) (hc : s.classUsed r = 0) (hrun : s.part.run = true)
    (hw : (s.config sp).duration < (s.config sp).window) (hl : (s.config sp).ceiling * (s.config sp).duration ≤ (s.config sp).limit)
    (hb : r.body = [spanByte sp, 1, 1]) (hp : (s.config sp).present = false) (hu : (s.st sp).state = .unused) :
    ∃ t, exec (.writeSpan r) s = .next t ∧ (t.config sp).present = true
      ∧ t.st sp = (((s.st sp).rested (decide ((s.line sp).loop ≠ .normal)) false).reported (s.interlocked sp) s.supplyDown)
      ∧ t.raised = s.raised
          ++ ((s.activeLine sp).map fun n => (⟨.interlockUnit, .interlock, .one sp, .line n, s.time.tickCount, false⟩ : Raised)).toList
          ++ (if s.supplyDown then [⟨.supplyMonitor, .supplyLow, .one sp, .none_, s.time.tickCount, false⟩] else [])
      ∧ t.st sp.other = s.st sp.other
      ∧ { t with
          cfg := s.cfg, status := s.status, hold := s.hold, raised := s.raised, pins := s.pins, lines := s.lines
          localPort := s.localPort } = s.fresh := by
  have left := presentChanged_yes (s := s.fresh.setConfig sp { s.config sp with present := true }) (sp := sp) hrun hu
  refine ⟨_, (writeSpan_present_changed hr hc (by decide) hw hl hb (by rw [hp]; decide) (by rw [hu]; decide) (by rw [hu]; decide)
    (.inl rfl)).trans (congrArg _ (replied_congr left ..)), ?_⟩
  refine ⟨?_, ?_, ?_, ?_, ?_⟩
  · rw [replied_eq, State.setBase_config]
    exact congrArg SpanConfig.present (State.setConfig_config_self s.fresh sp { s.config sp with present := true })
  · rw [replied_st]; exact shift_st_self ..
  · rw [replied_raised]; rfl
  · rw [replied_st]; exact shift_st_other ..
  · exact replied_writeFrame rfl ..

/-- A write of present to no in RUN for a dark span that is in use. -/
theorem writeSpan_present_no (hr : s.pins.resetLine = false) (hc : s.classUsed r = 0) (hrun : s.part.run = true)
    (hw : (s.config sp).duration < (s.config sp).window) (hl : (s.config sp).ceiling * (s.config sp).duration ≤ (s.config sp).limit)
    (hb : r.body = [spanByte sp, 1, 0]) (hp : (s.config sp).present = true)
    (hs : (s.st sp).state = .wait ∨ (s.st sp).state = .locked ∨ (s.st sp).state = .maint) :
    ∃ t, exec (.writeSpan r) s = .next t ∧ (t.config sp).present = false ∧ t.st sp = (s.st sp).emptied ∧ t.held sp = false
      ∧ t.st sp.other = s.st sp.other ∧ t.raised = s.raised
      ∧ { t with
          cfg := s.cfg, status := s.status, hold := s.hold, raised := s.raised, pins := s.pins, lines := s.lines
          localPort := s.localPort } = s.fresh := by
  have out (x : SpanState) (h : x ≠ .wait ∧ x ≠ .locked ∧ x ≠ .maint) : (s.st sp).state ≠ x := by
    rintro rfl
    exact hs.elim h.1 fun g => g.elim h.2.1 h.2.2
  have left := presentChanged_no (s := s.fresh.setConfig sp { s.config sp with present := false }) (sp := sp) hrun hs
  refine ⟨_, (writeSpan_present_changed hr hc (by decide) hw hl hb (by rw [hp]; decide)
    (not_or.mpr ⟨out _ (by decide), out _ (by decide)⟩) (out _ (by decide)) (.inr (out _ (by decide)))).trans
    (congrArg _ (replied_congr left ..)), ?_⟩
  refine ⟨?_, ?_, ?_, ?_, ?_, ?_⟩
  · rw [replied_eq, State.setBase_config]
    exact congrArg SpanConfig.present (State.setConfig_config_self s.fresh sp { s.config sp with present := false })
  · rw [replied_st]; exact shift_st_self ..
  · rw [replied_eq, State.setBase_held, State.setHeld_held_self]
  · rw [replied_st]; exact shift_st_other ..
  · rw [replied_raised]; rfl
  · exact replied_writeFrame rfl ..

/-- Settles O38, part by part: a numbered field, the codes, present written in RUN. -/
theorem writeSpanTakesEffect : Obligations.WriteSpanTakesEffect := by
  refine ⟨fun s r sp code width lo hi c' bytes hr hc => ?_, fun s r sp v hr hc => ?_, fun s r sp hr hc hrun hw hl => ?_⟩
  · intro c x v hn hlen hb stored
    have field : OneField (s.config sp) code width lo hi c' bytes := oneField_of_numbered hn
    rw [writeSpan_number hr hc field hlen hb, applySpan_one (s := s.fresh) field]
    rfl
  · refine ⟨fun hv hb => writeSpan_code_above hr hc hv hb, fun hv hw hl => ⟨fun hb => ?_, fun hb => ⟨?_, ?_, ?_⟩⟩⟩
    · rw [writeSpan_mode hr hc hv hw hl hb]
      cases sp <;> rfl
    · exact fun same => (writeSpan_present hr hc hv hw hl hb).trans (congrArg _ (if_pos same))
    · exact fun changed barred => (writeSpan_present hr hc hv hw hl hb).trans
        (congrArg _ ((if_neg changed).trans (if_pos barred)))
    · intro changed barred service shut standby
      have run := writeSpan_present_changed hr hc hv hw hl hb changed barred service shut
      rw [presentChanged_standby (s := s.fresh.setConfig sp _) standby] at run
      exact run
  · refine ⟨fun hb hp hu => ?_, fun hb hp hs => ?_⟩
    · obtain ⟨t, ht, present, status, raised, other, frame⟩ := writeSpan_present_yes hr hc hrun hw hl hb hp hu
      refine ⟨t, ht, present, ?_, ?_, ?_, ?_, ?_, fun e => ?_, other, frame⟩
      · rw [status]
        refine (rested_state ..).trans ?_
        by_cases h : (s.line sp).loop = .normal <;> simp [h]
      · rw [status]; exact rested_offExpired ..
      · rw [status]; exact congrArg (· || _) (rested_entries ..).1
      · rw [status]; exact congrArg (· || _) (rested_entries ..).2
      · have line : s.activeLine sp = ([0, 1, 2, 3, 4, 5, 6, 7] : List Chan).find? fun n => (s.ilLine n).guards sp := rfl
        rw [raised, line]
        cases ([0, 1, 2, 3, 4, 5, 6, 7] : List Chan).find? fun n => (s.ilLine n).guards sp <;> simp [State.supplyDown]
      · rw [status, mem_reported_iff, rested_causes]; simp [State.supplyDown]
    · obtain ⟨t, ht, present, status, held, other, raised, frame⟩ := writeSpan_present_no hr hc hrun hw hl hb hp hs
      refine ⟨t, ht, present, ?_, ?_, ?_, held, other, raised, frame⟩
      · rw [status]; rfl
      · rw [status]; rfl
      · rw [status]; rfl

end Sys2Proof.Machine
end

section
/-! SUPPORT. Eye safety of one pump channel under the states of the two spans, through every command and step it takes. -/

namespace Sys2Proof.Machine

variable {b : Prop} {x : Span → SpanState} {p : Pump} {sp : Span}

/-- A channel that carries no light has level 0 (R82). -/
def Pump.DarkZero (p : Pump) : Prop := p.state.isDark = true → p.level = 0

/-- A channel is eye safe under the spans' states: dark it has level 0 (R82), lit it lights a span whose state lets it (R91), and, where
`bounded` is asked for, a LAUNCH pump of a span in PROBE is no brighter than its probe setpoint (R91). -/
structure Pump.Safe (bounded : Prop) (x : Span → SpanState) (p : Pump) : Prop where
  dark : p.DarkZero
  lit : p.state.isDark = false → ∃ sp, p.lights = some sp ∧ lightAllowed p.role p.state (x sp) = true
  bound : bounded → p.role = .launch → x p.span = .probe → p.level ≤ p.probe

theorem Pump.DarkZero.of_lit {z : PumpState} (h : p.state = z) (hz : z.isDark = false) : p.DarkZero := fun hd => by
  rw [h, hz] at hd; cases hd

theorem Pump.DarkZero.of_zero (h : p.level = 0) : p.DarkZero := fun _ => h

theorem Pump.DarkZero.zero {z : PumpState} (h : p.DarkZero) (hs : p.state = z) (hz : z.isDark = true) : p.level = 0 := h (by rw [hs, hz])

/-- The span a pump lights is in CONFIRM or SERVICE. -/
def Pump.Opened (x : Span → SpanState) (p : Pump) : Prop := ∃ sp, p.lights = some sp ∧ (x sp).isOpen = true

theorem lightAllowed_open {r : Role} (h : r ≠ .unused) (z : PumpState) {w : SpanState} (ho : w.isOpen = true) :
    lightAllowed r z w = true := by
  cases r <;> simp_all [lightAllowed]

theorem lightAllowed_lit {r : Role} {z : PumpState} {w : SpanState} (h : lightAllowed r z w = true) : w.lit = true := by
  cases r <;> cases w <;> simp_all [lightAllowed, SpanState.isOpen, SpanState.lit]

/-- Light in a span not yet in CONFIRM is a LAUNCH pump's pulse. -/
theorem lightAllowed_cases {r : Role} {z : PumpState} {w : SpanState} (h : lightAllowed r z w = true) :
    w.isOpen = true ∨ (r = .launch ∧ w = .probe ∧ z = .pulsing) := by
  cases r <;> simp_all [lightAllowed]

theorem lights_launch (h : p.role = .launch) : p.lights = some p.span := by simp only [Pump.lights, h]

theorem ne_unused_of_lights (h : p.lights = some sp) : p.role ≠ .unused := by
  intro g; simp [Pump.lights, g] at h

theorem Pump.Safe.of_dark (hd : p.state.isDark = true) (hl : p.level = 0) : p.Safe b x :=
  ⟨fun _ => hl, fun h => absurd (hd.symm.trans h) (by decide), fun _ _ _ => hl ▸ Nat.zero_le _⟩

theorem Pump.Safe.of_open (ho : p.Opened x) (hd : p.DarkZero) : p.Safe b x := by
  obtain ⟨sp, hl, ho⟩ := ho
  refine ⟨hd, fun _ => ⟨sp, hl, lightAllowed_open (ne_unused_of_lights hl) _ ho⟩, fun _ hr hx => ?_⟩
  obtain rfl : p.span = sp := Option.some.inj ((lights_launch hr).symm.trans hl)
  rw [hx] at ho; cases ho

/-- Light other than a LAUNCH pump's pulse is in a span in CONFIRM or SERVICE. -/
theorem Pump.Safe.opened (h : p.Safe b x) (hd : p.state.isDark = false) (hp : p.state = .pulsing → p.role ≠ .launch) :
    p.Opened x := by
  obtain ⟨sp, hl, ha⟩ := h.lit hd
  obtain ho | ⟨hr, -, hs⟩ := lightAllowed_cases ha
  · exact ⟨sp, hl, ho⟩
  · exact absurd hr (hp hs)

/-- A pump is dark while the span it lights is neither in PROBE nor in CONFIRM or SERVICE. -/
theorem Pump.Safe.dark_of_not_lit (h : p.Safe b x) (hl : p.lights = some sp) (hx : (x sp).lit = false) : p.state.isDark = true := by
  by_contra hd
  obtain ⟨sp', hl', ha⟩ := h.lit (by simpa using hd)
  obtain rfl : sp = sp' := Option.some.inj (hl.symm.trans hl')
  rw [lightAllowed_lit ha] at hx; cases hx

/-! ### Commands -/

theorem goHold_safe (p : Pump) : p.goHold.Safe b x := .of_dark rfl rfl

theorem goFaulted_safe (p : Pump) : p.goFaulted.Safe b x := .of_dark rfl rfl

theorem takeSnuff_darkZero (h : p.DarkZero) : p.takeSnuff.DarkZero := by
  obtain ⟨-, e⟩ | ⟨-, -, e⟩ := takeSnuff_cases p <;> rw [e]
  · exact h
  · exact .of_zero rfl

theorem takeSnuff_safe (h : p.DarkZero) : p.takeSnuff.Safe b x :=
  .of_dark (takeSnuff_isDark p) (takeSnuff_darkZero h (takeSnuff_isDark p))

theorem retarget_darkZero (p : Pump) (n : Nat) : (p.retarget n).DarkZero := by
  obtain ⟨-, e⟩ | ⟨-, e⟩ | ⟨-, -, e⟩ | ⟨-, -, e⟩ := retarget_cases p n <;> rw [e]
  case inr.inr.inl => exact .of_zero rfl
  all_goals exact .of_lit rfl rfl

theorem takeRise_darkZero (h : p.DarkZero) (n : Nat) : (p.takeRise n).DarkZero := by
  unfold Pump.takeRise
  dsimp only
  split
  case h_1 =>
    split
    · exact .of_lit rfl rfl
    · exact h
  case h_6 | h_7 => exact h
  all_goals exact retarget_darkZero _ _

/-- RISE to a pump whose span is in CONFIRM or SERVICE. -/
theorem takeRise_safe (h : p.Safe b x) (ho : p.Opened x) (n : Nat) : (p.takeRise n).Safe b x := by
  refine .of_open ?_ (takeRise_darkZero h.dark n)
  rwa [Pump.Opened, (takeRise_keeps p n).lights_eq]

/-- PULSE to a LAUNCH pump in DARK of a span in PROBE, at most at the probe setpoint where that is asked for. -/
theorem takePulse_safe (h : p.Safe b x) (hr : p.role = .launch) (hx : x p.span = .probe) {level : Nat} (hl : b → level ≤ p.probe)
    (n : Nat) : (p.takePulse level n).Safe b x := by
  unfold Pump.takePulse
  split
  next hs =>
    refine ⟨.of_lit rfl rfl, fun _ => ⟨p.span, lights_launch hr, ?_⟩, fun hb _ _ => (min_le_left ..).trans (hl hb)⟩
    rw [hr, hx]; rfl
  next => exact h

theorem takeDouse_darkZero (h : p.DarkZero) : p.takeDouse.DarkZero := by
  unfold Pump.takeDouse
  split
  case h_3 | h_4 | h_5 =>
    split
    · exact .of_zero rfl
    · exact .of_lit rfl rfl
  case h_6 => exact .of_lit rfl rfl
  all_goals exact h

/-- DOUSE to any pump but a LAUNCH pump in PULSING. -/
theorem takeDouse_safe (h : p.Safe b x) (hp : p.state = .pulsing → p.role ≠ .launch) : p.takeDouse.Safe b x := by
  cases hd : p.state.isDark
  · refine .of_open ?_ (takeDouse_darkZero h.dark)
    rw [Pump.Opened, (takeDouse_keeps p).lights_eq]
    exact h.opened hd hp
  · refine .of_dark ?_ (Nat.le_zero.mp ((takeDouse_level_le p).trans (h.dark hd).le))
    cases hs : p.state <;> simp_all [Pump.takeDouse, PumpState.isDark]

/-! ### Steps -/

theorem takeStep_darkZero (h : p.DarkZero) (o : Bool) : (p.takeStep o).DarkZero := by
  unfold Pump.takeStep
  dsimp only
  split
  next hs =>
    split
    · exact .of_lit rfl rfl
    · exact .of_lit hs rfl
  next hs =>
    split
    · split
      · exact .of_zero rfl
      · exact .of_lit rfl rfl
    · exact .of_lit hs rfl
  next hs =>
    split
    · exact .of_zero rfl
    · exact .of_lit hs rfl
  next hs =>
    have zero := h.zero hs rfl
    split
    · split
      · exact .of_zero zero
      · split <;> exact .of_zero zero
    · exact .of_zero zero
  all_goals exact h

/-- A dark channel stays dark in a step while no pending rise may begin. -/
theorem takeStep_isDark (hd : p.state.isDark = true) : (p.takeStep false).state.isDark = true := by
  unfold Pump.takeStep
  dsimp only
  split
  case h_4 =>
    split
    · split <;> rfl
    · exact hd
  case h_1 hs | h_2 hs | h_3 hs => rw [hs] at hd; cases hd
  all_goals exact hd

/-- A step of a tick, in which a pending rise begins only where the pump's span is in CONFIRM or SERVICE (R90). -/
theorem takeStep_safe {o : Bool} (h : p.Safe b x) (ho : o = true → p.Opened x) : (p.takeStep o).Safe b x := by
  have opened (g : p.Opened x) : (p.takeStep o).Safe b x := by
    refine .of_open ?_ (takeStep_darkZero h.dark o)
    rwa [Pump.Opened, takeStep_lights]
  cases hd : p.state.isDark
  · by_cases hs : p.state = .pulsing
    · unfold Pump.takeStep
      split
      case h_3 =>
        split
        · exact goHold_safe p
        · exact ⟨h.dark, h.lit, h.bound⟩
      all_goals simp_all
    · exact opened (h.opened hd fun g => absurd g hs)
  · cases o
    · exact .of_dark (takeStep_isDark hd) (takeStep_darkZero h.dark false (takeStep_isDark hd))
    · exact opened (ho rfl)

/-! ### A written entry -/

/-- A clamp of the work leaves no level above the ceiling, keeps the probe setpoint, and lights no channel. -/
theorem clampWork_spec (p : Pump) :
    p.clampWork.probe = p.probe ∧ p.clampWork.level ≤ min p.level p.ceiling
      ∧ (p.state.isDark = true ∨ p.state = .pulsing → p.clampWork.state = p.state)
      ∧ (p.DarkZero → p.clampWork.DarkZero) := by
  unfold Pump.clampWork
  dsimp only
  split
  case h_1 hs | h_2 hs | h_3 hs =>
    have no {q : Prop} (h : p.state.isDark = true ∨ p.state = .pulsing) : q := by simp [hs, PumpState.isDark] at h
    split
    · exact ⟨rfl, Nat.zero_le _, no, fun _ => .of_zero rfl⟩
    · split
      · exact ⟨rfl, le_rfl, no, fun _ => .of_lit rfl rfl⟩
      · exact ⟨rfl, le_rfl, no, fun _ => .of_lit hs rfl⟩
  all_goals exact ⟨rfl, le_rfl, fun _ => rfl, fun h hd => by simp [h hd]⟩

end Sys2Proof.Machine
end

section
/-! SUPPORT. Eye safety of the part through the work on pump channels. -/

namespace Sys2Proof.Machine

variable {b : Prop} {s t : State} {p q : Pump} {sp : Span} {ch : Chan}

/-- The states of the two spans. -/
def State.states (s : State) (sp : Span) : SpanState := (s.st sp).state

/-- Both spans are in UNUSED in STANDBY (R183), and every channel is eye safe under the spans' states. -/
structure State.LightSafe (bounded : Prop) (s : State) : Prop where
  standby : s.StandbyUnused
  pump : ∀ ch, (s.pump ch).Safe bounded s.states

/-- Only the channels, the spans' states and the part state bear on eye safety. -/
theorem State.LightSafe.congr (h : s.LightSafe b) (hp : t.pumps = s.pumps) (hs : t.status = s.status) (hr : t.part.run = s.part.run) :
    t.LightSafe b := by
  have pump (ch : Chan) : t.pump ch = s.pump ch := by simp only [State.pump, hp]
  have states : t.states = s.states := by funext sp; simp only [State.states, State.st, hs]
  refine ⟨fun g sp => ?_, fun ch => by rw [pump, states]; exact h.pump ch⟩
  have := h.standby (hr ▸ g) sp
  rwa [← show t.st sp = s.st sp by simp only [State.st, hs]] at this

/-- A span out of UNUSED shows that the part runs. -/
theorem State.LightSafe.run (h : s.LightSafe b) (hu : (s.st sp).state ≠ .unused) : s.part.run = true := by
  by_contra g
  exact hu (h.standby (by simpa using g) sp)

/-- In STANDBY no channel carries light. -/
theorem State.LightSafe.standby_dark (h : s.LightSafe b) (hr : s.part.run = false) (ch : Chan) : (s.pump ch).state.isDark = true := by
  by_contra hd
  obtain ⟨sp, -, ha⟩ := (h.pump ch).lit (by simpa using hd)
  have := lightAllowed_lit ha
  rw [show s.states sp = .unused from h.standby hr sp] at this
  cases this

theorem State.LightSafe.eyeSafe (h : s.LightSafe b) : s.EyeSafe := by
  refine ⟨⟨fun hr => ⟨h.standby hr .ws, h.standby hr .es, h.standby_dark hr⟩, fun ch hu => ?_⟩, fun ch => (h.pump ch).lit⟩
  by_contra hd
  obtain ⟨sp, -, ha⟩ := (h.pump ch).lit (by simpa using hd)
  rw [hu] at ha; cases ha

theorem State.LightSafe.probeBounded (h : s.LightSafe True) : s.ProbeBounded := fun ch => (h.pump ch).bound trivial

theorem lightSafe_of_eyeSafe (he : s.EyeSafe) (hp : s.PumpsSound) (hb : b → s.ProbeBounded) : s.LightSafe b := by
  obtain ⟨⟨standby, -⟩, light⟩ := he
  refine ⟨fun hr sp => ?_, fun ch => ⟨?_, light ch, fun g => hb g ch⟩⟩
  · obtain ⟨hw, hes, -⟩ := standby hr
    cases sp
    · exact hw
    · exact hes
  · obtain ⟨-, fits, -⟩ := hp ch
    exact fits

/-! ### One channel's new record -/

theorem setPump_safe (h : s.LightSafe b) (hq : q.Safe b s.states) : (s.setPump ch q).LightSafe b := by
  refine ⟨h.standby, fun c => ?_⟩
  rw [State.setPump_pump]
  split
  · exact hq
  · exact h.pump c

theorem putPump_safe (h : s.LightSafe b) (hq : q.Safe b s.states) : (s.putPump ch q).LightSafe b := by
  obtain e | e := putPump_spec s ch q <;> rw [e]
  · exact setPump_safe h hq
  · exact (setPump_safe h hq).congr rfl rfl rfl

theorem sendRecord_safe (ch : Chan) (h : s.LightSafe b) : (sendRecord ch s).LightSafe b := by
  rw [sendRecord_spec]; exact h.congr rfl rfl rfl

theorem raise_safe (h : s.LightSafe b) (src : Block) (e : Event) (span : EvSpan) (subject : Subject) :
    (s.raise src e span subject).LightSafe b := h.congr rfl rfl rfl

/-- Work on every channel that is safe for each. -/
theorem forChans_safe {f : Chan → State → State} (hf : ∀ ch (s : State), s.LightSafe b → (f ch s).LightSafe b) (h : s.LightSafe b) :
    (forChans f s).LightSafe b := forChans_induct hf h

theorem mayRise_opened (h : s.mayRise p = true) : p.Opened s.states := by
  unfold State.mayRise at h
  split at h
  next sp hl =>
    rw [State.spanOpen, Bool.and_eq_true] at h
    exact ⟨sp, hl, h.2⟩
  next => cases h

/-! ### The Pump Link -/

theorem faultChannel_safe (e : Event) (ch : Chan) (h : s.LightSafe b) : (faultChannel e ch s).LightSafe b :=
  raise_safe (sendRecord_safe ch (putPump_safe h (goFaulted_safe _))) ..

/-- What the Pump Link remembers of a channel bears on nothing. -/
theorem setPump_link_safe (h : s.LightSafe b) (ch : Chan) (sent answered : Bool) (noReply : Nat) :
    (s.setPump ch { s.pump ch with sent := sent, answered := answered, noReply := noReply }).LightSafe b :=
  setPump_safe h ⟨(h.pump ch).dark, (h.pump ch).lit, (h.pump ch).bound⟩

theorem checkTick_safe (ch : Chan) (h : s.LightSafe b) : (checkTick ch s).LightSafe b := by
  obtain ⟨-, e⟩ | ⟨-, e⟩ := checkTick_cases ch s <;> rw [e]
  · exact faultChannel_safe _ ch (setPump_link_safe h ..)
  · exact setPump_link_safe h ..

theorem dropJob_safe (h : s.LightSafe b) (j : TickJob) : (s.dropJob j).LightSafe b := h.congr rfl rfl rfl

theorem takeCheck_safe (ch : Chan) (s : State) (h : s.LightSafe b) : (takeCheck ch s).LightSafe b := by
  obtain ⟨-, e⟩ | ⟨-, e⟩ := takeCheck_cases ch s <;> rw [e]
  · exact checkTick_safe ch (dropJob_safe h _)
  · exact h

theorem linkTick_safe (ch : Chan) (h : s.LightSafe b) : (linkTick ch s).LightSafe b := by
  have checked := forChans_safe takeCheck_safe h
  rw [linkTick_spec]
  generalize forChans takeCheck s = u at checked
  have marked := setPump_link_safe checked ch (decide ((u.pump ch).role ≠ .unused)) (u.pump ch).answered (u.pump ch).noReply
  exact marked.congr rfl rfl rfl

theorem takeLink_safe (ch : Chan) (s : State) (h : s.LightSafe b) : (takeLink ch s).LightSafe b := by
  obtain ⟨-, e⟩ | ⟨-, e⟩ := takeLink_cases ch s <;> rw [e]
  · exact linkTick_safe ch (dropJob_safe h _)
  · exact h

/-- What the Pump Link's tick keeps: the spans' records, and each channel's role, span and probe setpoint. -/
def LinkKeeps (s t : State) : Prop :=
  t.status = s.status ∧ ∀ c, (t.pump c).role = (s.pump c).role ∧ (t.pump c).span = (s.pump c).span ∧ (t.pump c).probe = (s.pump c).probe

theorem LinkKeeps.refl (s : State) : LinkKeeps s s := ⟨rfl, fun _ => ⟨rfl, rfl, rfl⟩⟩

theorem LinkKeeps.trans {u : State} (h : LinkKeeps s t) (g : LinkKeeps t u) : LinkKeeps s u :=
  ⟨g.1.trans h.1, fun c => ⟨(g.2 c).1.trans (h.2 c).1, (g.2 c).2.1.trans (h.2 c).2.1, (g.2 c).2.2.trans (h.2 c).2.2⟩⟩

/-- One channel's new record with the role, span and probe setpoint as before. -/
theorem LinkKeeps.of_pump (hs : t.status = s.status) (hp : ∀ c, t.pump c = if c = ch then q else s.pump c)
    (hq : q.role = (s.pump ch).role ∧ q.span = (s.pump ch).span ∧ q.probe = (s.pump ch).probe) : LinkKeeps s t := by
  refine ⟨hs, fun c => ?_⟩
  rw [hp]
  split
  next h => subst h; exact hq
  next => exact ⟨rfl, rfl, rfl⟩

theorem setPump_linkKeeps (hq : q.role = (s.pump ch).role ∧ q.span = (s.pump ch).span ∧ q.probe = (s.pump ch).probe) :
    LinkKeeps s (s.setPump ch q) := .of_pump rfl (fun c => State.setPump_pump s ch c q) hq

theorem putPump_linkKeeps (hq : q.role = (s.pump ch).role ∧ q.span = (s.pump ch).span ∧ q.probe = (s.pump ch).probe) :
    LinkKeeps s (s.putPump ch q) := by
  have frame : PumpFrame s (s.putPump ch q) := putPump_frame s ch q
  exact .of_pump (by rw [frame.eq]) (fun c => putPump_pump s ch c q) hq

/-- Outputs and events bear on none of it. -/
theorem LinkKeeps.report {u : State} (h : LinkKeeps s t) (hs : u.status = t.status) (hp : u.pumps = t.pumps) : LinkKeeps s u := by
  have pump (c : Chan) : u.pump c = t.pump c := by simp only [State.pump, hp]
  exact ⟨hs.trans h.1, fun c => by rw [pump]; exact h.2 c⟩

theorem faultChannel_linkKeeps (e : Event) (ch : Chan) (s : State) : LinkKeeps s (faultChannel e ch s) := by
  have put : LinkKeeps s (s.putPump ch (s.pump ch).goFaulted) := putPump_linkKeeps ⟨rfl, rfl, rfl⟩
  unfold faultChannel
  dsimp only
  rw [sendRecord_spec]
  exact put.report rfl rfl

theorem checkTick_linkKeeps (ch : Chan) (s : State) : LinkKeeps s (checkTick ch s) := by
  obtain ⟨-, e⟩ | ⟨-, e⟩ := checkTick_cases ch s <;> rw [e]
  · have counted := setPump_linkKeeps (s := s) (ch := ch) (q := { s.pump ch with
      noReply := if (s.pump ch).sent && !(s.pump ch).answered then satSucc 3 (s.pump ch).noReply else (s.pump ch).noReply
      answered := false }) ⟨rfl, rfl, rfl⟩
    exact counted.trans (faultChannel_linkKeeps ..)
  · exact setPump_linkKeeps ⟨rfl, rfl, rfl⟩

theorem takeCheck_linkKeeps (ch : Chan) (s : State) : LinkKeeps s (takeCheck ch s) := by
  obtain ⟨-, e⟩ | ⟨-, e⟩ := takeCheck_cases ch s <;> rw [e]
  · exact checkTick_linkKeeps ch (s.dropJob (.check ch))
  · exact .refl s

theorem takeLink_linkKeeps (ch : Chan) (s : State) : LinkKeeps s (takeLink ch s) := by
  obtain ⟨-, e⟩ | ⟨-, e⟩ := takeLink_cases ch s <;> rw [e]
  · have checked : LinkKeeps (s.dropJob (.link ch)) (forChans takeCheck (s.dropJob (.link ch))) :=
      forChans_inv LinkKeeps.refl LinkKeeps.trans takeCheck_linkKeeps _
    rw [linkTick_spec]
    generalize forChans takeCheck (s.dropJob (.link ch)) = u at checked
    have marked : LinkKeeps u (u.setPump ch { u.pump ch with sent := decide ((u.pump ch).role ≠ .unused) }) :=
      setPump_linkKeeps ⟨rfl, rfl, rfl⟩
    exact (LinkKeeps.trans checked marked).report rfl rfl
  · exact .refl s

/-! ### Commands to the channels -/

theorem snuffChannel_safe (ch : Chan) (s : State) (h : s.LightSafe b) : (snuffChannel ch s).LightSafe b := by
  obtain ⟨o, -, e⟩ := snuffChannel_spec ch s
  rw [e]
  exact State.LightSafe.congr (setPump_safe h (takeSnuff_safe (h.pump ch).dark)) rfl rfl rfl

theorem riseChannel_safe (ch : Chan) (x : Nat) (h : s.LightSafe b) : (riseChannel ch x s).LightSafe b := by
  obtain ⟨hr, e⟩ | ⟨-, e⟩ := riseChannel_cases ch x s <;> rw [e]
  · exact putPump_safe h (takeRise_safe (h.pump ch) (mayRise_opened hr) x)
  · exact h

/-- PULSE, at most at the probe setpoint where LAUNCH pumps are bounded in PROBE (R85, R91). -/
theorem pulseChannel_safe {level : Nat} (hl : b → level ≤ (s.pump ch).probe) (n : Nat) (h : s.LightSafe b) :
    (pulseChannel ch level n s).LightSafe b := by
  unfold pulseChannel
  dsimp only
  split
  next g =>
    obtain ⟨hrole, -, hprobe, -⟩ := g
    obtain ⟨status, entry⟩ := takeLink_linkKeeps ch s
    obtain ⟨role, span, probe⟩ := entry ch
    have linked := takeLink_safe ch s h
    refine putPump_safe linked (takePulse_safe (linked.pump ch) (role.trans hrole) ?_ (fun g => probe ▸ hl g) n)
    rw [span, State.states, State.st, status]
    exact hprobe
  next => exact h

/-- DOUSE to any channel but a LAUNCH pump in PULSING. -/
theorem douseChannel_safe (ch : Chan) (h : s.LightSafe b) (hp : (s.pump ch).state = .pulsing → (s.pump ch).role ≠ .launch) :
    (douseChannel ch s).LightSafe b := putPump_safe h (takeDouse_safe (h.pump ch) hp)

theorem snuffAll_safe (h : s.LightSafe b) : (snuffAll s).LightSafe b := forChans_safe snuffChannel_safe h

theorem snuffSpan_safe (sp : Span) (h : s.LightSafe b) : (snuffSpan sp s).LightSafe b := by
  refine forChans_safe (fun ch s h => ?_) h
  split
  · exact snuffChannel_safe ch s h
  · exact h

theorem snuffPulsing_safe (sp : Span) (h : s.LightSafe b) : (snuffPulsing sp s).LightSafe b := by
  refine forChans_safe (fun ch s h => ?_) h
  split
  · exact snuffChannel_safe ch s h
  · exact h

theorem pulseSpan_safe (sp : Span) (h : s.LightSafe b) : (pulseSpan sp s).LightSafe b := by
  refine forChans_safe (fun ch s h => ?_) h
  split
  · exact pulseChannel_safe (fun _ => le_rfl) _ h
  · exact h

theorem riseSpan_safe (sp : Span) (h : s.LightSafe b) : (riseSpan sp s).LightSafe b := by
  refine forChans_safe (fun ch s h => ?_) h
  dsimp only
  split
  · exact riseChannel_safe ch _ h
  · exact h

theorem riseStage_safe (d : Dir) (h : s.LightSafe b) : (riseStage d s).LightSafe b := by
  refine forChans_safe (fun ch s h => ?_) h
  split
  · exact riseChannel_safe ch _ h
  · exact h

theorem douseStage_safe (d : Dir) (h : s.LightSafe b) : (douseStage d s).LightSafe b := by
  refine forChans_safe (fun ch s h => ?_) h
  split
  next g => exact douseChannel_safe ch h fun _ => by rw [g.1]; decide
  next => exact h

/-! ### Spans that are dark -/

/-- Every pump that lights a span is dark. -/
def State.SpanDark (s : State) (sp : Span) : Prop := ∀ ch, (s.pump ch).lights = some sp → (s.pump ch).state.isDark = true

theorem State.LightSafe.spanDark (h : s.LightSafe b) (hl : (s.st sp).state.lit = false) : s.SpanDark sp :=
  fun ch g => (h.pump ch).dark_of_not_lit g hl

theorem snuffAll_spanDark (sp : Span) (s : State) : (snuffAll s).SpanDark sp := fun ch _ => by
  rw [snuffAll_pump]; exact takeSnuff_isDark _

theorem snuffSpan_spanDark (sp : Span) (s : State) : (snuffSpan sp s).SpanDark sp := fun ch h => by
  rw [snuffSpan_pump] at h ⊢
  split at h
  next g => rw [if_pos g]; exact takeSnuff_isDark _
  next g => exact absurd h g

theorem snuffLit_safe (sp : Span) (h : s.LightSafe b) : (snuffLit sp s).LightSafe b := by
  unfold snuffLit
  split
  · exact snuffSpan_safe sp h
  · exact h

theorem snuffLit_spanDark (h : s.LightSafe b) : (snuffLit sp s).SpanDark sp := by
  unfold snuffLit
  split
  · exact snuffSpan_spanDark sp s
  next g => exact h.spanDark (by simpa using g)

/-- SNUFF to the pulsing LAUNCH pumps of a span, channel by channel (R51). -/
theorem snuffPulsing_pump (sp : Span) (s : State) (c : Chan) :
    (snuffPulsing sp s).pump c
      = if (s.pump c).launches sp = true ∧ (s.pump c).state = .pulsing then (s.pump c).takeSnuff else s.pump c := by
  refine forChans_pump (g := fun _ p => if p.launches sp = true ∧ p.state = .pulsing then p.takeSnuff else p) s (fun ch t _ => ?_)
    (fun ch t _ c => ?_) c
  · split
    · exact snuffChannel_frame ch t
    · exact rfl
  · split
    · exact snuffChannel_pump ch c t
    · split
      next h => subst h; rfl
      next => rfl

/-- All light of a span in PROBE is the pulses of its LAUNCH pumps (R51, R91). -/
theorem snuffPulsing_spanDark (h : s.LightSafe b) (hs : (s.st sp).state = .probe) : (snuffPulsing sp s).SpanDark sp := by
  intro ch hl
  rw [snuffPulsing_pump] at hl ⊢
  split
  · exact takeSnuff_isDark _
  next g =>
    rw [if_neg g] at hl
    by_contra hd
    obtain ⟨sp', hl', ha⟩ := (h.pump ch).lit (by simpa using hd)
    obtain rfl : sp = sp' := Option.some.inj (hl.symm.trans hl')
    obtain ho | ⟨hr, -, hp⟩ := lightAllowed_cases ha
    · rw [State.states, hs] at ho; cases ho
    · refine g ⟨?_, hp⟩
      have : (s.pump ch).span = sp := Option.some.inj ((lights_launch hr).symm.trans hl)
      simp [Pump.launches, hr, this]

end Sys2Proof.Machine
end

section
/-! SUPPORT. Eye safety of the part through the Span Engines, the Monitor Unit, the Event Unit and the guards. -/

namespace Sys2Proof.Machine

variable {b : Prop} {s t : State} {p : Pump} {sp : Span} {y : SpanStatus} {x z : Span → SpanState}

/-! ### Changes of a span's state -/

/-- A pump sees the state of the span it lights alone. -/
theorem Pump.Safe.congr (h : p.Safe b x) (hx : ∀ sp, p.lights = some sp → z sp = x sp) : p.Safe b z := by
  refine ⟨h.dark, fun hd => ?_, fun hb hr hs => h.bound hb hr (hx _ (lights_launch hr) ▸ hs)⟩
  obtain ⟨sp, hl, ha⟩ := h.lit hd
  exact ⟨sp, hl, by rwa [hx sp hl]⟩

theorem shift_states_self (sp : Span) (y : SpanStatus) (s : State) : (shift sp y s).states sp = y.state := by
  rw [State.states, shift_st_self]

theorem shift_states_ne {sp' : Span} (h : sp' ≠ sp) (y : SpanStatus) (s : State) : (shift sp y s).states sp' = s.states sp' := by
  rw [State.states, shift_st, if_neg h, State.states]

theorem shift_standbyUnused (h : s.StandbyUnused) (hr : y.state = .unused ∨ s.part.run = true) : (shift sp y s).StandbyUnused := by
  intro g sp'
  rw [shift_st]
  split
  · exact hr.resolve_right (by rw [show s.part.run = false from g]; decide)
  · exact h g sp'

/-- A new state of a span that suits the pumps that light it. -/
theorem shift_safe (h : s.LightSafe b) (hr : y.state = .unused ∨ s.part.run = true)
    (hp : ∀ ch, (s.pump ch).lights = some sp → (s.pump ch).Safe b (shift sp y s).states) : (shift sp y s).LightSafe b := by
  refine ⟨shift_standbyUnused h.standby hr, fun ch => ?_⟩
  by_cases hl : (s.pump ch).lights = some sp
  · exact hp ch hl
  · exact (h.pump ch).congr fun sp' hl' => shift_states_ne (by rintro rfl; exact hl hl') y s

/-- A span whose pumps are dark takes any state. -/
theorem shift_dark_safe (h : s.LightSafe b) (hd : s.SpanDark sp) (hr : y.state = .unused ∨ s.part.run = true) :
    (shift sp y s).LightSafe b :=
  shift_safe h hr fun ch hl => .of_dark (hd ch hl) ((h.pump ch).dark (hd ch hl))

/-- A lit span enters CONFIRM or SERVICE with its pumps as they are. -/
theorem shift_open_safe (h : s.LightSafe b) (hl : (s.st sp).state.lit = true) (ho : y.state.isOpen = true) :
    (shift sp y s).LightSafe b := by
  refine shift_safe h (.inr (h.run (sp := sp) ?_)) fun ch hp => .of_open ⟨sp, hp, ?_⟩ (h.pump ch).dark
  · intro g; rw [g] at hl; cases hl
  · rwa [shift_states_self]

/-- A record without a change of state. -/
theorem setSt_safe (h : s.LightSafe b) (hy : y.state = (s.st sp).state) : (s.setSt sp y).LightSafe b := by
  have state (sp' : Span) : ((s.setSt sp y).st sp').state = (s.st sp').state := by
    rw [State.setSt_st]
    split
    next g => rw [g, hy]
    next => rfl
  have states : (s.setSt sp y).states = s.states := funext state
  exact ⟨fun g sp' => (state sp').trans (h.standby g sp'), fun ch => by rw [states]; exact h.pump ch⟩

theorem engineRaise_safe (h : s.LightSafe b) (sp : Span) (e : Event) (subject : Subject) :
    (engineRaise sp e subject s).LightSafe b := raise_safe h ..

theorem endStanding_safe (h : s.LightSafe b) (sp : Span) (e : Event) : (endStanding sp e s).LightSafe b := by
  rw [endStanding_eq]; exact setSt_safe h rfl

/-- A span whose pumps are dark enters WAIT. -/
theorem enterWait_safe (h : s.LightSafe b) (hd : s.SpanDark sp) (hr : s.part.run = true) (expired : Bool) :
    (enterWait sp expired s).LightSafe b := by
  rw [enterWait_eq]; exact shift_dark_safe h hd (.inr hr)

theorem enterMaint_safe (h : s.LightSafe b) (hd : s.SpanDark sp) (hr : s.part.run = true) : (enterMaint sp s).LightSafe b := by
  rw [enterMaint_eq]; exact shift_dark_safe h hd (.inr hr)

theorem enterLocked_safe (h : s.LightSafe b) (hd : s.SpanDark sp) (hr : s.part.run = true) : (enterLocked sp s).LightSafe b := by
  rw [enterLocked_eq]; exact engineRaise_safe (shift_dark_safe h hd (.inr hr)) ..

theorem breakTest_safe (h : s.LightSafe b) (sp : Span) : (breakTest sp s).LightSafe b := by
  obtain e | e := breakTest_cases sp s <;> rw [e]
  · exact h
  · exact raise_safe h ..

theorem enterService_safe (h : s.LightSafe b) (hs : (s.st sp).state = .confirm) : (enterService sp s).LightSafe b := by
  rw [enterService_eq]
  exact breakTest_safe (engineRaise_safe (shift_open_safe h (by rw [hs]; rfl) rfl) ..) sp

theorem completionTest_safe (h : s.LightSafe b) (sp : Span) : (completionTest sp s).LightSafe b := by
  obtain ⟨hc, e⟩ | ⟨-, e⟩ := completionTest_cases sp s <;> rw [e]
  · exact enterService_safe h (completes_state hc)
  · exact h

theorem testCompletion_safe (h : s.LightSafe b) (ch : Chan) : (testCompletion ch s).LightSafe b := by
  unfold testCompletion
  split
  · exact completionTest_safe h _
  · exact h

theorem enterConfirm_safe (h : s.LightSafe b) (hs : (s.st sp).state = .probe) : (enterConfirm sp s).LightSafe b := by
  rw [enterConfirm_eq]
  exact completionTest_safe (breakTest_safe (riseSpan_safe sp (shift_open_safe h (by rw [hs]; rfl) rfl)) sp) sp

theorem snuffSpan_run (sp : Span) (s : State) : (snuffSpan sp s).part.run = s.part.run := by
  rw [(show PumpFrame s (snuffSpan sp s) from snuffSpan_frame sp s).part]

theorem snuffLit_run (sp : Span) (s : State) : (snuffLit sp s).part.run = s.part.run := by rw [(snuffLit_frame sp s).part]

theorem emptySpan_safe (h : s.LightSafe b) (hd : s.SpanDark sp) : (emptySpan sp s).LightSafe b := by
  rw [emptySpan_eq]
  exact (shift_dark_safe (y := (s.st sp).emptied) h hd (.inl rfl)).congr rfl rfl rfl

theorem enterUnused_safe (h : s.LightSafe b) (sp : Span) : (enterUnused sp s).LightSafe b :=
  emptySpan_safe (snuffLit_safe sp h) (snuffLit_spanDark h)

theorem raiseActive_safe (h : s.LightSafe b) (sp : Span) (line : Option Chan) : (raiseActive sp line s).LightSafe b := by
  cases line
  · exact h
  · exact raise_safe h ..

theorem leaveUnused_safe (h : s.LightSafe b) (hd : s.SpanDark sp) (hr : s.part.run = true) (expired : Bool) :
    (leaveUnused sp expired s).LightSafe b := by
  rw [leaveUnused_eq]; exact raiseActive_safe (shift_dark_safe h hd (.inr hr)) ..

/-! ### Actions and events -/

/-- An action: nothing, the cause alone, a trip with the span's pumps snuffed, or entry to LOCKED with a lit span's pumps snuffed. -/
theorem actOn_safe (h : s.LightSafe b) (sp : Span) (act : Action) (e : Event) : (actOn sp act e s).LightSafe b := by
  by_cases g : (s.st sp).state = .unused ∨ act = .note
  · rwa [actOn, if_pos g]
  obtain ⟨hu, ha⟩ := not_or.mp g
  have run := h.run hu
  rw [actOn_eq hu ha]
  dsimp only
  split_ifs
  · exact shift_dark_safe (snuffSpan_safe sp h) (snuffSpan_spanDark sp s) (.inr ((snuffSpan_run sp s).trans run))
  · exact setSt_safe h rfl
  · exact setSt_safe h rfl
  · refine engineRaise_safe (shift_dark_safe (snuffLit_safe sp h) (snuffLit_spanDark h) (.inr ?_)) ..
    rw [snuffLit_run, run]

theorem handAction_cons (act : Action) (e : Event) (sp : Span) (sps : List Span) (s : State) :
    (handAction act e (sp :: sps) s).1 = (handAction act e sps (actOn sp act e s)).1 := rfl

theorem handAction_safe (act : Action) (e : Event) (sps : List Span) (h : s.LightSafe b) : (handAction act e sps s).1.LightSafe b := by
  induction sps generalizing s with
  | nil => exact h
  | cons sp sps ih =>
    rw [handAction_cons]
    exact ih (actOn_safe h sp act e)

theorem noticeFrame_safe (h : s.LightSafe b) (hf : NoticeFrame s t) : t.LightSafe b := by
  rw [hf.eq]; exact h.congr rfl rfl rfl

theorem departNotices_safe (h : s.LightSafe b) : (departNotices s).LightSafe b := noticeFrame_safe h (departNotices_frame s)

theorem offerAll_safe (h : s.LightSafe b) (ns : List Notice) : (offerAll ns s).LightSafe b := noticeFrame_safe h (offerAll_frame ns s)

theorem takeEvent_safe (h : s.LightSafe b) (ev : Raised) : (takeEvent ev s).LightSafe b := by
  unfold takeEvent
  dsimp only
  split
  · split
    · exact offerAll_safe h _
    · exact h
  · have snuffed : (if actingAction s ev = .snuffAll then snuffAll s else s).LightSafe b := by
      split
      · exact snuffAll_safe h
      · exact h
    have acted : (pairLockouts s.raised.length (handAction (actingAction s ev) ev.event (actionSpans (actingAction s ev) ev)
        (if actingAction s ev = .snuffAll then snuffAll s else s)).1).LightSafe b := by
      rw [pairLockouts_spec]
      exact State.LightSafe.congr (handAction_safe _ _ _ snuffed) rfl rfl rfl
    split
    · exact offerAll_safe acted _
    · exact acted

theorem takeOldest_safe (h : s.LightSafe b) (src : Block) : (takeOldest src s).LightSafe b := by
  unfold takeOldest
  split
  next ev left _ =>
    have kept : ({ s with raised := left } : State).LightSafe b := h.congr rfl rfl rfl
    exact takeEvent_safe kept ev
  next => exact h

/-! ### Light -/

theorem stageFollow_safe (h : s.LightSafe b) (d : Dir) (old new : Light) : (stageFollow d old new s).LightSafe b := by
  unfold stageFollow
  split_ifs
  · exact h
  · exact riseStage_safe d h
  · exact douseStage_safe d h
  · exact h

theorem engineLight_safe (h : s.LightSafe b) (sp : Span) (old new : Light) : (engineLight sp old new s).LightSafe b := by
  unfold engineLight
  dsimp only
  obtain ⟨r, e⟩ := lightTests_spec sp old new s
  rw [e]
  have told : ({ s with raised := r } : State).LightSafe b := h.congr rfl rfl rfl
  generalize ({ s with raised := r } : State) = u at told
  split
  · split
    · exact setSt_safe told rfl
    · exact told
  next hs =>
    split
    · exact enterConfirm_safe told hs
    · exact told
  · exact completionTest_safe told sp
  all_goals exact told

theorem lightChanged_safe (h : s.LightSafe b) (sp : Span) (old new : Light) : (lightChanged sp old new s).LightSafe b := by
  unfold lightChanged
  split
  · exact h
  · exact stageFollow_safe (engineLight_safe h sp old new) ..

theorem advanceLight_safe (h : s.LightSafe b) (sp : Span) (below restored : Bool) : (advanceLight sp below restored s).LightSafe b :=
  lightChanged_safe (s := s.setInp sp _) (h.congr rfl rfl rfl) ..

theorem reflectionSample_safe (h : s.LightSafe b) (sp : Span) (power : Nat) : (reflectionSample sp power s).LightSafe b := by
  have ends (n : Nat) : (if 0 < n ∧ (s.reflection sp).nRef ≤ n then
      (s.setReflection sp { s.reflection sp with run := 0 }).raise .monitorUnit .reflect (.one sp)
        (.monitor (Config.reflChan sp))
      else s.setReflection sp { s.reflection sp with run := n }).LightSafe b := by
    split <;> exact h.congr rfl rfl rfl
  exact ends _

theorem takeSample_safe (h : s.LightSafe b) (ch : Chan) (code : Nat) : (takeSample ch code s).LightSafe b := by
  have taken (k : MonChan) : (s.setChan ch k).LightSafe b := h.congr rfl rfl rfl
  unfold takeSample
  dsimp only
  split
  · exact advanceLight_safe (taken _) ..
  · exact taken _
  · exact reflectionSample_safe (taken _) ..

theorem goStale_safe (h : s.LightSafe b) (ch : Chan) : (goStale ch s).LightSafe b := by
  unfold goStale
  dsimp only
  split <;> exact h.congr rfl rfl rfl

theorem zeroSample_safe (h : s.LightSafe b) (ch : Chan) : (zeroSample ch s).LightSafe b := by
  unfold zeroSample
  split
  · exact advanceLight_safe h ..
  · exact h
  · exact h

theorem monitorTick_safe (h : s.LightSafe b) (ch : Chan) : (monitorTick ch s).LightSafe b := by
  have counted (k : MonChan) : (s.setChan ch k).LightSafe b := h.congr rfl rfl rfl
  have zero {u : State} (h : u.LightSafe b) : (if (u.chan ch).stale then zeroSample ch u else u).LightSafe b := by
    split
    · exact zeroSample_safe h ch
    · exact h
  unfold monitorTick
  refine zero ?_
  split
  · exact goStale_safe (counted _) ch
  · exact counted _

/-! ### The slot of a tick -/

theorem darkTest_safe (h : s.LightSafe b) (hs : (s.st sp).state = .shut) (slot : Nat) : (darkTest sp slot s).LightSafe b := by
  unfold darkTest
  dsimp only
  split_ifs
  · exact enterWait_safe h (h.spanDark (by rw [hs]; rfl)) (h.run (sp := sp) (by rw [hs]; decide)) false
  · exact engineRaise_safe (setSt_safe (y := { s.st sp with ticks := _, darkFailRaised := true }) h rfl) ..
  · exact setSt_safe h rfl

/-- A probe starts from WAIT, where the span's pumps are dark (R42). -/
theorem startProbe_safe (h : s.LightSafe b) (hs : (s.st sp).state = .wait) : (startProbe sp s).LightSafe b := by
  rw [startProbe_eq]
  exact pulseSpan_safe sp (shift_dark_safe h (h.spanDark (by rw [hs]; rfl)) (.inr (h.run (sp := sp) (by rw [hs]; decide))))

/-- A probe that ends without proof leaves its span dark, with the pulses snuffed (R51). -/
theorem expireProbe_safe (h : s.LightSafe b) (hs : (s.st sp).state = .probe) : (expireProbe sp s).LightSafe b := by
  have run : (snuffPulsing sp s).part.run = true := by
    rw [(show PumpFrame s (snuffPulsing sp s) from snuffPulsing_frame sp s).part]
    exact h.run (sp := sp) (by rw [hs]; decide)
  have snuffed := snuffPulsing_safe sp h
  have dark := snuffPulsing_spanDark h hs
  unfold expireProbe
  dsimp only
  generalize snuffPulsing sp s = v at run snuffed dark ⊢
  have failed := engineRaise_safe snuffed sp .probeFailed .none_
  have counted := setSt_safe (sp := sp)
    (y := { v.st sp with failures := satSucc 15 (v.st sp).failures }) failed rfl
  split
  · exact enterLocked_safe counted dark run
  · exact enterWait_safe counted dark run false

theorem overshootTest_safe (h : s.LightSafe b) (sp : Span) (slot : Nat) : (overshootTest sp slot s).LightSafe b := by
  unfold overshootTest
  dsimp only
  split
  · exact engineRaise_safe (setSt_safe (y := { s.st sp with overshootRaised := true }) h rfl) ..
  · exact h

theorem exposureTest_safe (h : s.LightSafe b) (sp : Span) : (exposureTest sp s).LightSafe b := by
  unfold exposureTest
  dsimp only
  split
  · exact engineRaise_safe (setSt_safe (y := { s.st sp with exposureRaised := true }) h rfl) ..
  · exact h

theorem probeTick_safe (h : s.LightSafe b) (hs : (s.st sp).state = .probe) (slot : Nat) : (probeTick sp slot s).LightSafe b := by
  unfold probeTick
  dsimp only
  have counted := setSt_safe (sp := sp) (y := { s.st sp with ticks := satSucc 65535 (s.st sp).ticks }) h rfl
  have tested := exposureTest_safe (overshootTest_safe counted sp slot) sp
  have state : ((exposureTest sp (overshootTest sp slot
      (s.setSt sp { s.st sp with ticks := satSucc 65535 (s.st sp).ticks }))).st sp).state = .probe := by
    rw [exposureTest_state, overshootTest_state, State.setSt_st_self, hs]
  split
  · exact enterConfirm_safe tested state
  · split
    · split
      · exact expireProbe_safe tested state
      · exact tested
    · exact tested

theorem confirmTick_safe (h : s.LightSafe b) (sp : Span) : (confirmTick sp s).LightSafe b := by
  unfold confirmTick
  dsimp only
  split
  · exact engineRaise_safe (setSt_safe (y := { s.st sp with ticks := _, confirmRaised := true }) h rfl) ..
  · exact setSt_safe h rfl

theorem engineTick_safe (h : s.LightSafe b) (sp : Span) (slot : Nat) : (engineTick sp slot s).LightSafe b := by
  unfold engineTick
  split
  next hs => exact darkTest_safe h hs slot
  next hs =>
    split
    · exact startProbe_safe h hs
    · exact h
  next hs => exact probeTick_safe h hs slot
  next => exact confirmTick_safe h sp
  all_goals exact h

theorem slotTick_safe (h : s.LightSafe b) (sp : Span) : (slotTick sp s).LightSafe b := by
  have recorded (r : List Nat) : (s.setSlots sp r).LightSafe b := h.congr rfl rfl rfl
  unfold slotTick
  dsimp only
  split
  · exact setSt_safe (recorded _) rfl
  · exact engineTick_safe (recorded _) ..

theorem offTick_safe (h : s.LightSafe b) (sp : Span) : (offTick sp s).LightSafe b := by
  unfold offTick
  dsimp only
  split
  · exact setSt_safe h rfl
  · exact h

/-! ### Lines, supply and ports -/

theorem interlockEffect_safe (h : s.LightSafe b) (n : Chan) (old : IlLine) (stood : Bool) (sp : Span) :
    (interlockEffect n old stood sp s).LightSafe b := by
  obtain ⟨e, -⟩ | ⟨e, -, -⟩ | ⟨e, -⟩ := interlockEffect_cases n old stood sp s <;> rw [e]
  · exact raise_safe h ..
  · exact endStanding_safe h ..
  · exact h

theorem putLine_safe (h : s.LightSafe b) (n : Chan) (l : IlLine) : (putLine n l s).LightSafe b :=
  interlockEffect_safe (interlockEffect_safe (s := s.setIlLine n l) (h.congr rfl rfl rfl) ..) ..

theorem settleTick_safe (h : s.LightSafe b) : (settleTick s).LightSafe b := by
  have moved (x : Supply) : ({ s with supply := x } : State).LightSafe b := h.congr rfl rfl rfl
  unfold settleTick
  dsimp only
  split
  · split
    · exact endStanding_safe (endStanding_safe (moved _) ..) ..
    · exact moved _
  · exact h

theorem supplyFall_safe (h : s.LightSafe b) : (supplyFall s).LightSafe b := by
  unfold supplyFall
  split
  · exact h
  · exact raise_safe (snuffAll_safe (s := { s with supply := ⟨.low, 0⟩ }) (h.congr rfl rfl rfl)) ..

theorem supplyRise_safe (h : s.LightSafe b) : (supplyRise s).LightSafe b := by
  unfold supplyRise
  split
  · exact h.congr rfl rfl rfl
  · exact h

theorem silenceTick_safe (h : s.LightSafe b) (sp : Span) : (silenceTick sp s).LightSafe b := by
  unfold silenceTick
  dsimp only
  split
  · split
    · exact breakTest_safe (raise_safe (s := s.setLine sp _) (h.congr rfl rfl rfl) ..) sp
    · exact h.congr rfl rfl rfl
  · exact h

end Sys2Proof.Machine
end

section
/-! SUPPORT. Eye safety of the part through the requests and Part Control. -/

namespace Sys2Proof.Machine

variable {b : Prop} {s t u : State} {p q p' : Pump} {sp : Span} {ch : Chan}

/-! ### WRITE_SPAN -/

/-- A step that is taken only where something changed. -/
theorem State.LightSafe.unless {c : Prop} [Decidable c] {f : State → State} (h : s.LightSafe b)
    (hf : ∀ {u : State}, u.LightSafe b → (f u).LightSafe b) : (if c then s else f s).LightSafe b := by
  split
  · exact h
  · exact hf h

theorem forgetFar_safe (sp : Span) (h : s.LightSafe b) : (forgetFar sp s).LightSafe b :=
  (setSt_safe (sp := sp) (y := { s.st sp with far := none }) h rfl).congr rfl rfl rfl

theorem restartOff_safe (sp : Span) (h : s.LightSafe b) : (restartOff sp s).LightSafe b := setSt_safe h rfl

theorem restartSilence_safe (sp : Span) (h : s.LightSafe b) : (restartSilence sp s).LightSafe b := h.congr rfl rfl rfl

theorem presentChanged_safe (sp : Span) (now : Bool) (h : s.LightSafe b) : (presentChanged sp now s).LightSafe b := by
  unfold presentChanged
  split
  · exact h
  next hr =>
    split
    · split
      next hu =>
        have left : (leaveUnused sp false s).LightSafe b := leaveUnused_safe h (h.spanDark (by rw [hu]; rfl)) (by simpa using hr) false
        dsimp only
        generalize leaveUnused sp false s = v at left ⊢
        split
        · exact raise_safe left ..
        · exact left
      next => exact h
    · split
      · exact enterUnused_safe h sp
      · exact h

theorem modeChanged_safe (sp : Span) (h : s.LightSafe b) : (modeChanged sp s).LightSafe b := by
  unfold modeChanged
  split
  · split
    · exact breakTest_safe h sp
    · exact engineRaise_safe h ..
  · exact h

theorem applySpan_safe (sp : Span) (k : SpanConfig) (h : s.LightSafe b) : (applySpan sp k s).LightSafe b := by
  have stored : (s.setConfig sp k).LightSafe b := h.congr rfl rfl rfl
  have far := stored.unless (c := k.neighbour = (s.config sp).neighbour) (forgetFar_safe sp)
  have off := far.unless (c := k.offStage = (s.config sp).offStage) (restartOff_safe sp)
  have silence := off.unless (c := k.silenceStage = (s.config sp).silenceStage) (restartSilence_safe sp)
  have present := silence.unless (c := k.present = (s.config sp).present) (presentChanged_safe sp k.present)
  rw [applySpan_eq]
  exact present.unless (modeChanged_safe sp)

theorem writeSpan_safe (r : Req) (h : s.LightSafe b) : (writeSpan r s).s.LightSafe b := by
  have owner (sp : Span) (items : List Item) (withheld : List Nat) : (ownerWriteSpan sp items withheld s).s.LightSafe b := by
    unfold ownerWriteSpan
    dsimp only
    split
    · exact h
    · split
      · exact h
      · rw [applied_s]; exact applySpan_safe sp _ h
  unfold writeSpan
  split
  · exact h
  · split
    · exact h
    · split
      · exact h
      · dsimp only
        split
        · exact h
        · split
          · exact h
          · exact owner ..

/-! ### WRITE_PUMP and the other requests for a pump -/

/-- A channel that is bound anew is dark at level 0 (R78). -/
theorem dark_of_rebinds (h : s.LightSafe b) (hr : rebinds (s.pump ch) p' = true) (hb : pumpStateBad (s.pump ch) p' s = false) :
    (s.pump ch).state.isDark = true := by
  cases hrun : s.part.run
  · exact h.standby_dark hrun ch
  · simp only [pumpStateBad, hr, hrun, Bool.true_and, Bool.or_eq_false_iff, Bool.not_eq_false', Bool.or_eq_true, decide_eq_true_eq] at hb
    obtain ⟨⟨⟨⟨-, hs | hs⟩, -⟩, -⟩, -⟩ := hb <;> rw [hs] <;> rfl

/-- A pulsing channel's probe setpoint is not written (R78). -/
theorem probe_of_pumpStateBad (hb : pumpStateBad p p' s = false) (hs : p.state = .pulsing) : p'.probe = p.probe := by
  simp only [pumpStateBad, Bool.or_eq_false_iff, Bool.and_eq_false_iff, decide_eq_false_iff_not, not_not] at hb
  exact hb.2.resolve_right fun g => g hs

/-- A written entry with its clamps: dark it stays dark, and lit it lights the same span (R78, R79). -/
theorem writtenPump_safe (h : s.LightSafe b) (hs : p'.state = (s.pump ch).state) (hl : p'.level = (s.pump ch).level)
    (hb : pumpStateBad (s.pump ch) p' s = false) : p'.clampSetpoints.clampWork.Safe b s.states := by
  obtain ⟨probe, level, state, zero⟩ := clampWork_spec p'.clampSetpoints
  have bindings := clampWork_bindings p'.clampSetpoints
  replace state : (s.pump ch).state.isDark = true ∨ (s.pump ch).state = .pulsing →
      p'.clampSetpoints.clampWork.state = (s.pump ch).state := fun g => (state (by rwa [← hs] at g)).trans hs
  replace level : p'.clampSetpoints.clampWork.level ≤ min (s.pump ch).level p'.ceiling := hl ▸ level
  replace probe : p'.clampSetpoints.clampWork.probe = min p'.probe p'.ceiling := probe
  replace zero : p'.DarkZero → p'.clampSetpoints.clampWork.DarkZero := zero
  generalize p'.clampSetpoints.clampWork = q at *
  have safe := h.pump ch
  cases hd : (s.pump ch).state.isDark
  · have same : rebinds (s.pump ch) p' = false := by
      by_contra g
      rw [dark_of_rebinds h (by simpa using g) hb] at hd
      cases hd
    have lights : q.lights = (s.pump ch).lights := (lights_of_bindings (p := p') bindings).trans (lights_of_not_rebinds same)
    have bound : p'.role = (s.pump ch).role ∧ p'.span = (s.pump ch).span ∧ p'.dir = (s.pump ch).dir := by
      simpa [rebinds, not_or] using same
    have role : q.role = (s.pump ch).role := bindings.1.trans bound.1
    have span : q.span = (s.pump ch).span := bindings.2.1.trans bound.2.1
    by_cases hp : (s.pump ch).state = .pulsing
    · refine ⟨.of_lit ((state (.inr hp)).trans hp) rfl, fun _ => ?_, fun g hr hx => ?_⟩
      · rw [lights, role, state (.inr hp)]; exact safe.lit hd
      · have old := safe.bound g (role ▸ hr) (span ▸ hx)
        rw [probe, probe_of_pumpStateBad hb hp]
        exact level.trans (min_le_min_right _ old)
    · refine .of_open ?_ (zero fun g => ?_)
      · rw [Pump.Opened, lights]; exact safe.opened hd fun g => absurd g hp
      · rw [hs, hd] at g; cases g
  · have none : (s.pump ch).level = 0 := safe.dark hd
    refine .of_dark ((state (.inl hd)).symm ▸ hd) (Nat.le_zero.mp ?_)
    exact level.trans ((min_le_left ..).trans none.le)

theorem setpointActs_safe (ch : Chan) (h : s.LightSafe b) : (setpointActs ch s).LightSafe b := by
  cases hl : (s.pump ch).lights with
  | none => rw [setpointActs_none hl]; exact h
  | some sp =>
    rw [setpointActs_some hl]
    refine completionTest_safe ?_ sp
    split
    · exact riseChannel_safe ch _ h
    · exact h

theorem applyPump_safe (h : s.LightSafe b) (hs : p'.state = (s.pump ch).state) (hl : p'.level = (s.pump ch).level)
    (hb : pumpStateBad (s.pump ch) p' s = false) : (applyPump ch p' s).LightSafe b := by
  have safe := writtenPump_safe h hs hl hb
  unfold applyPump
  dsimp only
  generalize p'.clampSetpoints.clampWork = q at safe ⊢
  have bound : (if rebinds (s.pump ch) p' = true then { q with rise := none, noReply := 0 } else q).Safe b s.states := by
    split
    · exact ⟨safe.dark, safe.lit, safe.bound⟩
    · exact safe
  generalize (if rebinds (s.pump ch) p' = true then { q with rise := none, noReply := 0 } else q) = q1 at bound ⊢
  have sent : (if q1.level < (s.pump ch).level then sendRecord ch (s.putPump ch q1) else s.putPump ch q1).LightSafe b := by
    split
    · exact sendRecord_safe ch (putPump_safe h bound)
    · exact putPump_safe h bound
  split
  · exact testCompletion_safe sent ch
  · exact setpointActs_safe ch sent

theorem writePump_safe (r : Req) (h : s.LightSafe b) : (writePump r s).s.LightSafe b := by
  have owner (ch : Chan) (items : List Item) (withheld : List Nat) : (ownerWritePump ch items withheld s).s.LightSafe b := by
    unfold ownerWritePump
    dsimp only
    split
    · exact h
    · split
      · exact h
      next hb => rw [applied_s]; exact applyPump_safe h rfl rfl (by simpa using hb)
  unfold writePump
  split
  · exact h
  · split
    · exact h
    · split
      · exact h
      · dsimp only
        split
        · exact h
        · split
          · exact h
          · exact owner ..

theorem ownerSetSetpoint_safe (ch : Chan) (v : Nat) (h : s.LightSafe b) : (ownerSetSetpoint ch v s).s.LightSafe b := by
  have stored : (s.setPump ch { s.pump ch with service := min v (s.pump ch).ceiling }).LightSafe b :=
    setPump_safe h ⟨(h.pump ch).dark, (h.pump ch).lit, (h.pump ch).bound⟩
  have acts := setpointActs_safe ch stored
  unfold ownerSetSetpoint
  dsimp only
  split
  · exact h
  · split <;> exact acts

theorem setSetpoint_safe (r : Req) (h : s.LightSafe b) : (setSetpoint r s).s.LightSafe b := by
  unfold setSetpoint
  split
  · split
    · exact h
    · dsimp only
      split
      · exact h
      · exact ownerSetSetpoint_safe _ _ h
  · exact h

theorem clearPump_safe (r : Req) (h : s.LightSafe b) : (clearPump r s).s.LightSafe b := by
  have owner (ch : Chan) : (ownerClearPump ch s).s.LightSafe b := by
    unfold ownerClearPump
    dsimp only
    split
    · exact h
    · exact putPump_safe h (.of_dark rfl rfl)
  unfold clearPump
  split
  · split
    · exact h
    · dsimp only
      split
      · exact h
      · exact owner _
  · exact h

theorem takeStatus_safe (ch : Chan) (fault : Bool) (h : s.LightSafe b) : (takeStatus ch fault s).LightSafe b := by
  have answered := setPump_link_safe h ch (s.pump ch).sent true 0
  unfold takeStatus
  dsimp only
  split
  · exact h
  · split
    · exact faultChannel_safe _ ch answered
    · exact answered

/-! ### WRITE_MONITOR, WRITE_EVENT, WRITE_INTERLOCK, CLEAR_INTERLOCK -/

theorem writeMonitor_safe (r : Req) (h : s.LightSafe b) : (writeMonitor r s).s.LightSafe b := by
  have owner (ch : Chan) (items : List Item) : (ownerWriteMonitor ch items s).s.LightSafe b := by
    unfold ownerWriteMonitor
    split
    · exact h
    · dsimp only
      split <;> exact h.congr rfl rfl rfl
  unfold writeMonitor
  split
  · exact h
  · split
    · exact h
    · split
      · exact h
      · split
        · exact h
        · exact owner ..

theorem writeEvent_safe (r : Req) (h : s.LightSafe b) : (writeEvent r s).s.LightSafe b := by
  have owner (items : List Item) : (ownerWriteEvent items s).s.LightSafe b := by
    unfold ownerWriteEvent
    split
    · exact h
    · dsimp only
      rw [applied_s]
      split <;> exact h.congr rfl rfl rfl
  unfold writeEvent
  split
  · exact h
  · split
    · exact h
    · split
      · exact h
      · split
        · exact h
        · exact owner _

theorem writeInterlock_safe (r : Req) (h : s.LightSafe b) : (writeInterlock r s).s.LightSafe b := by
  have owner (n : Chan) (items : List Item) : (ownerWriteInterlock n items s).s.LightSafe b := by
    unfold ownerWriteInterlock
    split
    · exact h
    · exact putLine_safe h ..
  unfold writeInterlock
  split
  · exact h
  · split
    · exact h
    · split
      · exact h
      · split
        · exact h
        · exact owner ..

theorem clearInterlock_safe (r : Req) (h : s.LightSafe b) : (clearInterlock r s).s.LightSafe b := by
  unfold clearInterlock
  split
  · split
    · exact h
    · split
      · exact h
      · exact putLine_safe h ..
  · exact h

/-! ### SPAN_HOLD, SPAN_RESUME, SPAN_RELEASE, SET_LOOP -/

theorem spanHold_safe (r : Req) (h : s.LightSafe b) : (spanHold r s).s.LightSafe b := by
  unfold spanHold
  split
  · split
    · exact h
    · unfold holdSpan
      split
      · exact h
      · exact h.congr rfl rfl rfl
  · exact h

theorem resumeSpan_safe (sp : Span) (h : s.LightSafe b) : (resumeSpan sp s).s.LightSafe b := by
  change (if s.held sp then endStanding sp .manualHold (s.setHeld sp false) else s).LightSafe b
  split
  · exact endStanding_safe (s := s.setHeld sp false) (h.congr rfl rfl rfl) ..
  · exact h

theorem spanResume_safe (r : Req) (h : s.LightSafe b) : (spanResume r s).s.LightSafe b := by
  unfold spanResume
  split
  · split
    · exact h
    · split
      · exact h
      · exact resumeSpan_safe _ h
  · exact h

/-- A span out of LOCKED was dark in it (R33). -/
theorem releaseSpan_safe (sp : Span) (h : s.LightSafe b) : (releaseSpan sp s).s.LightSafe b := by
  unfold releaseSpan
  split
  · exact h
  next hs =>
    have locked : (s.st sp).state = .locked := not_not.mp hs
    have dark : s.SpanDark sp := h.spanDark (by rw [locked]; rfl)
    have run : s.part.run = true := h.run (sp := sp) (by rw [locked]; decide)
    have counted := setSt_safe (sp := sp) (y := { s.st sp with failures := 0 }) h rfl
    change (if (s.line sp).loop = .normal then _ else _ : State).LightSafe b
    split
    · exact enterWait_safe counted dark run false
    · exact enterMaint_safe counted dark run

theorem spanRelease_safe (r : Req) (h : s.LightSafe b) : (spanRelease r s).s.LightSafe b := by
  unfold spanRelease
  split
  · split
    · exact h
    · split
      · exact h
      · exact releaseSpan_safe _ h
  · exact h

/-- SET_LOOP moves a span between WAIT, LOCKED and MAINT, where it is dark (R189). -/
theorem loopMoves_safe (sp : Span) (old new : Loop) (h : s.LightSafe b) : (loopMoves sp old new s).LightSafe b := by
  unfold loopMoves
  split
  case h_1 hs | h_2 hs =>
    split
    · exact enterMaint_safe h (h.spanDark (by rw [hs]; rfl)) (h.run (sp := sp) (by rw [hs]; decide))
    · exact h
  case h_3 hs =>
    split
    · exact enterWait_safe h (h.spanDark (by rw [hs]; rfl)) (h.run (sp := sp) (by rw [hs]; decide)) false
    · exact h
  all_goals exact h

theorem setLoop_safe (r : Req) (h : s.LightSafe b) : (setLoop r s).s.LightSafe b := by
  have port (sp : Span) (m : Loop) : (loopPort sp m s).s.LightSafe b := by
    unfold loopPort
    split
    · exact h
    · split
      · exact h
      · exact loopMoves_safe (s := putLoop sp m s) sp _ m (h.congr rfl rfl rfl)
  unfold setLoop
  split
  · split
    · exact h
    · split
      · exact h
      · exact port ..
  · exact h

/-! ### WRITE_PART, WRITE_GRANTS -/

theorem clearMismatch_safe (sp : Span) (h : s.LightSafe b) : (clearMismatch sp s).LightSafe b := h.congr rfl rfl rfl

theorem ownerWritePart_safe (first : Bool) (items : List Item) (h : s.LightSafe b) : (ownerWritePart first items s).s.LightSafe b := by
  unfold ownerWritePart
  split
  · exact h
  · have stored : ({ s with part := s.part.write items } : State).LightSafe b := h.congr rfl rfl rfl
    have named : (if (s.part.write items).site = s.part.site then { s with part := s.part.write items }
        else clearMismatch .es (clearMismatch .ws { s with part := s.part.write items })).LightSafe b := by
      split
      · exact stored
      · exact clearMismatch_safe .es (clearMismatch_safe .ws stored)
    dsimp only
    split
    · exact named
    · split
      · exact named
      · exact departNotices_safe named

theorem writePart_safe (r : Req) (h : s.LightSafe b) : (writePart r s).s.LightSafe b := by
  unfold writePart
  split
  · exact h
  · split
    · exact h
    · exact ownerWritePart_safe _ _ h

theorem writeGrants_safe (r : Req) (h : s.LightSafe b) : (writeGrants r s).s.LightSafe b := by
  have owner (items : List Item) : (ownerWriteGrants items s).s.LightSafe b := by
    unfold ownerWriteGrants
    dsimp only
    split
    · exact h
    · exact h.congr rfl rfl rfl
  unfold writeGrants
  split
  · exact h
  · split
    · exact h
    · exact owner _

/-! ### START, HALT, CLEAR -/

/-- The part enters RUN from any state, and STANDBY with both spans in UNUSED. -/
theorem setRun_safe {run : Bool} (h : s.LightSafe b) (hr : run = true ∨ ∀ sp, (s.st sp).state = .unused) : (setRun run s).LightSafe b :=
  ⟨fun g sp => hr.elim (fun e => absurd (e.symm.trans g) (by decide)) (· sp), h.pump⟩

/-- A span that leaves UNUSED at START is dark. -/
theorem startSpan_safe (h : s.LightSafe b) (hu : (s.st sp).state = .unused) (hr : s.part.run = true) : (startSpan sp s).LightSafe b := by
  unfold startSpan
  split
  · exact leaveUnused_safe h (h.spanDark (by rw [hu]; rfl)) hr true
  · exact h

theorem startPart_safe (h : s.LightSafe b) (hr : s.part.run = false) : (startPart s).LightSafe b := by
  have unused (sp : Span) : ((setRun true s).st sp).state = .unused := h.standby hr sp
  have on : (setRun true s).LightSafe b := setRun_safe h (.inl rfl)
  have ws := startSpan_safe on (unused .ws) rfl
  have es : (startSpan .es (startSpan .ws (setRun true s))).LightSafe b := by
    refine startSpan_safe ws ?_ (by rw [startSpan_part]; rfl)
    rw [show Span.es = Span.ws.other from rfl, startSpan_st_other]
    exact unused _
  unfold startPart
  generalize startSpan .es (startSpan .ws (setRun true s)) = u at es ⊢
  have supply : (startSupply u).LightSafe b := by
    unfold startSupply
    split
    · exact raise_safe es ..
    · exact es
  exact raise_safe (clearMismatch_safe .es (clearMismatch_safe .ws supply)) ..

theorem startReq_safe (r : Req) (h : s.LightSafe b) : (startReq r s).s.LightSafe b := by
  unfold startReq
  split
  · exact h
  · split
    · exact h
    · split
      · exact h
      next hr => exact startPart_safe h (by simpa using hr)

theorem haltSpan_safe (h : s.LightSafe b) (hd : s.SpanDark sp) : (haltSpan sp s).LightSafe b := by
  unfold haltSpan
  split
  · exact h
  · exact emptySpan_safe h hd

theorem haltSpan_spanDark {x : Span} (h : s.SpanDark x) : (haltSpan sp s).SpanDark x := by
  have pump (ch : Chan) : (haltSpan sp s).pump ch = s.pump ch := by
    unfold haltSpan
    split
    · rfl
    · rw [emptySpan_eq]; rfl
  intro ch
  rw [pump]
  exact h ch

/-- HALT snuffs every channel, so both spans enter UNUSED dark (R187). -/
theorem haltPart_safe (h : s.LightSafe b) : (haltPart s).LightSafe b := by
  have snuffed := snuffAll_safe h
  have dark (x : Span) := snuffAll_spanDark x s
  unfold haltPart
  generalize snuffAll s = u at snuffed dark ⊢
  refine setRun_safe (haltSpan_safe (haltSpan_safe snuffed (dark .ws)) (haltSpan_spanDark (dark .es))) (.inr fun sp => ?_)
  cases sp
  · rw [show Span.ws = Span.es.other from rfl, haltSpan_st_other]; exact haltSpan_st_self ..
  · exact haltSpan_st_self ..

theorem haltReq_safe (r : Req) (h : s.LightSafe b) : (haltReq r s).s.LightSafe b := by
  have halted := haltPart_safe h
  unfold haltReq
  split
  · exact h
  · split
    · exact h
    · split
      · exact h
      · generalize haltPart s = u at halted ⊢
        exact raise_safe halted ..

theorem clearSpan_safe (sp : Span) (h : s.LightSafe b) : (clearSpan sp s).LightSafe b :=
  (setSt_safe (sp := sp) (y := { s.st sp with far := none, tag := 0 }) h rfl).congr rfl rfl rfl

theorem clearInput_safe (sp : Span) (h : s.LightSafe b) : (clearInput sp s).LightSafe b :=
  lightChanged_safe (s := s.setInp sp _) (h.congr rfl rfl rfl) ..

theorem clearReplies_safe (h : s.LightSafe b) : (clearReplies s).LightSafe b := by
  refine ⟨h.standby, fun ch => ?_⟩
  have e : (clearReplies s).pump ch = { s.pump ch with noReply := 0 } := by simp [State.pump, clearReplies]
  rw [e]
  exact ⟨(h.pump ch).dark, (h.pump ch).lit, (h.pump ch).bound⟩

theorem clearPart_safe (h : s.LightSafe b) : (clearPart s).LightSafe b := by
  have dark : (if s.part.run then haltPart s else snuffAll s).LightSafe b := by
    split
    · exact haltPart_safe h
    · exact snuffAll_safe h
  have cleared := clearInput_safe .es (clearInput_safe .ws (clearSpan_safe .es (clearSpan_safe .ws dark)))
  rw [clearPart_eq]
  dsimp only
  generalize clearInput .es _ = u at cleared ⊢
  have runs : (clearRuns { clearPorts u with notices := [] }).LightSafe b := cleared.congr rfl rfl rfl
  exact raise_safe (clearReplies_safe runs) ..

theorem clearReq_safe (r : Req) (h : s.LightSafe b) : (clearReq r s).s.LightSafe b := by
  unfold clearReq
  split
  · exact h
  · split
    · exact h
    · exact clearPart_safe h

/-! ### The Request Handler -/

theorem setBase_safe (p : Port) (q : PortBase) (h : s.LightSafe b) : (s.setBase p q).LightSafe b :=
  h.congr (by simp) (by simp) (by simp)

theorem sendReply_safe (kind : BitVec 5) (r : Req) {a : Answer} (h : a.s.LightSafe b) : (sendReply kind r a).LightSafe b := by
  have queued : (a.s.toLocalQueue r.port (replyMsg kind r a)).LightSafe b := setBase_safe _ _ h
  unfold sendReply
  dsimp only
  split
  · exact departNotices_safe queued
  · exact queued

/-- One kind of request or the others. -/
theorem State.LightSafe.kind {c : Prop} [Decidable c] {a d : Answer} (ha : a.s.LightSafe b) (hd : d.s.LightSafe b) :
    (if c then a else d).s.LightSafe b := by
  split
  · exact ha
  · exact hd

theorem answer_safe (kind : BitVec 5) (r : Req) (h : s.LightSafe b) : (answer kind r s).s.LightSafe b := by
  unfold answer
  refine .kind (by rwa [readReq_s]) ?_
  refine .kind (writeSpan_safe r h) ?_
  refine .kind (writePump_safe r h) ?_
  refine .kind (setSetpoint_safe r h) ?_
  refine .kind (clearPump_safe r h) ?_
  refine .kind (writeMonitor_safe r h) ?_
  refine .kind (writeEvent_safe r h) ?_
  refine .kind (writeInterlock_safe r h) ?_
  refine .kind (clearInterlock_safe r h) ?_
  refine .kind (spanHold_safe r h) ?_
  refine .kind (spanResume_safe r h) ?_
  refine .kind (spanRelease_safe r h) ?_
  refine .kind (setLoop_safe r h) ?_
  refine .kind (writePart_safe r h) ?_
  refine .kind (startReq_safe r h) ?_
  refine .kind (haltReq_safe r h) ?_
  refine .kind (writeGrants_safe r h) ?_
  exact .kind (clearReq_safe r h) h

theorem takeRequest_safe (kind : BitVec 5) (r : Req) (h : s.LightSafe b) : (takeRequest kind r s).LightSafe b :=
  sendReply_safe kind r (answer_safe kind r h)

end Sys2Proof.Machine
end

section
/-! SUPPORT. Eye safety of the part through the frame path, the Time Base, the resets and every step. -/

namespace Sys2Proof.Machine

variable {b : Prop} {s t u : State} {sp : Span} {ch : Chan}

/-! ### Frames -/

theorem frameTests_safe (sp : Span) (w : SpanWord) (h : s.LightSafe b) : (frameTests sp w s).LightSafe b := by
  have shut (c : Bool) : (if c then engineRaise sp .farShut (.port sp.port) s else s).LightSafe b := by
    split
    · exact engineRaise_safe h ..
    · exact h
  unfold frameTests
  split
  next => exact shut _
  next => exact completionTest_safe (shut _) sp
  next =>
    split
    · exact setSt_safe h rfl
    · exact h
  next hs =>
    split
    all_goals
      split
      · exact enterConfirm_safe h hs
      · exact h
  all_goals exact h

theorem validWord_safe (sp : Span) (w : SpanWord) (h : s.LightSafe b) : (validWord sp w s).LightSafe b := by
  have heard : (s.setLine sp { s.line sp with silence := 0, live := true, mismatch := false }).LightSafe b := h.congr rfl rfl rfl
  exact frameTests_safe sp w (setSt_safe heard rfl)

theorem takeWord_safe (sp : Span) (w : SpanWord) (h : s.LightSafe b) : (takeWord sp w s).LightSafe b := by
  unfold takeWord
  split
  · exact validWord_safe sp w h
  · unfold strangeWord
    split
    · exact h
    · exact h.congr rfl rfl rfl

theorem forwardMsg_safe (sp : Span) (m : Msg) (h : s.LightSafe b) : (forwardMsg sp m s).LightSafe b := by
  unfold forwardMsg
  split
  · exact h
  · exact h.congr rfl rfl rfl

theorem handOn_safe (sp : Span) (race : Race) (m : Msg) (h : s.LightSafe b) : (handOn sp race m s).LightSafe b := by
  unfold handOn
  split
  · exact takeRequest_safe _ _ h
  · exact setBase_safe _ _ h

/-- Work that keeps eye safety. -/
def KeepsLight (b : Prop) (f : State → State) : Prop := ∀ {s : State}, s.LightSafe b → (f s).LightSafe b

theorem inOrder_safe {f g : State → State} (hf : KeepsLight b f) (hg : KeepsLight b g) (swapped : Bool) : KeepsLight b (inOrder swapped f g) := by
  intro s h
  obtain e | e := inOrder_cases swapped f g s <;> rw [e]
  · exact hg (hf h)
  · exact hf (hg h)

theorem routeLine_safe (sp : Span) (race : Race) (m : Msg) (h : s.LightSafe b) : (routeLine sp race m s).LightSafe b := by
  unfold routeLine
  split_ifs
  · exact h
  · exact handOn_safe sp race m h
  · exact inOrder_safe (handOn_safe sp race m) (forwardMsg_safe sp m) _ h
  · exact forwardMsg_safe sp m h

theorem routeLocal_safe (race : Race) (m : Msg) (h : s.LightSafe b) : (routeLocal race m s).LightSafe b := by
  have handle : KeepsLight b (if Config.isRequestKind m.kind then takeRequest m.kind (m.request .loc race) else id) := by
    intro s h
    split
    · exact takeRequest_safe _ _ h
    · exact h
  have send : KeepsLight b fun s : State => s.toLocalQueue (dirPort m.dir) m := setBase_safe _ _
  unfold routeLocal
  dsimp only
  generalize (if Config.isRequestKind m.kind then takeRequest m.kind (m.request .loc race) else id) = taken at handle ⊢
  split_ifs
  · exact handle h
  · exact inOrder_safe handle send _ h
  · exact send h

theorem withMsg_safe {f : Msg → State → State} (hf : ∀ m, KeepsLight b (f m)) (m : Option Msg) : KeepsLight b (withMsg m f) := by
  intro s h
  cases m
  · exact h
  · exact hf _ h

theorem takeFrame_safe (p : Port) (race : Race) (w : SpanWord) (m : Option Msg) (h : s.LightSafe b) : (takeFrame p race w m s).LightSafe b := by
  cases p
  · exact inOrder_safe (takeWord_safe .ws w) (withMsg_safe (fun m => routeLine_safe .ws race m) m) _ h
  · exact inOrder_safe (takeWord_safe .es w) (withMsg_safe (fun m => routeLine_safe .es race m) m) _ h
  · exact withMsg_safe (fun m => routeLocal_safe race m) m h

theorem receive_safe (p : Port) (race : Race) (fuel : Nat) (h : s.LightSafe b) : (receive p race fuel s).LightSafe b := by
  have rest {u : State} (r : Receiver) (h : u.LightSafe b) : (setRx p r u).LightSafe b := setBase_safe _ _ h
  induction fuel generalizing s with
  | zero => exact h
  | succ fuel ih =>
    unfold receive
    split
    · exact h
    · exact rest _ (setBase_safe _ _ h)
    · exact ih (rest _ (setBase_safe _ _ h))
    · exact ih (takeFrame_safe p race _ _ (rest _ (setBase_safe _ _ h)))

theorem takeBytes_safe (p : Port) (race : Race) (bytes : List Byte) (h : s.LightSafe b) : (takeBytes p race bytes s).LightSafe b := by
  unfold takeBytes
  dsimp only
  split
  · exact h
  · exact receive_safe p race _ (setBase_safe _ _ h)

theorem frameArrives_safe (p : Port) (race : Race) (bytes : List Byte) (h : s.LightSafe b) :
    (frameArrives p race bytes s).LightSafe b := by
  unfold frameArrives
  split
  · exact h
  · exact takeBytes_safe p race bytes h

theorem idleArrives_safe (p : Port) (h : s.LightSafe b) : (idleArrives p s).LightSafe b := by
  unfold idleArrives
  split
  · exact h
  · refine setBase_safe _ _ ?_
    split
    · exact h
    · exact setBase_safe _ _ h

/-! ### Slot starts -/

theorem sendLine_safe (sp : Span) (h : s.LightSafe b) : (sendLine sp s).LightSafe b := by
  unfold sendLine
  dsimp only
  split <;> exact h.congr rfl rfl rfl

theorem sendLocal_safe (h : s.LightSafe b) : (sendLocal s).LightSafe b := h.congr rfl rfl rfl

theorem loopBack_safe (sp : Span) (race : Race) (bytes : List Byte) : KeepsLight b (loopBack sp race bytes) := by
  intro s h
  unfold loopBack
  split
  · exact takeBytes_safe _ race bytes h
  · exact h

theorem startSlot_safe (race : Race) (eastFirst : Bool) (h : s.LightSafe b) : (startSlot race eastFirst s).LightSafe b := by
  unfold startSlot
  split
  · have begun : ({ s with
        time := { s.time with prescaler := Config.slotPeriods * s.time.slotNext, slotNext := s.time.slotNext + 1 }
        lines := ⟨(s.line .ws).latchLoop, (s.line .es).latchLoop⟩ } : State).LightSafe b := h.congr rfl rfl rfl
    have sent := sendLocal_safe (sendLine_safe .es (sendLine_safe .ws begun))
    exact inOrder_safe departNotices_safe (inOrder_safe (loopBack_safe .ws race _) (loopBack_safe .es race _) eastFirst) _ sent
  · exact h

/-! ### Ticks -/

theorem stepTick_safe (ch : Chan) (h : s.LightSafe b) : (stepTick ch s).LightSafe b := by
  have linked := forChans_safe takeLink_safe h
  unfold stepTick
  dsimp only
  generalize forChans takeLink s = u at linked ⊢
  exact testCompletion_safe (setPump_safe linked (takeStep_safe (linked.pump ch) mayRise_opened)) ch

theorem runJob_safe (j : TickJob) (h : s.LightSafe b) : (runJob j s).LightSafe b := by
  cases j with
  | silence sp => exact silenceTick_safe h sp
  | offTimer sp => exact offTick_safe h sp
  | slot sp => exact slotTick_safe h sp
  | monitor ch => exact monitorTick_safe h ch
  | interlock n => exact putLine_safe h ..
  | check ch => exact checkTick_safe ch h
  | link ch => exact linkTick_safe ch h
  | step ch =>
    unfold runJob
    exact stepTick_safe ch h
  | settle => exact settleTick_safe h

theorem takeJob_safe (j : TickJob) (h : s.LightSafe b) : (takeJob j s).LightSafe b := by
  unfold takeJob
  split
  · exact runJob_safe j (dropJob_safe h j)
  · exact h

theorem takeJobs_safe (js : List TickJob) (h : s.LightSafe b) : (takeJobs js s).LightSafe b :=
  takeJobs_induct (fun j _ => takeJob_safe j) js h

theorem giveTick_safe (levels : BitVec 8) (order : List TickJob) (h : s.LightSafe b) : (giveTick levels order s).LightSafe b := by
  refine takeJobs_safe order ?_
  have taken := takeJobs_safe s.owed h
  generalize takeJobs s.owed s = u at taken ⊢
  exact taken.congr rfl rfl rfl

theorem takeWhere_safe (j : TickJob) (happens : State → State → Bool) (h : s.LightSafe b) : (takeWhere j happens s).LightSafe b := by
  unfold takeWhere
  split
  · exact takeJob_safe j h
  · exact h

/-! ### Resets -/

theorem resetPart_safe (s : State) : (resetPart s).LightSafe b := by
  have safe : State.reset.LightSafe b := by
    refine ⟨reset_standbyUnused, fun ch => ?_⟩
    rw [reset_pump]
    exact .of_dark rfl rfl
  exact safe.congr rfl rfl rfl

theorem assertReset_safe (w e l : Bool) (s : State) : (assertReset w e l s).LightSafe b := (resetPart_safe s).congr rfl rfl rfl

theorem releaseReset_safe (h : s.LightSafe b) : (releaseReset s).LightSafe b := by
  unfold releaseReset
  split <;> exact h.congr rfl rfl rfl

/-! ### Steps -/

theorem fresh_safe (h : s.LightSafe b) : s.fresh.LightSafe b := h.congr rfl rfl rfl

theorem unlessReset_safe {f : State → State} (h : s.LightSafe b) (hf : s.fresh.LightSafe b → (f s.fresh).LightSafe b) :
    (s.unlessReset f).LightSafe b := unlessReset_induct (fresh_safe h) hf

theorem holds_of_next {o : Host.Outcome State Fault Refusal} {P : State → Prop} (h : o = .next t) (ho : o = .next u) (hu : P u) : P t := by
  obtain rfl : u = t := Host.Outcome.next.inj (ho.symm.trans h)
  exact hu

theorem request_safe {kind : BitVec 5} {r : Req} {f : Req → State → Answer} (hf : ∀ {s : State}, s.LightSafe b → (f r s).s.LightSafe b)
    (h : s.LightSafe b) : (s.unlessReset fun s => sendReply kind r (f r s)).LightSafe b :=
  unlessReset_safe h fun h => sendReply_safe kind r (hf h)

/-- The commands to a channel that the manual gives only with care: a DOUSE of a channel in PULSING, and, where LAUNCH pumps are bounded
in PROBE, a PULSE above the probe setpoint (log 30). -/
def Careful (b : Prop) (s : State) : Instr → Prop
  | .douse ch => (s.pump ch).state ≠ .pulsing
  | .pulse ch level _ => b → level ≤ (s.pump ch).probe
  | _ => True

/-- Every careful command that is taken keeps eye safety. -/
theorem exec_safe {i : Instr} (h : s.LightSafe b) (hc : Careful b s i) (he : exec i s = .next t) : t.LightSafe b := by
  cases i with
  | powerOnReset => exact holds_of_next he rfl (resetPart_safe s)
  | resetAssert w e l => exact holds_of_next he rfl (assertReset_safe w e l s)
  | resetRelease => exact holds_of_next he rfl (releaseReset_safe h)
  | tick levels order => exact holds_of_next he rfl (unlessReset_safe h (giveTick_safe levels order))
  | slotStart race eastFirst => exact holds_of_next he rfl (unlessReset_safe h (startSlot_safe race eastFirst))
  | offExpired | portSilent | darkTimeout | confirmTimeout | probeExpiry | pulseEnd | minDarkEnd | rampComplete | monitorStale
  | driverLost | settleEnd | probeStart => exact holds_of_next he rfl (unlessReset_safe h (takeWhere_safe _ _))
  | confirmCompletion sp => exact holds_of_next he rfl (unlessReset_safe h (completionTest_safe · sp))
  | frameReceived p race bytes => exact holds_of_next he rfl (unlessReset_safe h (frameArrives_safe p race bytes))
  | sampleWord b0 b1 b2 => exact holds_of_next he rfl (unlessReset_safe h (takeSample_safe · _ _))
  | statusRecord b => exact holds_of_next he rfl (unlessReset_safe h (takeStatus_safe _ _))
  | supplyGoodFall =>
    have pin : (setSupplyPin false s).LightSafe b := h.congr rfl rfl rfl
    exact holds_of_next he rfl (unlessReset_safe pin supplyFall_safe)
  | supplyGoodRise =>
    have pin : (setSupplyPin true s).LightSafe b := h.congr rfl rfl rfl
    exact holds_of_next he rfl (unlessReset_safe pin supplyRise_safe)
  | rise ch x => exact holds_of_next he rfl (unlessReset_safe h fun h => testCompletion_safe (riseChannel_safe ch x h) ch)
  | pulse ch level length => exact holds_of_next he rfl (unlessReset_safe h (pulseChannel_safe (s := s.fresh) hc length))
  | douse ch => exact holds_of_next he rfl (unlessReset_safe h fun h => douseChannel_safe ch h fun hs => absurd hs hc)
  | snuff ch => exact holds_of_next he rfl (unlessReset_safe h (snuffChannel_safe ch _))
  | eventTaken src => exact holds_of_next he rfl (unlessReset_safe h (takeOldest_safe · src))
  | noticeDeparture => exact holds_of_next he rfl (unlessReset_safe h departNotices_safe)
  | read r => exact holds_of_next he rfl (request_safe (fun h => by rwa [readReq_s]) h)
  | writeSpan r => exact holds_of_next he rfl (request_safe (writeSpan_safe r) h)
  | writePump r => exact holds_of_next he rfl (request_safe (writePump_safe r) h)
  | setSetpoint r => exact holds_of_next he rfl (request_safe (setSetpoint_safe r) h)
  | clearPump r => exact holds_of_next he rfl (request_safe (clearPump_safe r) h)
  | writeMonitor r => exact holds_of_next he rfl (request_safe (writeMonitor_safe r) h)
  | writeEvent r => exact holds_of_next he rfl (request_safe (writeEvent_safe r) h)
  | writeInterlock r => exact holds_of_next he rfl (request_safe (writeInterlock_safe r) h)
  | clearInterlock r => exact holds_of_next he rfl (request_safe (clearInterlock_safe r) h)
  | spanHold r => exact holds_of_next he rfl (request_safe (spanHold_safe r) h)
  | spanResume r => exact holds_of_next he rfl (request_safe (spanResume_safe r) h)
  | spanRelease r => exact holds_of_next he rfl (request_safe (spanRelease_safe r) h)
  | setLoop r => exact holds_of_next he rfl (request_safe (setLoop_safe r) h)
  | writePart r => exact holds_of_next he rfl (request_safe (writePart_safe r) h)
  | start r => exact holds_of_next he rfl (request_safe (startReq_safe r) h)
  | halt r => exact holds_of_next he rfl (request_safe (haltReq_safe r) h)
  | writeGrants r => exact holds_of_next he rfl (request_safe (writeGrants_safe r) h)
  | clear r => exact holds_of_next he rfl (request_safe (clearReq_safe r) h)
  | unknownRequest kind r => exact holds_of_next he rfl (unlessReset_safe h (takeRequest_safe kind r))
  | idleFillReceived p => exact holds_of_next he rfl (unlessReset_safe h (idleArrives_safe p))

/-- Every step whose command is careful keeps eye safety. -/
theorem step_safe (h : s.LightSafe b) (hc : ∀ i, s.pending.head? = some i → Careful b s i) (hs : step s = .next t) : t.LightSafe b := by
  cases hp : s.pending with
  | nil => exact holds_of_next hs (step_nil hp) h
  | cons i rest =>
    rw [step_cons hp] at hs
    refine exec_safe (s := { s with pending := rest }) (h.congr rfl rfl rfl) ?_ hs
    have careful := hc i (by rw [hp]; rfl)
    cases i <;> exact careful

/-- DOUSE lowers a pump at most, whatever its state. -/
theorem douseChannel_probeBounded (h : s.ProbeBounded) : (douseChannel ch s).ProbeBounded := by
  intro c hr hx
  have st (x : Span) : (douseChannel ch s).st x = s.st x :=
    PumpFrame.st (show PumpFrame s (douseChannel ch s) from putPump_frame s ch _) x
  rw [st] at hx
  rw [show (douseChannel ch s).pump c = if c = ch then (s.pump ch).takeDouse else s.pump c from putPump_pump ..] at hr hx ⊢
  split at hr
  next e =>
    subst e
    have probe : (s.pump c).takeDouse.probe = (s.pump c).probe := by
      unfold Pump.takeDouse
      split
      case h_3 | h_4 | h_5 => split <;> rfl
      all_goals rfl
    rw [if_pos rfl, (takeDouse_keeps _).span] at hx
    rw [if_pos rfl, probe]
    exact (takeDouse_level_le _).trans (h c ((takeDouse_keeps _).role.symm.trans hr) hx)
  next e =>
    rw [if_neg e] at hx ⊢
    exact h c hr hx

/-- A step that takes a DOUSE keeps the bound on LAUNCH pumps in PROBE. -/
theorem douse_probeBounded {rest : List Instr} (h : s.ProbeBounded) (hp : s.pending = .douse ch :: rest) (hs : step s = .next t) :
    t.ProbeBounded := by
  rw [step_cons hp] at hs
  refine holds_of_next hs (u := ({ s with pending := rest } : State).unlessReset (douseChannel ch)) rfl ?_
  exact unlessReset_induct h douseChannel_probeBounded

/-- Settles O49. -/
theorem lightOnlyWhereSpanAllows : Obligations.LightOnlyWhereSpanAllows := by
  refine ⟨fun s t he hp hd hs => ?_, fun s t he hp hb hl hs => ?_⟩
  · refine (step_safe (b := False) (lightSafe_of_eyeSafe he hp False.elim) (fun i hi => ?_) hs).eyeSafe
    cases i with
    | douse ch => exact hd ch hi
    | pulse => exact False.elim
    | _ => trivial
  · by_cases hd : ∃ ch, s.pending.head? = some (.douse ch)
    · obtain ⟨ch, hd⟩ := hd
      obtain ⟨rest, hq⟩ := List.head?_eq_some_iff.mp hd
      exact douse_probeBounded hb hq hs
    · refine (step_safe (b := True) (lightSafe_of_eyeSafe he hp fun _ => hb) (fun i hi => ?_) hs).probeBounded
      cases i with
      | douse ch => exact absurd ⟨ch, hi⟩ hd
      | pulse ch level len => exact fun _ => hl ch level len hi
      | _ => trivial

end Sys2Proof.Machine
end

section
/-! SUPPORT. The exposure ring: what a tick's slot records, and the window sum of an admitted probe. -/

namespace Sys2Proof.Machine

variable {s t : State} {sp : Span} {ch : Chan}

/-! ### The window sum -/

theorem sum_take_le {l : List Nat} {m n : Nat} (h : m ≤ n) : (l.take m).sum ≤ (l.take n).sum :=
  (List.take_sublist_take_left h).sum_le_sum fun _ _ => Nat.zero_le _

/-- The window sum after pulse slots at or below a bound, against the window without its newest slot. -/
theorem sum_take_append_le {pulse ring : List Nat} {bound window : Nat} (hb : ∀ x ∈ pulse, x ≤ bound) (h1 : 1 ≤ pulse.length)
    (hw : pulse.length ≤ window) :
    ((pulse ++ ring).take window).sum ≤ (ring.take (window - 1)).sum + pulse.length * bound := by
  have pulses : pulse.sum ≤ pulse.length * bound := List.sum_le_card_nsmul pulse bound hb
  have older : (ring.take (window - pulse.length)).sum ≤ (ring.take (window - 1)).sum := sum_take_le (by omega)
  rw [List.take_append, List.take_of_length_le hw, List.sum_append]
  omega

/-- Settles O20. -/
theorem admittedProbeStaysBelowLimit : Obligations.AdmittedProbeStaysBelowLimit := by
  intro s sp pulse hT hp h1 hl hb
  calc (s.setSlots sp (pulse ++ s.slots sp)).windowSum sp
      = ((pulse ++ s.slots sp).take (s.config sp).window).sum := by rw [State.windowSum, State.setSlots_slots_self]; rfl
    _ ≤ ((s.slots sp).take ((s.config sp).window - 1)).sum + pulse.length * (s.config sp).ceiling :=
        sum_take_append_le hb h1 (by omega)
    _ ≤ s.projectedSum sp := Nat.add_le_add_left (Nat.mul_le_mul_right _ hl) _
    _ ≤ (s.config sp).limit := hp

/-! ### The rings through the engine's work on a slot -/

theorem PumpFrame.ring (h : PumpFrame s t) : t.ring = s.ring := by rw [h.eq]

theorem faultChannel_ring (e : Event) (ch : Chan) (s : State) : (faultChannel e ch s).ring = s.ring := by
  have put : PumpFrame s (s.putPump ch (s.pump ch).goFaulted) := putPump_frame ..
  unfold faultChannel
  dsimp only
  rw [sendRecord_spec]
  exact put.ring

theorem takeCheck_ring (ch : Chan) (s : State) : (takeCheck ch s).ring = s.ring := by
  obtain ⟨-, e⟩ | ⟨-, e⟩ := takeCheck_cases ch s <;> rw [e]
  obtain ⟨-, e⟩ | ⟨-, e⟩ := checkTick_cases ch (s.dropJob (.check ch)) <;> rw [e]
  · exact faultChannel_ring ..
  · rfl

theorem takeLink_ring (ch : Chan) (s : State) : (takeLink ch s).ring = s.ring := by
  obtain ⟨-, e⟩ | ⟨-, e⟩ := takeLink_cases ch s <;> rw [e]
  have checked : (forChans takeCheck (s.dropJob (.link ch))).ring = s.ring :=
    forChans_inv (Q := fun s t => t.ring = s.ring) (fun _ => rfl) (fun h g => g.trans h) takeCheck_ring (s.dropJob (.link ch))
  rw [linkTick_spec]
  generalize forChans takeCheck (s.dropJob (.link ch)) = u at checked
  exact checked

theorem pulseChannel_ring (ch : Chan) (level length : Nat) (s : State) : (pulseChannel ch level length s).ring = s.ring := by
  unfold pulseChannel
  dsimp only
  split
  · have put : PumpFrame (takeLink ch s) ((takeLink ch s).putPump ch (((takeLink ch s).pump ch).takePulse level length)) :=
      putPump_frame ..
    exact put.ring.trans (takeLink_ring ch s)
  · rfl

theorem pulseSpan_ring (sp : Span) (s : State) : (pulseSpan sp s).ring = s.ring := by
  refine forChans_inv (Q := fun s t => t.ring = s.ring) (fun _ => rfl) (fun h g => g.trans h) (fun ch t => ?_) s
  split
  · exact pulseChannel_ring ..
  · rfl

theorem darkTest_ring (sp : Span) (slot : Nat) (s : State) : (darkTest sp slot s).ring = s.ring := by
  unfold darkTest
  dsimp only
  split_ifs
  · rw [enterWait_eq]; rfl
  · rfl
  · rfl

theorem startProbe_ring (sp : Span) (s : State) : (startProbe sp s).ring = s.ring := by
  rw [startProbe_eq, pulseSpan_ring]; rfl

theorem expireProbe_ring (sp : Span) (s : State) : (expireProbe sp s).ring = s.ring := by
  have snuffed : (snuffPulsing sp s).ring = s.ring := PumpFrame.ring (snuffPulsing_frame sp s)
  unfold expireProbe
  dsimp only
  generalize snuffPulsing sp s = u at snuffed ⊢
  split
  · rw [enterLocked_eq]; exact snuffed
  · rw [enterWait_eq]; exact snuffed

theorem enterConfirm_ring (sp : Span) (s : State) : (enterConfirm sp s).ring = s.ring := by rw [(enterConfirm_frame sp s).eq]

theorem overshootTest_ring (sp : Span) (slot : Nat) (s : State) : (overshootTest sp slot s).ring = s.ring := by
  unfold overshootTest
  dsimp only
  split <;> rfl

theorem exposureTest_ring (sp : Span) (s : State) : (exposureTest sp s).ring = s.ring := by
  unfold exposureTest
  dsimp only
  split <;> rfl

theorem probeTick_ring (sp : Span) (slot : Nat) (s : State) : (probeTick sp slot s).ring = s.ring := by
  unfold probeTick
  dsimp only
  have tested := exposureTest_ring sp (overshootTest sp slot (s.setSt sp { s.st sp with ticks := satSucc 65535 (s.st sp).ticks }))
  rw [overshootTest_ring, State.setSt_ring] at tested
  generalize exposureTest sp _ = u at tested ⊢
  split
  · rw [enterConfirm_ring, tested]
  · split
    · split
      · rw [expireProbe_ring, tested]
      · exact tested
    · exact tested

theorem confirmTick_ring (sp : Span) (s : State) : (confirmTick sp s).ring = s.ring := by
  unfold confirmTick
  dsimp only
  split <;> rfl

/-- The engine's work on a slot changes no ring. -/
theorem engineTick_ring (sp : Span) (slot : Nat) (s : State) : (engineTick sp slot s).ring = s.ring := by
  unfold engineTick
  split
  · exact darkTest_ring ..
  · split
    · exact startProbe_ring ..
    · rfl
  · exact probeTick_ring ..
  · exact confirmTick_ring ..
  all_goals rfl

/-- A tick's slot changes one ring alone, whatever the engine makes of it (R36). -/
theorem slotTick_ring (sp : Span) (s : State) : (slotTick sp s).ring = (s.recorded sp).ring := by
  obtain ⟨-, e⟩ | ⟨-, e⟩ := slotTick_cases sp s <;> rw [e]
  · rfl
  · exact engineTick_ring ..

theorem slots_congr (h : t.ring = s.ring) (sp : Span) : t.slots sp = s.slots sp := by simp only [State.slots, h]

theorem recorded_slots_self (sp : Span) (s : State) : (s.recorded sp).slots sp = s.slotValue sp :: (s.slots sp).take 255 :=
  State.setSlots_slots_self ..

theorem recorded_slots_other (sp : Span) (s : State) : (s.recorded sp).slots sp.other = s.slots sp.other :=
  State.setSlots_slots_other ..

theorem engineTick_idle (h : (s.st sp).state = .unused ∨ (s.st sp).state = .service ∨ (s.st sp).state = .locked ∨ (s.st sp).state = .maint)
    (slot : Nat) : engineTick sp slot s = s := by
  obtain h | h | h | h := h <;> simp only [engineTick, h]

/-- A slot of a tick given before its span entered its state is recorded only (R146, log 4). -/
theorem slotTick_startsNext (h : (s.st sp).startsNext = true) :
    slotTick sp s = (s.recorded sp).setSt sp { s.st sp with startsNext := false } := by
  obtain ⟨-, e⟩ | ⟨g, -⟩ := slotTick_cases sp s
  · exact e
  · rw [h] at g; cases g

/-- Settles O6. -/
theorem tickRecordsExposureSlot : Obligations.TickRecordsExposureSlot := by
  refine ⟨fun levels s sp hr ho => ⟨_, exec_tick_one levels hr ho (slot_mem sp), ?_, ?_, fun hn hs => ?_⟩, fun levels s sp hr ho hn => ?_⟩
  · rw [runJob, slots_congr (slotTick_ring ..), recorded_slots_self]
    cases sp <;> rfl
  · rw [runJob, slots_congr (slotTick_ring ..), recorded_slots_other]
    rfl
  · rw [runJob, slotTick_recorded (s := (s.ticked levels).dropJob (.slot sp)) hn,
      engineTick_idle (s := ((s.ticked levels).dropJob (.slot sp)).recorded sp) hs]
    rfl
  · have taken : takeJobs s.fresh.owed s.fresh = slotTick sp (s.fresh.dropJob (.slot sp)) := by
      rw [show s.fresh.owed = [.slot sp] from ho, takeJobs_cons, takeJobs_nil, takeJob_of_mem (by rw [show s.fresh.owed = _ from ho]; simp)]
      rfl
    rw [slotTick_startsNext (s := s.fresh.dropJob (.slot sp)) hn] at taken
    simp only [exec, execTick, unlessReset_free hr, giveTick, taken]
    rfl

end Sys2Proof.Machine
end

section
/-! SUPPORT. The start test of a probe by its conditions, and the start of a probe. -/

namespace Sys2Proof.Machine

variable {s t : State} {sp : Span} {ch : Chan} {p : Pump} {levels : BitVec 8}

/-! ### The start test -/

theorem holdsStanding_eq_false {cs : List Event} :
    holdsStanding cs = false ↔ ∀ e ∈ cs, e ≠ .interlock ∧ e ≠ .supplyLow ∧ e ≠ .manualHold := by
  have out (e : Event) : ¬ e.standing = true ↔ e ≠ .interlock ∧ e ≠ .supplyLow ∧ e ≠ .manualHold := by cases e <;> decide
  simp only [holdsStanding, List.any_eq_false, out]

theorem launchReady_iff :
    launchReady sp s = true ↔ (∃ ch, (s.pump ch).launches sp = true ∧ (s.pump ch).state = .dark)
      ∧ ∀ ch, (s.pump ch).launches sp = true → (s.pump ch).state.isDark = true := by
  have rest (p : Pump) : (!p.launches sp || decide (p.state = .dark) || decide (p.state = .darkHold) || decide (p.state = .faulted)) = true
      ↔ (p.launches sp = true → p.state.isDark = true) := by
    cases p.launches sp <;> cases p.state <;> decide
  simp only [launchReady, Bool.and_eq_true, List.any_eq_true, List.all_eq_true, rest, mem_chans, true_and, true_implies,
    decide_eq_true_eq]

theorem farAgrees_iff :
    farAgrees sp s = true ↔ ((s.config sp).mode = .frame → (s.line sp).live = true ∧ ∃ w, (s.st sp).far = some w
      ∧ (w.state = .wait ∨ w.state = .probe ∨ w.state = .confirm ∨ w.state = .service)) := by
  unfold farAgrees State.farState
  cases (s.config sp).mode
  · cases (s.st sp).far <;> simp [or_assoc]
  · simp

/-- The start test by its six conditions (R40). -/
theorem startTest_iff :
    startTest sp s = true ↔ ((s.st sp).offExpired = true ∨ (s.st sp).callPending = true)
      ∧ (∀ e ∈ (s.st sp).causes, e ≠ .interlock ∧ e ≠ .supplyLow ∧ e ≠ .manualHold) ∧ s.part.run = true
      ∧ (∃ ch, (s.pump ch).launches sp = true ∧ (s.pump ch).state = .dark)
      ∧ (∀ ch, (s.pump ch).launches sp = true → (s.pump ch).state.isDark = true)
      ∧ ((s.config sp).mode = .frame → (s.line sp).live = true ∧ ∃ w, (s.st sp).far = some w
          ∧ (w.state = .wait ∨ w.state = .probe ∨ w.state = .confirm ∨ w.state = .service))
      ∧ s.projectedSum sp ≤ (s.config sp).limit := by
  simp only [startTest, Bool.and_eq_true, Bool.or_eq_true, Bool.not_eq_true', decide_eq_true_eq, holdsStanding_eq_false, launchReady_iff,
    farAgrees_iff, and_assoc]

/-- The projected sum with a tick's slot recorded (R39). -/
theorem recorded_projectedSum (sp : Span) (s : State) :
    (s.recorded sp).projectedSum sp
      = ((s.slotValue sp :: (s.slots sp).take 255).take ((s.config sp).window - 1)).sum
        + (s.config sp).duration * (s.config sp).ceiling := by
  rw [State.projectedSum, recorded_slots_self, State.recorded_config]

/-! ### PULSE where no record is owed -/

/-- No channel has a record of a tick to send. -/
def State.Unlinked (s : State) : Prop := ∀ ch, TickJob.link ch ∉ s.owed

theorem putPump_unlinked (h : s.Unlinked) (ch : Chan) (p : Pump) : (s.putPump ch p).Unlinked := by
  obtain e | e := putPump_spec s ch p <;> rw [e]
  · exact h
  · exact fun c hc => h c (mem_dropJob.mp hc).1

/-- PULSE taken by a channel with no record to send. -/
def pulseUnlinked (ch : Chan) (level length : Nat) (s : State) : State :=
  let p := s.pump ch
  if p.role = .launch ∧ s.part.run ∧ (s.st p.span).state = .probe ∧ p.state = .dark then s.putPump ch (p.takePulse level length) else s

theorem pulseChannel_unlinked (h : s.Unlinked) (ch : Chan) (level length : Nat) :
    pulseChannel ch level length s = pulseUnlinked ch level length s := by
  obtain ⟨g, -⟩ | ⟨-, e⟩ := takeLink_cases ch s
  · exact absurd g (h ch)
  · simp only [pulseChannel, e]; rfl

theorem pulseUnlinked_cases (ch : Chan) (level length : Nat) (s : State) :
    pulseUnlinked ch level length s = s.putPump ch ((s.pump ch).takePulse level length) ∨ pulseUnlinked ch level length s = s := by
  unfold pulseUnlinked
  dsimp only
  split
  · exact .inl rfl
  · exact .inr rfl

/-- Two kinds of work on the channels that agree wherever `P` holds, which the second keeps. -/
theorem forChans_congr {P : State → Prop} {f g : Chan → State → State} (hfg : ∀ ch t, P t → f ch t = g ch t)
    (hg : ∀ ch t, P t → P (g ch t)) (h : P s) : forChans f s = forChans g s := by
  have go : ∀ (l : List Chan) (t : State), P t → l.foldl (fun s ch => f ch s) t = l.foldl (fun s ch => g ch s) t := by
    intro l
    induction l with
    | nil => intro t _; rfl
    | cons a l ih =>
      intro t h
      rw [List.foldl_cons, List.foldl_cons, hfg a t h]
      exact ih _ (hg a t h)
  exact go _ s h

/-- PULSE to one channel of a span, where its record of the tick is not owed. -/
def pulseLaunch (sp : Span) (ch : Chan) (s : State) : State :=
  if (s.pump ch).launches sp ∧ (s.pump ch).state = .dark then pulseUnlinked ch (s.pump ch).probe (s.config sp).duration s else s

theorem pulseLaunch_cases (sp : Span) (ch : Chan) (s : State) :
    (∃ q, pulseLaunch sp ch s = s.putPump ch q) ∨ pulseLaunch sp ch s = s := by
  unfold pulseLaunch
  split
  · exact (pulseUnlinked_cases ..).imp (⟨_, ·⟩) id
  · exact .inr rfl

theorem pulseLaunch_frame (sp : Span) (ch : Chan) (s : State) : PumpFrame s (pulseLaunch sp ch s) := by
  obtain ⟨q, e⟩ | e := pulseLaunch_cases sp ch s <;> rw [e]
  · exact putPump_frame ..
  · exact .refl s

theorem pulseLaunch_out (sp : Span) (ch : Chan) (s : State) : (pulseLaunch sp ch s).out = s.out := by
  obtain ⟨q, e⟩ | e := pulseLaunch_cases sp ch s <;> rw [e]
  exact putPump_out ..

theorem pulseSpan_unlinked (h : s.Unlinked) (sp : Span) : pulseSpan sp s = forChans (pulseLaunch sp) s := by
  refine forChans_congr (P := State.Unlinked) (fun ch t h => ?_) (fun ch t h => ?_) h
  · rw [pulseChannel_unlinked h]; rfl
  · obtain ⟨q, e⟩ | e := pulseLaunch_cases sp ch t <;> rw [e]
    · exact putPump_unlinked h ch q
    · exact h

/-- PULSE to the LAUNCH pumps of a span sends nothing where no record is owed. -/
theorem pulseSpan_frame (h : s.Unlinked) (sp : Span) : PumpFrame s (pulseSpan sp s) ∧ (pulseSpan sp s).out = s.out := by
  rw [pulseSpan_unlinked h]
  exact ⟨forChans_frame (pulseLaunch_frame sp) s,
    forChans_inv (Q := fun s t => t.out = s.out) (fun _ => rfl) (fun h g => g.trans h) (pulseLaunch_out sp) s⟩

theorem launches_iff : p.launches sp = true ↔ p.role = .launch ∧ p.span = sp := by simp [Pump.launches]

/-- A span's LAUNCH pump in DARK takes PULSE at its probe setpoint while the span is in PROBE (R42, R85). -/
theorem pulseLaunch_pump (hr : s.part.run = true) (hs : (s.st sp).state = .probe) (c : Chan) :
    (pulseLaunch sp ch s).pump c
      = if c = ch then
          if (s.pump ch).launches sp = true ∧ (s.pump ch).state = .dark then
            (s.pump ch).takePulse (s.pump ch).probe (s.config sp).duration
          else s.pump ch
        else s.pump c := by
  unfold pulseLaunch
  split
  next g =>
    obtain ⟨hl, hd⟩ := g
    obtain ⟨role, span⟩ := launches_iff.mp hl
    unfold pulseUnlinked
    dsimp only
    rw [if_pos ⟨role, hr, span ▸ hs, hd⟩, putPump_pump]
  next =>
    split
    next e => rw [e]
    next => rfl

/-- PULSE to the LAUNCH pumps of a span in PROBE, channel by channel. -/
theorem pulseSpan_pump (h : s.Unlinked) (hr : s.part.run = true) (hs : (s.st sp).state = .probe) (c : Chan) :
    (pulseSpan sp s).pump c
      = if (s.pump c).launches sp = true ∧ (s.pump c).state = .dark then
          (s.pump c).takePulse (s.pump c).probe (s.config sp).duration
        else s.pump c := by
  rw [pulseSpan_unlinked h]
  refine forChans_pump (g := fun _ p =>
    if p.launches sp = true ∧ p.state = .dark then p.takePulse p.probe (s.config sp).duration else p) s
    (fun ch t _ => pulseLaunch_frame sp ch t) (fun ch t frame c => ?_) c
  rw [pulseLaunch_pump (by rw [frame.part, hr]) (by rw [frame.st, hs]), frame.config]

theorem takePulse_dark (h : p.state = .dark) (level length : Nat) :
    p.takePulse level length = { p with state := .pulsing, level := min level p.ceiling, pulseLen := some length, pulseCount := 0 } := by
  simp only [Pump.takePulse, h]

/-! ### The start of a probe -/

/-- The slot of a span in WAIT since before the tick. -/
theorem runJob_slot_wait (h : (s.st sp).startsNext = false) (hs : (s.st sp).state = .wait) :
    runJob (.slot sp) s = if startTest sp (s.recorded sp) = true then startProbe sp (s.recorded sp) else s.recorded sp := by
  rw [runJob, slotTick_recorded h, engineTick, State.recorded_st, hs]

theorem probing_eq {r : SpanStatus} (h : r.startsNext = false) (n : Nat) :
    r.probing n false
      = { r with
          state := .probe, tag := r.tag + 1, ticks := 0, callPending := false, offTicks := 0, offExpired := false
          probeLength := some n, overshootRaised := false, exposureRaised := false } := by
  simp [SpanStatus.probing, SpanStatus.enter, h]

/-- A probe starts with no tick owed to its span and no record to its channels. -/
theorem startProbe_spec (hl : s.Unlinked) (ho : s.owes (.slot sp) = false) (hr : s.part.run = true) :
    let y := (s.st sp).probing ((s.config sp).duration + (s.config sp).grace) false
    PumpFrame (shift sp y s) (startProbe sp s) ∧ (startProbe sp s).out = s.out
      ∧ ∀ c, (startProbe sp s).pump c
          = if (s.pump c).launches sp = true ∧ (s.pump c).state = .dark then
              (s.pump c).takePulse (s.pump c).probe (s.config sp).duration
            else s.pump c := by
  intro y
  have e : startProbe sp s = pulseSpan sp (shift sp y s) := by rw [startProbe_eq, ho]
  have state : ((shift sp y s).st sp).state = .probe := by rw [shift_st_self]; rfl
  have unlinked : (shift sp y s).Unlinked := hl
  obtain ⟨frame, out⟩ := pulseSpan_frame unlinked sp
  rw [e]
  exact ⟨frame, out, fun c => pulseSpan_pump unlinked hr state c⟩

/-- The slot of a tick, once recorded, has touched the owed ticks and the rings alone. -/
theorem slotRecorded_eq (sp : Span) (s : State) :
    let u := (s.fresh.dropJob (.slot sp)).recorded sp
    u = { s.fresh with owed := u.owed, ring := u.ring } := rfl

/-- Settles O19. -/
theorem probeStartsWhenConditionsHold : Obligations.ProbeStartsWhenConditionsHold := by
  intro s sp hr hs hn ring passes
  refine ⟨fun hj hl hp => ?_, fun levels ho hp => ?_⟩
  · have test : startTest sp ((s.fresh.dropJob (.slot sp)).recorded sp) = true := by
      rw [startTest_iff, recorded_projectedSum]
      exact hp
    have run : runJob (.slot sp) (s.fresh.dropJob (.slot sp)) = startProbe sp ((s.fresh.dropJob (.slot sp)).recorded sp) := by
      rw [runJob_slot_wait (s := s.fresh.dropJob (.slot sp)) hn hs, if_pos test]
    have unlinked : ((s.fresh.dropJob (.slot sp)).recorded sp).Unlinked := fun ch hc => hl ch (mem_dropJob.mp hc).1
    have taken : ((s.fresh.dropJob (.slot sp)).recorded sp).owes (.slot sp) = false := dropJob_owes s.fresh (.slot sp)
    have kept := slotRecorded_eq sp s
    generalize (s.fresh.dropJob (.slot sp)).recorded sp = u at run unlinked taken kept
    have same : u.st = s.st ∧ u.config = s.config ∧ u.pump = s.pump ∧ u.part = s.part := by rw [kept]; exact ⟨rfl, rfl, rfl, rfl⟩
    obtain ⟨hst, hconfig, hpump, hpart⟩ := same
    obtain ⟨-, -, hrun, -⟩ := hp
    have on : u.part.run = true := by rw [hpart]; exact hrun
    obtain ⟨frame, out, pump⟩ := startProbe_spec unlinked taken on
    rw [hst, hconfig, probing_eq hn] at frame
    rw [hpump, hconfig] at pump
    generalize startProbe sp u = t at run frame out pump
    have st := (frame.st sp).trans (shift_st_self ..)
    refine ⟨t, ?_, st, ?_, ?_, ?_, fun ch => ?_⟩
    · rw [exec, execProbeStart, unlessReset_free hr]
      refine congrArg _ (takeWhere_eq (s := s.fresh) hj run ?_)
      rw [probeStarts, show (s.fresh.st sp).state = .wait from hs, st]
      rfl
    · rw [frame.eq]
      refine (shift_spanEn ..).trans ?_
      rw [if_pos rfl, on]
      rfl
    · rw [frame.st, shift_st_other, hst]
    · rw [frame.eq, out, kept]; rfl
    · exact (pump ch).trans (if_ctx_congr .rfl (fun g => takePulse_dark g.2 _ _) fun _ => rfl)
  · have test : ¬ startTest sp (((s.ticked levels).dropJob (.slot sp)).recorded sp) = true := by
      rw [startTest_iff, recorded_projectedSum]
      exact hp
    rw [exec_tick_one levels hr ho (slot_mem sp), runJob_slot_wait (s := (s.ticked levels).dropJob (.slot sp)) hn hs, if_neg test]
    exact ⟨_, rfl, recorded_slots_self .., recorded_slots_other .., rfl⟩

end Sys2Proof.Machine
end

section
/-! SUPPORT. A tick in PROBE: the tests of the slot, the proof by light, and the expiry. -/

namespace Sys2Proof.Machine

variable {s t : State} {sp : Span} {slot n : Nat} {levels : BitVec 8}

/-! ### The tests of a slot -/

/-- A slot above the ceiling at a pulse tick, not yet reported for this probe (R44). -/
def State.overshoots (s : State) (sp : Span) (slot : Nat) : Bool :=
  decide (1 ≤ (s.st sp).ticks ∧ (s.st sp).ticks ≤ (s.config sp).duration ∧ (s.config sp).ceiling < slot
    ∧ (s.st sp).overshootRaised = false)

/-- A window sum above the limit, not yet reported for this probe (R45). -/
def State.overexposed (s : State) (sp : Span) : Bool :=
  decide ((s.config sp).limit < s.windowSum sp ∧ (s.st sp).exposureRaised = false)

/-- The marks and events of the two tests, PROBE_OVERSHOOT first (R43). -/
def State.reportProbe (s : State) (sp : Span) (high expo : Bool) : State :=
  { s.setSt sp
      { s.st sp with
        overshootRaised := (s.st sp).overshootRaised || high
        exposureRaised := (s.st sp).exposureRaised || expo } with
    raised := s.raised
      ++ ((if high then [⟨.engine sp, .probeOvershoot, .one sp, .none_, s.time.tickCount, false⟩] else [])
        ++ if expo then [⟨.engine sp, .exposure, .one sp, .none_, s.time.tickCount, false⟩] else []) }

theorem reportProbe_st (sp : Span) (high expo : Bool) (s : State) :
    (s.reportProbe sp high expo).st sp
      = { s.st sp with
          overshootRaised := (s.st sp).overshootRaised || high
          exposureRaised := (s.st sp).exposureRaised || expo } := State.setSt_st_self ..

theorem reportProbe_none (sp : Span) (s : State) : s.reportProbe sp false false = s := by
  simp only [State.reportProbe, Bool.or_false, Bool.false_eq_true, if_false, List.append_nil]
  exact State.setSt_self s sp

theorem reportProbe_reportProbe (sp : Span) (high expo : Bool) (s : State) :
    (s.reportProbe sp high false).reportProbe sp false expo = s.reportProbe sp high expo := by
  rw [State.reportProbe, reportProbe_st]
  simp only [State.reportProbe, Bool.or_false, Bool.false_eq_true, if_false, List.append_nil, List.nil_append, List.append_assoc]
  cases sp <;> rfl

theorem overshootTest_eq (sp : Span) (slot : Nat) (s : State) :
    overshootTest sp slot s = s.reportProbe sp (s.overshoots sp slot) false := by
  unfold overshootTest
  dsimp only
  split
  next h => rw [State.overshoots, decide_eq_true h]; simp [State.reportProbe, engineRaise, State.raise]
  next h => rw [State.overshoots, decide_eq_false h, reportProbe_none]

theorem exposureTest_eq (sp : Span) (s : State) : exposureTest sp s = s.reportProbe sp false (s.overexposed sp) := by
  unfold exposureTest
  dsimp only
  split
  next h => rw [State.overexposed, decide_eq_true h]; simp [State.reportProbe, engineRaise, State.raise]
  next h => rw [State.overexposed, decide_eq_false h, reportProbe_none]

/-- The two tests of a slot together. -/
theorem exposureTest_overshootTest (sp : Span) (slot : Nat) (s : State) :
    exposureTest sp (overshootTest sp slot s) = s.reportProbe sp (s.overshoots sp slot) (s.overexposed sp) := by
  have same : (s.reportProbe sp (s.overshoots sp slot) false).overexposed sp = s.overexposed sp := by
    rw [State.overexposed, reportProbe_st, Bool.or_false]; rfl
  rw [exposureTest_eq, overshootTest_eq, same, reportProbe_reportProbe]

/-! ### The hand-high to a span in PROBE -/

/-- Ticks in state takes a tick (R6). -/
def State.counted (s : State) (sp : Span) : State := s.setSt sp { s.st sp with ticks := min 65535 ((s.st sp).ticks + 1) }

theorem counted_st (sp : Span) (s : State) : (s.counted sp).st sp = { s.st sp with ticks := min 65535 ((s.st sp).ticks + 1) } :=
  State.setSt_st_self ..

/-- A slot counted and tested in PROBE, before proof and expiry (R43). -/
def State.probeTested (s : State) (sp : Span) (slot : Nat) : State :=
  (s.counted sp).reportProbe sp ((s.counted sp).overshoots sp slot) ((s.counted sp).overexposed sp)

theorem probeTested_st (sp : Span) (slot : Nat) (s : State) :
    (s.probeTested sp slot).st sp
      = { s.st sp with
          ticks := min 65535 ((s.st sp).ticks + 1)
          overshootRaised := (s.st sp).overshootRaised || (s.counted sp).overshoots sp slot
          exposureRaised := (s.st sp).exposureRaised || (s.counted sp).overexposed sp } := by
  rw [State.probeTested, reportProbe_st, counted_st]

theorem probeTested_st_other (sp : Span) (slot : Nat) (s : State) : (s.probeTested sp slot).st sp.other = s.st sp.other := by
  cases sp <;> rfl

/-- A tick in PROBE: proof by light first, then expiry at the probe's length (R43). -/
theorem probeTick_eq (hp : (s.st sp).probeLength = some n) :
    probeTick sp slot s =
      if (s.config sp).mode = .light ∧ (s.inp sp).light = .present then enterConfirm sp (s.probeTested sp slot)
      else if n ≤ min 65535 ((s.st sp).ticks + 1) then expireProbe sp (s.probeTested sp slot)
      else s.probeTested sp slot := by
  have tested : exposureTest sp (overshootTest sp slot (s.setSt sp { s.st sp with ticks := satSucc 65535 (s.st sp).ticks }))
      = s.probeTested sp slot := exposureTest_overshootTest sp slot (s.counted sp)
  have st := probeTested_st sp slot s
  have config : (s.probeTested sp slot).config sp = s.config sp := rfl
  have light : (s.probeTested sp slot).lightOf sp = (s.inp sp).light := rfl
  unfold probeTick
  dsimp only
  rw [tested]
  generalize s.probeTested sp slot = v at st config light ⊢
  simp only [config, light, st, hp]

/-! ### Expiry -/

/-- The failure count reaches a nonzero lockout limit as it rises (R52). -/
def State.locksOut (s : State) (sp : Span) : Bool :=
  decide ((s.config sp).lockout ≠ 0 ∧ (s.config sp).lockout ≤ min 15 ((s.st sp).failures + 1))

/-- A span's record as its probe fails (R51). -/
def SpanStatus.failed (r : SpanStatus) (locked : Bool) : SpanStatus :=
  { r with failures := min 15 (r.failures + 1) }.enter (if locked then .locked else .wait) false

/-- The events of a failed probe (R51, R16). -/
def failureEvents (sp : Span) (tick : BitVec 32) (locked : Bool) : List Raised :=
  [⟨.engine sp, .probeFailed, .one sp, .none_, tick, false⟩]
    ++ if locked then [⟨.engine sp, .lockout, .one sp, .none_, tick, false⟩] else []

theorem expireProbe_eq (sp : Span) (s : State) :
    expireProbe sp s =
      { shift sp ((s.st sp).failed (s.locksOut sp)) (snuffPulsing sp s) with
        raised := s.raised ++ failureEvents sp s.time.tickCount (s.locksOut sp) } := by
  have frame : PumpFrame s (snuffPulsing sp s) := snuffPulsing_frame sp s
  have st := frame.st sp
  have config := frame.config sp
  have raised : (snuffPulsing sp s).raised = s.raised := by rw [frame.eq]
  have time : (snuffPulsing sp s).time = s.time := by rw [frame.eq]
  unfold expireProbe
  dsimp only
  generalize snuffPulsing sp s = v at st config raised time ⊢
  have counted : satSucc 15 ((engineRaise sp .probeFailed .none_ v).st sp).failures = min 15 ((s.st sp).failures + 1) := by
    rw [engineRaise, State.raise_st, st]; rfl
  rw [counted, engineRaise, State.raise_st, State.setSt_config, State.raise_config, st, config, ← raised, ← time]
  split
  next h =>
    rw [enterLocked_eq, State.setSt_st_self, shift_setSt, State.locksOut, decide_eq_true h, failureEvents, ← List.append_assoc]
    rfl
  next h =>
    rw [enterWait_eq, State.setSt_st_self, shift_setSt, State.locksOut, decide_eq_false h]
    rfl

/-! ### The tick of a span in PROBE -/

/-- The slot of a span in PROBE since before the tick. -/
theorem runJob_slot_probe (h : (s.st sp).startsNext = false) (hs : (s.st sp).state = .probe) :
    runJob (.slot sp) s = probeTick sp (s.slotValue sp) (s.recorded sp) := by
  rw [runJob, slotTick_recorded h, engineTick, State.recorded_st, hs]

theorem probeTick_proved (h : (s.config sp).mode = .light ∧ (s.inp sp).light = .present) (hp : (s.st sp).probeLength = some n) :
    probeTick sp slot s = enterConfirm sp (s.probeTested sp slot) := by rw [probeTick_eq hp, if_pos h]

theorem probeTick_runs (h : ¬ ((s.config sp).mode = .light ∧ (s.inp sp).light = .present)) (hp : (s.st sp).probeLength = some n)
    (hn : min 65535 ((s.st sp).ticks + 1) < n) : probeTick sp slot s = s.probeTested sp slot := by
  rw [probeTick_eq hp, if_neg h, if_neg (by omega)]

theorem probeTick_expires (h : ¬ ((s.config sp).mode = .light ∧ (s.inp sp).light = .present)) (hp : (s.st sp).probeLength = some n)
    (hn : n ≤ min 65535 ((s.st sp).ticks + 1)) : probeTick sp slot s = expireProbe sp (s.probeTested sp slot) := by
  rw [probeTick_eq hp, if_neg h, if_pos hn]

/-- SNUFF to a channel in PULSING (R51, R87). -/
theorem takeSnuff_pulsing {p : Pump} (h : p.state = .pulsing) :
    p.takeSnuff.state = .darkHold ∧ p.takeSnuff.level = 0 ∧ p.takeSnuff.darkLeft = p.minDark := by
  simp only [Pump.takeSnuff, h]
  exact ⟨rfl, rfl, rfl⟩

theorem failed_state (r : SpanStatus) (locked : Bool) : (r.failed locked).state = if locked = true then .locked else .wait := rfl

/-- PROBE_EXPIRY, where the probe reaches its length without proof. -/
theorem exec_probeExpiry (hr : s.pins.resetLine = false) (hj : .slot sp ∈ s.owed) (hs : (s.st sp).state = .probe)
    (hn : (s.st sp).startsNext = false) (hp : (s.st sp).probeLength = some n) (hk : n ≤ min 65535 ((s.st sp).ticks + 1))
    (hm : ¬ ((s.config sp).mode = .light ∧ (s.inp sp).light = .present)) :
    exec (.probeExpiry sp) s
      = .next (expireProbe sp (((s.fresh.dropJob (.slot sp)).recorded sp).probeTested sp (s.slotValue sp))) := by
  have run := runJob_slot_probe (s := s.fresh.dropJob (.slot sp)) hn hs
  rw [probeTick_expires (s := (s.fresh.dropJob (.slot sp)).recorded sp) hm hp hk] at run
  rw [exec, execProbeExpiry, unlessReset_free hr, takeWhere_eq (s := s.fresh) hj run]
  · rfl
  · rw [probeFails, show (s.fresh.st sp).state = .probe from hs, expireProbe_eq]
    generalize State.locksOut _ sp = locked
    have st : ∀ (u : State) (l : List Raised) (y : SpanStatus), (({ shift sp y u with raised := l } : State).st sp) = y :=
      fun u l y => shift_st_self sp y u
    rw [st, failed_state]
    cases locked <;> rfl

/-- The slot of a tick, recorded, counted and tested, touches the owed ticks, the rings, the span records and the events alone. -/
theorem slotTested_eq (sp : Span) (s : State) :
    let v := ((s.fresh.dropJob (.slot sp)).recorded sp).probeTested sp (s.slotValue sp)
    v = { s.fresh with owed := v.owed, ring := v.ring, status := v.status, raised := v.raised } := rfl

/-- A probe's expiry: what it leaves of the span, the channels and the events (R51, R52). -/
theorem expireProbe_spec (sp : Span) (s : State) :
    (expireProbe sp s).st sp = (s.st sp).failed (s.locksOut sp) ∧ (expireProbe sp s).st sp.other = s.st sp.other
      ∧ (expireProbe sp s).pins.spanEn.get sp = false
      ∧ (∀ c, (expireProbe sp s).pump c
          = if (s.pump c).launches sp = true ∧ (s.pump c).state = .pulsing then (s.pump c).takeSnuff else s.pump c)
      ∧ { expireProbe sp s with
          status := s.status, pumps := s.pumps, pins := s.pins, owed := s.owed, raised := s.raised, out := s.out } = s
      ∧ failureEvents sp s.time.tickCount (s.locksOut sp) <:+ (expireProbe sp s).raised := by
  have frame : PumpFrame s (snuffPulsing sp s) := snuffPulsing_frame sp s
  have pump := snuffPulsing_pump sp s
  rw [expireProbe_eq]
  generalize snuffPulsing sp s = v at frame pump ⊢
  generalize s.locksOut sp = locked
  refine ⟨shift_st_self .., ?_, ?_, pump, ?_, List.suffix_append ..⟩
  · exact (shift_st_other ..).trans (frame.st _)
  · refine (shift_spanEn ..).trans ?_
    rw [if_pos rfl, failed_state]
    cases locked <;> exact Bool.and_false _
  · rw [frame.eq]; rfl

/-- Settles O21. -/
theorem probeExpiryCountsFailure : Obligations.ProbeExpiryCountsFailure := by
  refine ⟨?_, ?_⟩
  · intro s sp n hr hj hs hn hp hk hm count locks
    have run := exec_probeExpiry hr hj hs hn hp hk hm
    have st := probeTested_st sp (s.slotValue sp) ((s.fresh.dropJob (.slot sp)).recorded sp)
    have other := probeTested_st_other sp (s.slotValue sp) ((s.fresh.dropJob (.slot sp)).recorded sp)
    have kept := slotTested_eq sp s
    generalize ((s.fresh.dropJob (.slot sp)).recorded sp).probeTested sp (s.slotValue sp) = v at run st other kept
    have config : v.config = s.config := by rw [kept]; rfl
    have same : v.pump = s.pump := by rw [kept]; rfl
    have time : v.time = s.time := by rw [kept]; rfl
    obtain ⟨after, afterOther, line, pump, frame, raised⟩ := expireProbe_spec sp v
    have locksOut : v.locksOut sp = decide locks := by rw [State.locksOut, st, config]; rfl
    rw [locksOut] at after raised
    rw [st] at after
    rw [time] at raised
    rw [same] at pump
    refine ⟨_, run, ?_, ?_, ?_, ?_, ?_, line, fun ch hl hd => ?_, fun ch h => ?_, afterOther.trans other, ?_, ?_⟩
    · rw [after, failed_state]; simp only [decide_eq_true_eq]
    · rw [after]; rfl
    · rw [after]; rfl
    · rw [after]; rfl
    · rw [after]; rfl
    · rw [pump, if_pos ⟨hl, hd⟩]; exact takeSnuff_pulsing hd
    · rw [pump, if_neg h]
    · generalize expireProbe sp v = t at frame ⊢
      rw [kept] at frame
      exact congrArg (fun u : State => { u with
        ring := s.ring, status := s.status, pumps := s.pumps, pins := s.pins, owed := s.owed, raised := s.raised, out := [] }) frame
    · simpa only [failureEvents, decide_eq_true_eq] using raised
  · intro s sp n levels hr ho hrun hs hn hp slot ring k tooHigh expo proved events
    set u := ((s.ticked levels).dropJob (.slot sp)).recorded sp
    have run : exec (.tick levels [.slot sp]) s = .next (probeTick sp slot u) := by
      rw [exec_tick_one levels hr ho (slot_mem sp), runJob_slot_probe (s := (s.ticked levels).dropJob (.slot sp)) hn hs]
      rfl
    have high : (u.counted sp).overshoots sp slot = decide tooHigh := by rw [State.overshoots, counted_st]; rfl
    have exposed : (u.counted sp).overexposed sp = decide expo := by
      have sum : (u.counted sp).windowSum sp = (ring.take (s.config sp).window).sum := by
        rw [State.windowSum, State.counted, State.setSt_slots, recorded_slots_self]; rfl
      rw [State.overexposed, counted_st, sum]; rfl
    have st : (u.probeTested sp slot).st sp = { s.st sp with
        ticks := k, overshootRaised := (s.st sp).overshootRaised || decide tooHigh
        exposureRaised := (s.st sp).exposureRaised || decide expo } := by
      rw [probeTested_st, high, exposed]; rfl
    have raised : (u.probeTested sp slot).raised = s.raised ++ events := by
      rw [State.probeTested, high, exposed, State.reportProbe]
      simp only [decide_eq_true_eq]
      rfl
    refine ⟨fun hm hk => ?_, fun hm => ?_⟩
    · rw [run, probeTick_runs (s := u) hm hp hk]
      exact ⟨_, rfl, recorded_slots_self .., recorded_slots_other .., st, probeTested_st_other .., raised, rfl⟩
    · rw [run, probeTick_proved (s := u) hm hp]
      obtain ⟨state, ticks⟩ := enterConfirm_state sp (u.probeTested sp slot)
      have frame := enterConfirm_frame sp (u.probeTested sp slot)
      refine ⟨_, rfl, ?_, state, ticks, ?_, ?_, ?_, ?_⟩
      · rw [slots_congr (enterConfirm_ring ..)]; exact recorded_slots_self ..
      · rw [enterConfirm_spanEn]; exact hrun
      · rw [enterConfirm_st_other, probeTested_st_other]; rfl
      · rw [← raised]; exact enterConfirm_raised ..
      · exact congrArg (fun u : State => { u with
          ring := s.ring, status := s.status, pumps := s.pumps, raised := s.raised, time := s.time, pins := s.pins, owed := s.owed }) frame

end Sys2Proof.Machine
end

section
/-! SUPPORT. A sample of any channel: what it does to the channel's record, and a sample of a reflection channel. -/

namespace Sys2Proof.Machine

variable {s : State} {sp : Span} {ch : Chan} {b0 b1 b2 : Byte}

/-! ### Conversion -/

theorem convert_eq (code offset gain : Nat) : convert code offset gain = (if offset < code then code - offset else 0) * gain / 256 := by
  unfold convert
  split
  · rfl
  next h => rw [Nat.sub_eq_zero_of_le (not_lt.mp h)]

/-! ### A sample of any channel -/

/-- The record of a channel once a sample of a code is taken (R65). -/
def MonChan.sampled (c : MonChan) (code : Nat) : MonChan :=
  { c with latest := convert code c.offset c.gain, fresh := 0, stale := false }

theorem takeSample_eq (ch : Chan) (code : Nat) (s : State) :
    takeSample ch code s =
      match Config.monRole ch with
      | .input sp => inputSample sp ((s.chan ch).sampled code).latest (s.setChan ch ((s.chan ch).sampled code))
      | .launch _ => s.setChan ch ((s.chan ch).sampled code)
      | .reflection sp => reflectionSample sp ((s.chan ch).sampled code).latest (s.setChan ch ((s.chan ch).sampled code)) := rfl

theorem inputSample_mon (sp : Span) (power : Nat) (s : State) : (inputSample sp power s).mon = s.mon := by
  rw [inputSample, advanceLight, lightChanged_mon, State.setInp_mon]

theorem reflectionSample_mon (sp : Span) (power : Nat) (s : State) : (reflectionSample sp power s).mon = s.mon := by
  unfold reflectionSample
  dsimp only
  split_ifs <;> rfl

/-- Whatever the channel's role does with its sample, the records of the channels are those the sample leaves. -/
theorem takeSample_mon (ch : Chan) (code : Nat) (s : State) :
    (takeSample ch code s).mon = (s.setChan ch ((s.chan ch).sampled code)).mon := by
  rw [takeSample_eq]
  split
  · exact inputSample_mon ..
  · rfl
  · exact reflectionSample_mon ..

theorem takeSample_chan (ch m : Chan) (code : Nat) (s : State) :
    (takeSample ch code s).chan m = if m = ch then (s.chan ch).sampled code else s.chan m := by
  rw [← State.setChan_chan, State.chan, takeSample_mon]
  rfl

theorem exec_sampleWord (hr : s.pins.resetLine = false) (hb : b0.toNat % 8 = ch.val) :
    exec (.sampleWord b0 b1 b2) s = .next (takeSample ch (b1.toNat * 256 + b2.toNat) s.fresh) := by
  rw [exec, execSampleWord, unlessReset_free hr, sampleChan_eq hb, sampleCode_eq]

theorem monRole_launch (h : ch = 1 ∨ ch = 3 ∨ ch = 5 ∨ ch = 7) : ∃ sp, Config.monRole ch = .launch sp := by
  rcases h with rfl | rfl | rfl | rfl <;> exact ⟨_, rfl⟩

/-- Settles O28. -/
theorem sampleConvertedExactly : Obligations.SampleConvertedExactly := by
  refine ⟨fun s b0 b1 b2 ch hr hb => ?_, fun _ _ _ => convert_le, rfl⟩
  intro code net taken
  have run : exec (.sampleWord b0 b1 b2) s = .next (takeSample ch code s.fresh) := exec_sampleWord hr hb
  have record : (s.chan ch).sampled code = taken := by rw [MonChan.sampled, convert_eq]
  refine ⟨⟨_, run, ?_, fun m hm => ?_⟩, fun launch => ?_⟩
  · rw [takeSample_chan, if_pos rfl]; exact record
  · rw [takeSample_chan, if_neg hm]; rfl
  · obtain ⟨sp, role⟩ := monRole_launch launch
    rw [run, takeSample_eq, ← record]
    simp only [role]
    rfl

/-! ### A sample of a reflection channel -/

theorem monRole_reflection (sp : Span) : Config.monRole (Config.reflChan sp) = .reflection sp := by cases sp <;> rfl

theorem reflChan_eq (sp : Span) : Config.reflChan sp = if sp = .ws then 6 else 2 := by cases sp <;> rfl

theorem outChan_eq (sp : Span) : Config.outChan sp = if sp = .ws then 5 else 1 := by cases sp <;> rfl

/-- The test of R74 and R75, by whether the sample counts toward the alarm. -/
theorem reflectionSample_eq {power : Nat} {counts : Prop} [Decidable counts]
    (hc : (s.reflection sp).floor ≤ power ∧ (s.chan (Config.outChan sp)).value * (s.reflection sp).kRef < power * 1000 ↔ counts) :
    reflectionSample sp power s =
      { s.setReflection sp
          { s.reflection sp with
            run := if counts ∧ (s.reflection sp).nRef ≤ (s.reflection sp).run + 1 then 0
              else if counts then (s.reflection sp).run + 1 else 0 } with
        raised := if counts ∧ (s.reflection sp).nRef ≤ (s.reflection sp).run + 1 then
            s.raised ++ [⟨.monitorUnit, .reflect, .one sp, .monitor (Config.reflChan sp), s.time.tickCount, false⟩]
          else s.raised } := by
  simp only [reflectionSample, hc]
  by_cases counted : counts
  · by_cases reached : (s.reflection sp).nRef ≤ (s.reflection sp).run + 1
    · simp [counted, reached, State.raise]
    · simp [counted, reached, State.setReflection]
  · simp [counted, State.setReflection]

/-- Settles O30. -/
theorem reflectionRunRaisesReflect : Obligations.ReflectionRunRaisesReflect := by
  intro s b0 b1 b2 sp hr hb _ ch outCh ref out c counts alarm
  have hch : Config.reflChan sp = ch := reflChan_eq sp
  have hout : Config.outChan sp = outCh := outChan_eq sp
  have role : Config.monRole ch = .reflection sp := by rw [← hch]; exact monRole_reflection sp
  have run : exec (.sampleWord b0 b1 b2) s = .next (takeSample ch (b1.toNat * 256 + b2.toNat) s.fresh) := by
    refine exec_sampleWord hr (hb.trans ?_)
    simp only [ch]; split <;> rfl
  have other : outCh ≠ ch := by simp only [outCh, ch]; split <;> decide
  generalize hv : s.fresh.setChan ch { s.chan ch with latest := ref, fresh := 0, stale := false } = v
  have reflection : v.reflection sp = c := by rw [← hv]; rfl
  have value : (v.chan outCh).value = out := by
    rw [← hv, State.setChan_chan, if_neg other]; rfl
  have counted : (v.reflection sp).floor ≤ ref ∧ (v.chan (Config.outChan sp)).value * (v.reflection sp).kRef < ref * 1000 ↔ counts := by
    rw [reflection, hout, value]
  have taken : takeSample ch (b1.toNat * 256 + b2.toNat) s.fresh = reflectionSample sp ref v := by
    rw [takeSample_eq, ← hv]
    simp only [role]
    rfl
  rw [run, taken, reflectionSample_eq counted, reflection, hch, ← hv]
  rfl

end Sys2Proof.Machine
end

section
/-! SUPPORT. WRITE_MONITOR of the thresholds of an input, and WRITE_EVENT of an entry. -/

namespace Sys2Proof.Machine

variable {s : State} {sp : Span} {ch : Chan} {r : Req} {b : Byte} {bytes : List Byte} {items : List Item} {e : Event}

/-! ### Items and values -/

theorem beNat_one (b : Byte) : beNat [b] = b.toNat := by simp [beNat]

theorem beNat_three (b2 b1 b0 : Byte) : beNat [b2, b1, b0] = b2.toNat * 65536 + b1.toNat * 256 + b0.toNat := by
  simp only [beNat, List.foldl_cons, List.foldl_nil]
  omega

theorem inRanges_cons {ranges : List (Nat × Nat)} {code lo hi : Nat} (h : ranges[code - 1]? = some (lo, hi)) :
    inRanges ranges ((code, bytes) :: items) = true ↔ (lo ≤ beNat bytes ∧ beNat bytes ≤ hi) ∧ inRanges ranges items = true := by
  simp [inRanges, h]

theorem codeBytes_append (l m : List Nat) : codeBytes (l ++ m) = codeBytes l ++ codeBytes m := List.map_append

theorem codeBytes_ite (c : Prop) [Decidable c] (n : Nat) : codeBytes (if c then [] else [n]) = if c then [] else [BitVec.ofNat 8 n] :=
  apply_ite codeBytes ..

/-! ### WRITE_MONITOR -/

theorem exec_writeMonitor (h : s.pins.resetLine = false) (r : Req) :
    exec (.writeMonitor r) s = .next (sendReply Config.kindWriteMonitor r (writeMonitor r s.fresh)) := by
  rw [exec, execWriteMonitor, unlessReset_free h]

/-- A write with every right goes to the Monitor Unit whole. -/
theorem writeMonitor_items (hb : r.body = b :: bytes) (hc : s.classUsed r = 0) (ht : b.toNat ≤ 7)
    (hi : readItems (widthsOf monitorWidths) bytes = some items) : writeMonitor r s = ownerWriteMonitor (chanOf b.toNat) items s := by
  simp [writeMonitor, hb, hi, if_neg (not_lt.mpr ht), lacksSafe_zero hc]

/-- A write with an item that the channel's role does not have is refused (R60, R61). -/
theorem ownerWriteMonitor_foreign {it : Item} (hm : it ∈ items) (hr : it.1 ∉ roleCodes (Config.monRole ch)) :
    ownerWriteMonitor ch items s = refuse .range s := by
  have foreign : (items.all fun it => (roleCodes (Config.monRole ch)).contains it.1) = false :=
    List.all_eq_false.mpr ⟨it, hm, by simpa using hr⟩
  exact if_pos (.inr (.inl foreign))

theorem foreign_of_not_input (h0 : ch ≠ 0) (h4 : ch ≠ 4) : 5 ∉ roleCodes (Config.monRole ch) ∧ 6 ∉ roleCodes (Config.monRole ch) := by
  revert h0 h4
  revert ch
  decide

section Thresholds

variable (hi : ∀ it ∈ items, it.1 = 5 ∨ it.1 = 6)
include hi

/-- A write of thresholds carries no other field. -/
theorem written_of_thresholds {α : Type} {code : Nat} (h5 : code ≠ 5) (h6 : code ≠ 6) (read : Nat → α) (old : α) :
    written items code read old = old := by
  refine written_of_not_carries ?_ read old
  simp only [carries, List.any_eq_false, beq_iff_eq]
  rintro it hit rfl
  exact (hi it hit).elim h5 h6

theorem inputChan_write_thresholds (c : InputChan) :
    c.write items = { c with lo := written items 5 id c.lo, hi := written items 6 id c.hi } := by
  simp [InputChan.write, written_of_thresholds hi]

theorem monChan_write_thresholds (c : MonChan) : c.write items = c := by
  simp [MonChan.write, written_of_thresholds hi]

/-- A write of thresholds of an input is stored where they are in range and in order, and refused where they are not (R61). -/
theorem ownerWriteMonitor_thresholds (sp : Span) (s : State) :
    ownerWriteMonitor (Config.inputChan sp) items s =
      if inRanges monitorRanges items = true ∧ ((s.inp sp).write items).lo ≤ ((s.inp sp).write items).hi then
        doneWith (s.setInp sp ((s.inp sp).write items))
      else refuse .range s := by
  have own : (items.all fun it => (roleCodes (Config.monRole (Config.inputChan sp))).contains it.1) = true := by
    rw [monRole_input, List.all_eq_true]
    intro it hit
    obtain e | e := hi it hit <;> rw [e] <;> rfl
  have order : thresholdsBad (Config.inputChan sp) items s = false ↔ ((s.inp sp).write items).lo ≤ ((s.inp sp).write items).hi := by
    simp [thresholdsBad, monRole_input]
  unfold ownerWriteMonitor
  by_cases hr : inRanges monitorRanges items = true ∧ ((s.inp sp).write items).lo ≤ ((s.inp sp).write items).hi
  · have taken : ¬ (inRanges monitorRanges items = false
        ∨ (items.all fun it => (roleCodes (Config.monRole (Config.inputChan sp))).contains it.1) = false
        ∨ thresholdsBad (Config.inputChan sp) items s = true) := by
      rw [own, hr.1, order.mpr hr.2]; decide
    rw [if_pos hr, if_neg taken]
    simp only [monRole_input, monChan_write_thresholds hi, State.setChan_self]
  · rw [if_neg hr, if_pos]
    rw [← order, not_and_or, Bool.not_eq_true, Bool.not_eq_false] at hr
    exact hr.imp id .inr

end Thresholds

/-- The byte that names the input channel of a span (R194). -/
def inputByte (sp : Span) : Byte := if sp = .ws then 0 else 4

theorem inputByte_le (sp : Span) : (inputByte sp).toNat ≤ 7 := by cases sp <;> decide

theorem chanOf_inputByte (sp : Span) : chanOf (inputByte sp).toNat = Config.inputChan sp := by cases sp <;> rfl

/-- The answer to a write of thresholds, by the record it makes and the condition under which it is taken (R61, R172). -/
theorem exec_writeThresholds {c : InputChan} {taken : Prop} [Decidable taken] (hr : s.pins.resetLine = false) (hc : s.classUsed r = 0)
    (hb : r.body = inputByte sp :: bytes) (hi : readItems (widthsOf monitorWidths) bytes = some items)
    (ht : ∀ it ∈ items, it.1 = 5 ∨ it.1 = 6) (hw : (s.inp sp).write items = c)
    (htaken : inRanges monitorRanges items = true ∧ c.lo ≤ c.hi ↔ taken) :
    exec (.writeMonitor r) s =
      if taken then .next ((s.fresh.setInp sp c).replied r 6 0 []) else .next (s.fresh.replied r 6 5 []) := by
  have hw' : (s.fresh.inp sp).write items = c := hw
  rw [exec_writeMonitor hr, writeMonitor_items (s := s.fresh) hb hc (inputByte_le sp) hi, chanOf_inputByte,
    ownerWriteMonitor_thresholds ht, hw', if_congr htaken rfl rfl]
  split
  · exact congrArg _ (sendReply_replied ..)
  · exact congrArg _ (sendReply_replied ..)

/-- A threshold for a channel that is no input is refused (R61). -/
theorem exec_writeThreshold_foreign {code : Byte} (hr : s.pins.resetLine = false) (hc : s.classUsed r = 0) (h0 : ch ≠ 0) (h4 : ch ≠ 4)
    (hcode : code = 5 ∨ code = 6) (hb : r.body = BitVec.ofNat 8 ch.val :: code :: bytes) (hl : bytes.length = 3) :
    exec (.writeMonitor r) s = .next (s.fresh.replied r 6 5 []) := by
  have width : widthsOf monitorWidths code.toNat bytes = some bytes.length := by
    rw [hl]; obtain rfl | rfl := hcode <;> rfl
  have target : (BitVec.ofNat 8 ch.val).toNat = ch.val := by
    rw [BitVec.toNat_ofNat]; omega
  obtain ⟨no5, no6⟩ := foreign_of_not_input h0 h4
  have foreign : code.toNat ∉ roleCodes (Config.monRole ch) := by
    obtain rfl | rfl := hcode
    · exact no5
    · exact no6
  rw [exec_writeMonitor hr, writeMonitor_items (s := s.fresh) hb hc (by rw [target]; exact chan_le ch) (readItems_one width), target,
    chanOf_val, ownerWriteMonitor_foreign (List.mem_singleton_self _) foreign]
  exact congrArg _ (sendReply_replied ..)

/-! ### WRITE_EVENT -/

theorem exec_writeEvent (h : s.pins.resetLine = false) (r : Req) :
    exec (.writeEvent r) s = .next (sendReply Config.kindWriteEvent r (writeEvent r s.fresh)) := by
  rw [exec, execWriteEvent, unlessReset_free h]

/-- A write with every right that carries the identifier its items need goes to the Event Unit whole, if the identifier is in range. -/
theorem writeEvent_items (hi : readItems (widthsOf eventWidths) r.body = some items) (hc : s.classUsed r = 0)
    (hn : carries items 1 = true ∨ (carries items 2 = false ∧ carries items 3 = false)) :
    writeEvent r s = if 20 < (itemVal items 1).getD 0 then refuse .range s else ownerWriteEvent items s := by
  have named : ¬ (carries items 1 = false ∧ (carries items 2 = true ∨ carries items 3 = true)) := by
    rintro ⟨h1, h⟩
    obtain h1' | ⟨h2, h3⟩ := hn
    · simp [h1] at h1'
    · simp [h2, h3] at h
  simp only [writeEvent, hi, if_neg named, lacksSafe_zero hc, Bool.false_eq_true, if_false]

/-- A value outside its list is refused, whatever else is carried (R153). -/
theorem exec_writeEvent_range (hr : s.pins.resetLine = false) (hc : s.classUsed r = 0)
    (hi : readItems (widthsOf eventWidths) r.body = some items)
    (hn : carries items 1 = true ∨ (carries items 2 = false ∧ carries items 3 = false))
    (hv : 20 < (itemVal items 1).getD 0 ∨ inRanges eventRanges items = false) :
    exec (.writeEvent r) s = .next (s.fresh.replied r 7 5 []) := by
  have refused : writeEvent r s.fresh = refuse .range s.fresh := by
    rw [writeEvent_items (s := s.fresh) hi hc hn]
    split
    · rfl
    next hl => exact if_pos (hv.resolve_left hl)
  rw [exec_writeEvent hr, refused]
  exact congrArg _ (sendReply_replied ..)

theorem action_code_ofCode {n : Nat} (h : n ≤ 3) : (Action.ofCode n).code = n := by
  interval_cases n <;> rfl

theorem forced_eq (e : Event) : e.forced = decide (e = .darkFail ∨ e = .lockout) := by cases e <;> rfl

theorem event_all_id (e : Event) : Event.all[e.id]? = some e := by cases e <;> rfl

theorem event_id_le (e : Event) : e.id ≤ 20 := by cases e <;> decide

theorem event_id_byte (e : Event) : beNat [BitVec.ofNat 8 e.id] = e.id := by cases e <;> rfl

/-- Every entry of the event table after a write of one (R153). -/
theorem ownerWriteEntry_entry_at {i : Nat} (hi : i < 32) (e : Event) (items : List Item) (s : State) :
    (ownerWriteEntry e items s).entry i = if i = e.id then (s.entry i).write e items else s.entry i := by
  have len : s.table.toList.length = 32 := by simp
  simp only [ownerWriteEntry, State.entry, Vector.toList_mk, List.getD_eq_getElem?_getD, List.getElem?_set, len, event_id_lt, if_true]
  by_cases h : i = e.id
  · subst h; simp [EvEntry.write]
  · rw [if_neg (Ne.symm h), if_neg h]

/-- A write with an identifier and without a table length stores its event's entry (R153). -/
theorem ownerWriteEvent_entry (hv : inRanges eventRanges items = true) (he : itemVal items 1 = some e.id) (h4 : carries items 4 = false)
    (s : State) :
    ownerWriteEvent items s =
      ⟨ownerWriteEntry e items s, if adjustedEvent e items = [] then .done else .adjusted, codeBytes (adjustedEvent e items), false⟩ := by
  have len : written items 4 id s.tableLen = s.tableLen := written_of_not_carries h4 ..
  have same : ({ ownerWriteEntry e items s with tableLen := s.tableLen } : State) = ownerWriteEntry e items s := rfl
  simp only [ownerWriteEvent, hv, he, Option.bind_some, event_all_id, len, same, Bool.true_eq_false, if_false]
  by_cases h : adjustedEvent e items = []
  · simp [applied, h, doneWith, codeBytes]
  · simp [applied, h]

/-- The answer to a write with an identifier, by what it makes of the entry and the values it names (R153, R172). -/
theorem exec_writeEvent_entry {entry : EvEntry → EvEntry} {named : List Byte} (hr : s.pins.resetLine = false) (hc : s.classUsed r = 0)
    (hi : readItems (widthsOf eventWidths) r.body = some ((1, [BitVec.ofNat 8 e.id]) :: items)) (h4 : carries items 4 = false)
    (hv : inRanges eventRanges items = true) (he : ∀ x : EvEntry, x.write e ((1, [BitVec.ofNat 8 e.id]) :: items) = entry x)
    (hn : codeBytes (adjustedEvent e ((1, [BitVec.ofNat 8 e.id]) :: items)) = named) :
    ∃ t, exec (.writeEvent r) s = .next t ∧ { t with table := s.table } = s.fresh.replied r 7 (if named = [] then 0 else 1) named
      ∧ ∀ i, i < 32 → t.entry i = if i = e.id then entry (s.entry i) else s.entry i := by
  have id_eq : itemVal ((1, [BitVec.ofNat 8 e.id]) :: items) 1 = some e.id := congrArg some (event_id_byte e)
  have range : inRanges eventRanges ((1, [BitVec.ofNat 8 e.id]) :: items) = true := by
    rw [inRanges_cons rfl, event_id_byte]
    exact ⟨⟨Nat.zero_le _, event_id_le e⟩, hv⟩
  have low : ¬ 20 < (itemVal ((1, [BitVec.ofNat 8 e.id]) :: items) 1).getD 0 := by
    rw [id_eq]; exact not_lt.mpr (event_id_le e)
  have identified : carries ((1, [BitVec.ofNat 8 e.id]) :: items) 1 = true := rfl
  have absent : carries ((1, [BitVec.ofNat 8 e.id]) :: items) 4 = false := h4
  generalize (1, [BitVec.ofNat 8 e.id]) :: items = all at hi he hn id_eq range low identified absent
  have code : BitVec.ofNat 8 (if adjustedEvent e all = [] then Reply.done else .adjusted).code = if named = [] then (0 : Byte) else 1 := by
    rw [← hn]
    cases adjustedEvent e all <;> rfl
  rw [exec_writeEvent hr, writeEvent_items (s := s.fresh) hi hc (.inl identified), if_neg low, ownerWriteEvent_entry range id_eq absent,
    sendReply_replied, code, hn]
  refine ⟨_, rfl, ?_, fun i hlt => ?_⟩
  · rw [replied_eq, replied_eq]
    cases r.port <;> rfl
  · rw [replied_eq, State.entry, State.setBase_table, ← he]
    exact ownerWriteEntry_entry_at hlt e all s.fresh

/-! ### The statement -/

theorem storedAction_ofCode {n : Nat} (h : n ≤ 3) (e : Event) :
    storedAction e (Action.ofCode n) = if e.fixed = true ∨ n < e.floor.code then e.floor else Action.ofCode n := by
  rw [storedAction, action_code_ofCode h]

theorem storedNotify_byte (e : Event) (n : Byte) :
    storedNotify e (decide (n.toNat = 1)) = decide (n = 1 ∨ e = .darkFail ∨ e = .lockout) := by
  rw [storedNotify, decide_toNat_one, forced_eq, Bool.decide_or, Bool.decide_or, Bool.decide_or]

/-- Settles O40. -/
theorem monitorAndEventTablesWritten : Obligations.MonitorAndEventTablesWritten := by
  intro s r hr hc refused
  refine ⟨fun sp b2 b1 b0 => ?_, fun ch code b2 b1 b0 h0 h4 hcode hb => exec_writeThreshold_foreign hr hc h0 h4 hcode hb rfl,
    fun e a n ha hn => ?_, fun i a n hv hb => ?_, fun v hv hb => ?_⟩
  · intro ch v stored
    have hv : beNat [b2, b1, b0] = v := beNat_three ..
    refine ⟨fun hb hi => ?_, fun hb => ?_, fun c2 c1 c0 => ?_⟩
    · have write : (s.inp sp).write [(5, [b2, b1, b0])] = { s.inp sp with lo := v } := by
        simp [InputChan.write, written_one_self, written_one_other, hv]
      refine exec_writeThresholds (items := [(5, [b2, b1, b0])]) hr hc hb rfl (by simp) write ?_
      rw [inRanges_one rfl, hv]
      exact ⟨fun h => h.2, fun h => ⟨⟨Nat.zero_le _, h.trans hi⟩, h⟩⟩
    · have write : (s.inp sp).write [(6, [b2, b1, b0])] = { s.inp sp with hi := v } := by
        simp [InputChan.write, written_one_self, written_one_other, hv]
      refine exec_writeThresholds (items := [(6, [b2, b1, b0])]) hr hc hb rfl (by simp) write ?_
      rw [inRanges_one rfl, hv]
      exact ⟨fun ⟨⟨_, top⟩, order⟩ => ⟨order, top⟩, fun ⟨order, top⟩ => ⟨⟨Nat.zero_le _, top⟩, order⟩⟩
    · intro u hb
      have hu : beNat [c2, c1, c0] = u := beNat_three ..
      have write : (s.inp sp).write [(5, [b2, b1, b0]), (6, [c2, c1, c0])] = { s.inp sp with lo := v, hi := u } := by
        simp [InputChan.write, written, itemVal, hv, hu]
      refine exec_writeThresholds (items := [(5, [b2, b1, b0]), (6, [c2, c1, c0])]) hr hc hb rfl (by simp) write ?_
      rw [inRanges_cons rfl, inRanges_one rfl, hv, hu]
      exact ⟨fun ⟨⟨_, _, top⟩, order⟩ => ⟨order, top⟩,
        fun ⟨order, top⟩ => ⟨⟨⟨Nat.zero_le _, order.trans top⟩, Nat.zero_le _, top⟩, order⟩⟩
  · intro action notify action' notify' wrote
    have action_eq : storedAction e (Action.ofCode a.toNat) = action := storedAction_ofCode ha e
    have notify_eq : storedNotify e (decide (n.toNat = 1)) = notify := storedNotify_byte e n
    have named : notify' = if notify = decide (n.toNat = 1) then [] else [3] := by rw [decide_toNat_one]
    have action_range : 0 ≤ beNat [a] ∧ beNat [a] ≤ 3 := ⟨Nat.zero_le _, (beNat_one a).trans_le ha⟩
    have notify_range : 0 ≤ beNat [n] ∧ beNat [n] ≤ 1 := ⟨Nat.zero_le _, (beNat_one n).trans_le hn⟩
    refine ⟨fun hb => exec_writeEvent_entry (entry := fun x => ⟨action, x.notify⟩) (items := [(2, [a])]) hr hc (by rw [hb]; rfl) rfl ?_
        (fun x => ?_) ?_,
      fun hb => exec_writeEvent_entry (entry := fun x => ⟨x.action, notify⟩) (items := [(3, [n])]) hr hc (by rw [hb]; rfl) rfl ?_
        (fun x => ?_) ?_,
      fun hb => exec_writeEvent_entry (entry := fun _ => ⟨action, notify⟩) (items := [(2, [a]), (3, [n])]) hr hc (by rw [hb]; rfl) rfl ?_
        (fun x => ?_) ?_⟩
    · exact (inRanges_one rfl).mpr action_range
    · simp [EvEntry.write, written, itemVal, beNat_one, action_eq]
    · simp [adjustedEvent, itemVal, beNat_one, action_eq, codeBytes_ite, action']
    · exact (inRanges_one rfl).mpr notify_range
    · simp [EvEntry.write, written, itemVal, beNat_one, notify_eq]
    · simp [adjustedEvent, itemVal, beNat_one, notify_eq, codeBytes_ite, named]
    · exact (inRanges_cons rfl).mpr ⟨action_range, (inRanges_one rfl).mpr notify_range⟩
    · simp [EvEntry.write, written, itemVal, beNat_one, action_eq, notify_eq]
    · simp [adjustedEvent, itemVal, beNat_one, action_eq, notify_eq, codeBytes_append, codeBytes_ite, action', named]
  · refine exec_writeEvent_range (items := [(1, [i]), (2, [a]), (3, [n])]) hr hc (by rw [hb]; rfl) (.inl rfl) (.inr ?_)
    rw [← Bool.not_eq_true, inRanges_cons rfl, inRanges_cons rfl, inRanges_one rfl, beNat_one, beNat_one, beNat_one]
    omega
  · refine exec_writeEvent_range (items := [(4, [v])]) hr hc (by rw [hb]; rfl) (.inr ⟨rfl, rfl⟩) (.inr ?_)
    rw [← Bool.not_eq_true, inRanges_one rfl, beNat_one]
    omega

end Sys2Proof.Machine
end

section
/-! SUPPORT. CLEAR in closed form. -/

namespace Sys2Proof.Machine

variable {s t u : State} {sp : Span} {ch : Chan} {r : Req} {old new : Light}

/-! ### The part goes dark -/

theorem PumpFrame.pins (h : PumpFrame s t) : t.pins = s.pins := by rw [← show _ = s from h]

theorem PumpFrame.held (h : PumpFrame s t) (x : Span) : t.held x = s.held x := by rw [← show _ = s from h]; rfl

theorem haltSpan_pins (sp : Span) (s : State) : { (haltSpan sp s).pins with spanEn := s.pins.spanEn } = s.pins := by
  rw [haltSpan_eq]
  split <;> rfl

/-- A HALT drives the enable lines and touches no other pin before the part state changes. -/
theorem haltSpans_pins (s : State) : { (haltSpans s).pins with spanEn := s.pins.spanEn } = s.pins := by
  have snuffed : (snuffAll s).pins = s.pins := PumpFrame.pins (snuffAll_frame s)
  have ws := haltSpan_pins .ws (snuffAll s)
  have es := haltSpan_pins .es (haltSpan .ws (snuffAll s))
  rw [haltSpans]
  generalize haltSpan .es (haltSpan .ws (snuffAll s)) = w at es ⊢
  generalize haltSpan .ws (snuffAll s) = v at ws es
  generalize snuffAll s = u at snuffed ws
  calc { w.pins with spanEn := s.pins.spanEn }
    _ = { v.pins with spanEn := s.pins.spanEn } := congrArg (fun p : Pins => { p with spanEn := s.pins.spanEn }) es
    _ = { u.pins with spanEn := s.pins.spanEn } := congrArg (fun p : Pins => { p with spanEn := s.pins.spanEn }) ws
    _ = s.pins := by rw [snuffed]

/-- A HALT sets the hold flag of a span to no where the span was there (R187). -/
theorem haltSpans_held_eq (s : State) (x : Span) : (haltSpans s).held x = if (s.st x).state = .unused then s.held x else false := by
  have snuffed : (snuffAll s).held x = s.held x := PumpFrame.held (snuffAll_frame s) x
  rw [haltSpans, haltSpan_held, haltSpan_held, haltSpan_st, snuffAll_st, snuffAll_st, snuffed]
  by_cases h : (s.st x).state = .unused
  · cases x <;> simp [h]
  · cases x <;> simp [h]

/-- What a CLEAR has in common with HALT (R187, R188): the part is dark and in STANDBY, both spans are in UNUSED, and the rest stands. -/
structure State.Quelled (s u : State) : Prop where
  frame : u = { s with
    part := { s.part with run := false }, pins := { s.pins with spanEn := ⟨false, false⟩, runLed := false }
    status := ⟨(s.st .ws).halted, (s.st .es).halted⟩, hold := u.hold, pumps := u.pumps, owed := u.owed, out := u.out }
  held : ∀ x, u.held x = if (s.st x).state = .unused then s.held x else false
  pump : ∀ c, u.pump c = (s.pump c).takeSnuff

theorem setRun_false_eq (s : State) :
    setRun false s
      = { s with part := { s.part with run := false }, pins := { s.pins with spanEn := ⟨false, false⟩, runLed := false } } := rfl

theorem haltPart_quelled (s : State) : s.Quelled (haltPart s) := by
  have frame := haltSpans_frame s
  have pins := haltSpans_pins s
  have st := haltSpans_st s
  have held := haltSpans_held_eq s
  have pump := haltSpans_pump s
  rw [haltPart_eq, setRun_false_eq]
  generalize haltSpans s = u at frame pins st held pump ⊢
  have status : u.status = ⟨(s.st .ws).halted, (s.st .es).halted⟩ := congrArg₂ PerSpan.mk (st .ws) (st .es)
  have dark : { u.pins with spanEn := ⟨false, false⟩, runLed := false } = { s.pins with spanEn := ⟨false, false⟩, runLed := false } :=
    congrArg (fun p : Pins => { p with spanEn := ⟨false, false⟩, runLed := false }) pins
  refine ⟨?_, held, pump⟩
  rw [dark, frame, status]

/-- In STANDBY nothing but the pump channels is left to make dark (R183). -/
theorem snuffAll_quelled (hr : s.part.run = false) (hu : s.StandbyUnused) (hl : s.LinesFollow) : s.Quelled (snuffAll s) := by
  have frame := PumpFrame.eq (snuffAll_frame s)
  have held (x : Span) : (snuffAll s).held x = s.held x := PumpFrame.held (snuffAll_frame s) x
  have part : s.part = { s.part with run := false } := by rw [← hr]
  obtain ⟨ws, es, led⟩ := hl
  have pins : s.pins = { s.pins with spanEn := ⟨false, false⟩, runLed := false } := by
    have lines : s.pins.spanEn = ⟨false, false⟩ :=
      congrArg₂ PerSpan.mk (ws.trans (by rw [State.enableOf, hr]; rfl)) (es.trans (by rw [State.enableOf, hr]; rfl))
    rw [← lines, ← led.trans hr]
  have status : s.status = ⟨(s.st .ws).halted, (s.st .es).halted⟩ :=
    congrArg₂ PerSpan.mk (if_pos (hu hr .ws)).symm (if_pos (hu hr .es)).symm
  refine ⟨?_, fun x => by rw [held, if_pos (hu hr x)], snuffAll_pump s⟩
  generalize snuffAll s = u at frame ⊢
  have hold : u.hold = s.hold := by rw [frame]
  rw [← part, ← pins, ← status, hold]
  exact frame

/-! ### The light of an input in STANDBY -/

theorem lossEvents_unused (h : (s.st sp).state = .unused) : s.lossEvents sp old new = [] := by
  simp [State.lossEvents, h, SpanState.isOpen, SpanState.lit]

/-- A change of light moves nothing in STANDBY, where the span is in UNUSED (R92, R183). -/
theorem lightChanged_standby (hr : s.part.run = false) (hu : (s.st sp).state = .unused) : lightChanged sp old new s = s := by
  have engine : engineLight sp old new s = s := by
    rw [engineLight_tested, hu, State.lossTested, lossEvents_unused hu, List.append_nil]
  unfold lightChanged
  split
  · rfl
  · rw [engine, stageFollow, if_pos hr]

theorem clearInput_standby (hr : s.part.run = false) (hu : (s.st sp).state = .unused) :
    clearInput sp s = s.setInp sp (s.inp sp).cleared :=
  lightChanged_standby (s := s.setInp sp (s.inp sp).cleared) hr hu

theorem cleared_eq (c : InputChan) :
    c.cleared = { c with light := if c.light = .present ∨ c.light = .fading then .present else .absent, run := 0 } := by
  unfold InputChan.cleared
  cases c.light <;> rfl

/-! ### What is forgotten -/

/-- A span's record once its far word and tag are forgotten (R24, R188). -/
def SpanStatus.forgotten (x : SpanStatus) : SpanStatus := { x with far := none, tag := 0 }

/-- What a CLEAR makes of a part that is dark and in STANDBY (R188). -/
def State.forgotten (u : State) : State :=
  { u with
    status := ⟨(u.st .ws).forgotten, (u.st .es).forgotten⟩
    ring := ⟨List.replicate Config.ringSlots 0, List.replicate Config.ringSlots 0⟩
    input := ⟨(u.inp .ws).cleared, (u.inp .es).cleared⟩
    refl := ⟨{ u.reflection .ws with run := 0 }, { u.reflection .es with run := 0 }⟩
    pumps := u.pumps.map fun p => { p with noReply := 0 }
    lines := ⟨(u.line .ws).cleared, (u.line .es).cleared⟩
    localPort := u.localPort.cleared
    notices := []
    raised := u.raised ++ [⟨.partControl, .partState, .none_, .none_, u.time.tickCount, false⟩] }

theorem clearSpans_eq (s : State) :
    clearSpan .es (clearSpan .ws s)
      = { s with
          status := ⟨(s.st .ws).forgotten, (s.st .es).forgotten⟩
          ring := ⟨List.replicate Config.ringSlots 0, List.replicate Config.ringSlots 0⟩ } := rfl

theorem clearInputs_standby (hr : s.part.run = false) (hu : ∀ x, (s.st x).state = .unused) :
    clearInput .es (clearInput .ws s) = { s with input := ⟨(s.inp .ws).cleared, (s.inp .es).cleared⟩ } := by
  rw [clearInput_standby hr (hu .ws), clearInput_standby (s := s.setInp .ws (s.inp .ws).cleared) hr (hu .es)]
  rfl

/-- In STANDBY, both spans in UNUSED, the steps of a CLEAR come to one change of the state (R188). -/
theorem forget_eq (hr : u.part.run = false) (hu : ∀ x, (u.st x).state = .unused) :
    (let v := clearInput .es (clearInput .ws (clearSpan .es (clearSpan .ws u)))
     raisePartState (clearReplies (clearRuns { clearPorts v with notices := [] }))) = u.forgotten := by
  have unused (x : Span) : ((clearSpan .es (clearSpan .ws u)).st x).state = .unused := by
    cases x
    · exact hu .ws
    · exact hu .es
  rw [clearInputs_standby (s := clearSpan .es (clearSpan .ws u)) hr unused, clearSpans_eq]
  rfl

theorem State.Quelled.part (q : s.Quelled u) : u.part = { s.part with run := false } := by rw [q.frame]

theorem State.Quelled.st (q : s.Quelled u) (x : Span) : u.st x = (s.st x).halted := by
  rw [q.frame]; cases x <;> rfl

/-- A CLEAR darkens the part, then forgets (R188). -/
theorem clearPart_forgotten (hu : s.StandbyUnused) (hl : s.LinesFollow) : ∃ u, s.Quelled u ∧ clearPart s = u.forgotten := by
  have quelled : s.Quelled (if s.part.run then haltPart s else snuffAll s) := by
    split
    · exact haltPart_quelled s
    next h => exact snuffAll_quelled (by simpa using h) hu hl
  refine ⟨_, quelled, ?_⟩
  rw [clearPart_eq]
  generalize (if s.part.run then haltPart s else snuffAll s) = u at quelled ⊢
  refine forget_eq (by rw [quelled.part]) fun x => ?_
  rw [quelled.st]
  exact (halted_state _).1

/-! ### The state it leaves -/

theorem forgotten_st (u : State) (x : Span) : u.forgotten.st x = (u.st x).forgotten := by cases x <;> rfl

theorem forgotten_line (u : State) (x : Span) : u.forgotten.line x = (u.line x).cleared := by cases x <;> rfl

theorem forgotten_base (u : State) (p : Port) : u.forgotten.base p = (u.base p).cleared := by cases p <;> rfl

theorem forgotten_inp (u : State) (x : Span) : u.forgotten.inp x = (u.inp x).cleared := by cases x <;> rfl

theorem forgotten_reflection (u : State) (x : Span) : u.forgotten.reflection x = { u.reflection x with run := 0 } := by cases x <;> rfl

theorem forgotten_slots (u : State) (x : Span) : u.forgotten.slots x = List.replicate 256 0 := by cases x <;> rfl

theorem forgotten_pump (u : State) (c : Chan) : u.forgotten.pump c = { u.pump c with noReply := 0 } := by
  change (u.pumps.map fun p => { p with noReply := 0 })[c] = _
  simp [State.pump]

theorem takeSnuff_eq (p : Pump) : p.takeSnuff = if p.state = .dark ∨ p.state = .faulted then p else p.goHold := by
  obtain ⟨h, e⟩ | ⟨h1, h2, e⟩ := takeSnuff_cases p
  · rw [e, if_pos h]
  · rw [e, if_neg (not_or.mpr ⟨h1, h2⟩)]

/-- The state a CLEAR answers with. -/
def State.clearedBy (u : State) (r : Req) : State := u.forgotten.replied r 18 0 []

section Left

variable (q : s.Quelled u) (r : Req)
include q

theorem clearedBy_st (x : Span) : (u.clearedBy r).st x = (s.st x).halted.forgotten := by
  rw [State.clearedBy, replied_st, forgotten_st, q.st]

theorem clearedBy_held (x : Span) : (u.clearedBy r).held x = if (s.st x).state = .unused then s.held x else false := by
  rw [State.clearedBy, replied_eq, State.setBase_held, ← q.held]
  rfl

theorem clearedBy_pump (c : Chan) : (u.clearedBy r).pump c = { (s.pump c).takeSnuff with noReply := 0 } := by
  rw [State.clearedBy, replied_eq, State.setBase_pump, forgotten_pump, q.pump]

/-- The line ports but for what every port holds. -/
theorem clearedBy_line (x : Span) : (u.clearedBy r).line x = { (s.line x).cleared with base := ((u.clearedBy r).line x).base } := by
  have kept : u.line x = s.line x := by rw [q.frame]; rfl
  rw [← kept, ← forgotten_line]
  exact replied_line ..

/-- The port the request came from holds its reply, the others nothing (R180, R188). -/
theorem clearedBy_base (p : Port) :
    (u.clearedBy r).base p
      = { (u.base p).cleared with queue := if p = r.port then [replyTo r s.part.site 18 0 []] else [] } := by
  have site : u.part.site = s.part.site := by rw [q.part]
  rw [← site, State.clearedBy, replied_eq, State.setBase_base]
  split
  next h => subst h; rw [forgotten_base]; rfl
  next => rw [forgotten_base]; rfl

theorem clearedBy_inp (x : Span) : (u.clearedBy r).inp x = (s.inp x).cleared := by
  have kept : u.inp x = s.inp x := by rw [q.frame]; rfl
  rw [State.clearedBy, replied_eq, State.setBase_inp, forgotten_inp, kept]

theorem clearedBy_reflection (x : Span) : (u.clearedBy r).reflection x = { s.reflection x with run := 0 } := by
  have kept : u.reflection x = s.reflection x := by rw [q.frame]; rfl
  rw [State.clearedBy, replied_eq, State.setBase_reflection, forgotten_reflection, kept]

theorem clearedBy_part : (u.clearedBy r).part = { s.part with run := false } := by
  rw [State.clearedBy, replied_part, ← q.part]
  rfl

theorem clearedBy_pins : (u.clearedBy r).pins = { s.pins with spanEn := ⟨false, false⟩, runLed := false } := by
  rw [State.clearedBy, replied_pins, q.frame]
  rfl

theorem clearedBy_raised :
    (u.clearedBy r).raised = s.raised ++ [⟨.partControl, .partState, .none_, .none_, s.time.tickCount, false⟩] := by
  rw [State.clearedBy, replied_raised, q.frame]
  rfl

/-- What a CLEAR keeps (R188). -/
theorem clearedBy_frame :
    { u.clearedBy r with
      part := s.part, pins := s.pins, hold := s.hold, status := s.status, ring := s.ring, input := s.input, refl := s.refl
      pumps := s.pumps, lines := s.lines, localPort := s.localPort, notices := s.notices, raised := s.raised, owed := s.owed
      out := s.out } = s := by
  rw [State.clearedBy, replied_eq, q.frame]
  cases r.port <;> rfl

end Left

theorem clearedBy_slots (u : State) (r : Req) (x : Span) : (u.clearedBy r).slots x = List.replicate 256 0 := by
  rw [State.clearedBy, replied_eq, State.setBase_slots, forgotten_slots]

theorem clearedBy_notices (u : State) (r : Req) : (u.clearedBy r).notices = [] := by
  rw [State.clearedBy, replied_eq, State.setBase_notices]
  rfl

/-! ### The request -/

theorem exec_clear (h : s.pins.resetLine = false) (r : Req) :
    exec (.clear r) s = .next (sendReply Config.kindClear r (clearReq r s.fresh)) := by
  rw [exec, execClear, unlessReset_free h]

theorem clearReq_taken (hb : r.body = []) (hc : s.classUsed r = 0) : clearReq r s = doneWith (clearPart s) := by
  simp [clearReq, hb, hc]

theorem exec_clear_taken (hr : s.pins.resetLine = false) (hc : s.classUsed r = 0) (hb : r.body = []) (hu : s.StandbyUnused)
    (hl : s.LinesFollow) : ∃ u, s.fresh.Quelled u ∧ exec (.clear r) s = .next (u.clearedBy r) := by
  obtain ⟨u, q, cleared⟩ := clearPart_forgotten (s := s.fresh) hu hl
  refine ⟨u, q, ?_⟩
  rw [exec_clear hr, clearReq_taken (s := s.fresh) hb hc, doneWith, sendReply_replied, cleared]
  rfl

/-- Settles O45: the state a CLEAR answers with, record by record. -/
theorem clearForgetsTraffic : Obligations.ClearForgetsTraffic := by
  intro s r hr hc hb hu hl
  obtain ⟨u, q, run⟩ := exec_clear_taken hr hc hb hu hl
  have st (x : Span) : (u.clearedBy r).st x = (s.st x).halted.forgotten := clearedBy_st q r x
  have held (x : Span) : (u.clearedBy r).held x = if (s.st x).state = .unused then s.held x else false := clearedBy_held q r x
  have pump (c : Chan) : (u.clearedBy r).pump c = { (s.pump c).takeSnuff with noReply := 0 } := clearedBy_pump q r c
  have line := clearedBy_line q r
  have rest := clearedBy_frame q r
  refine ⟨u.clearedBy r, run, clearedBy_part q r, clearedBy_pins q r, fun c => ?_, fun x hx => ?_, fun x hx => ?_, fun x => ?_, fun c => ?_,
    fun p => ?_, clearedBy_notices u r, (congrArg State.cfg rest :), (congrArg State.mon rest :), (congrArg State.table rest :),
    (congrArg State.tableLen rest :), (congrArg State.grants rest :), (congrArg State.il rest :), (congrArg State.supply rest :),
    (congrArg State.time rest :), ?_⟩
  · rw [pump]; exact ⟨takeSnuff_isDark _, rfl⟩
  · obtain ⟨causes, failures⟩ := halted_of_used hx
    rw [st, held, if_neg hx]
    exact ⟨causes, failures, rfl⟩
  · rw [st, held, if_pos hx, SpanStatus.halted, if_pos hx]
    exact ⟨rfl, rfl⟩
  · have state : (s.st x).halted.forgotten.state = .unused := (halted_state _).1
    rw [clearedBy_inp q, clearedBy_reflection q, clearedBy_slots, st, cleared_eq]
    exact ⟨state, rfl, rfl, rfl, (congrArg LinePort.silence (line x) :), (congrArg LinePort.forward (line x) :),
      (congrArg LinePort.served (line x) :), (congrArg LinePort.mismatch (line x) :), (congrArg LinePort.loop (line x) :),
      (congrArg LinePort.live (line x) :), rfl, rfl⟩
  · rw [pump, takeSnuff_eq]
    split <;> rfl
  · rw [clearedBy_base q]; exact ⟨rfl, rfl, rfl⟩
  · rw [clearedBy_raised q]; exact List.suffix_append ..

end Sys2Proof.Machine
end

section
/-! SUPPORT. What can happen to a pump channel, change by change, and that each change keeps it within its ceiling and fit for its state. -/

namespace Sys2Proof.Machine

open Relation (ReflTransGen)

variable {s t u : State} {p q : Pump} {x : Nat}

/-! ### A channel by itself -/

/-- A channel within its ceiling whose record fits its state. -/
def Pump.Sound (p : Pump) : Prop := p.BelowCeiling ∧ p.FitsState

theorem pumpsSound_iff (s : State) : s.PumpsSound ↔ ∀ ch, (s.pump ch).Sound := Iff.rfl

/-- A channel other than in PULSING holds no pulse, and one other than in DARK_HOLD no pending rise (R81, R90). -/
theorem Pump.Sound.idle (h : p.Sound) :
    (p.state ≠ .pulsing → p.pulseLen = none ∧ p.pulseCount = 0) ∧ (p.state ≠ .darkHold → p.rise = none) := by
  obtain ⟨-, -, -, len, count, rise, -⟩ := h
  refine ⟨fun g => ⟨?_, count g⟩, fun g => ?_⟩
  · simpa [g] using len
  · simpa using fun e => g (rise e)

/-- A channel with a target is in a ramp, and the target is within its ceiling. -/
theorem Pump.Sound.target_le (h : p.Sound) (g : p.target = some x) : x ≤ p.ceiling := by
  obtain ⟨⟨-, -, -, -, target, -⟩, -⟩ := h
  exact target x g

theorem Pump.Sound.rise_le (h : p.Sound) (g : p.rise = some x) : 1 ≤ x ∧ x ≤ p.ceiling := by
  obtain ⟨⟨-, -, -, -, -, rise⟩, -⟩ := h
  exact rise x g

theorem Pump.Sound.level_le (h : p.Sound) : p.level ≤ p.ceiling := by
  obtain ⟨⟨-, -, -, level, -⟩, -⟩ := h
  exact level

theorem Pump.Sound.level_zero (h : p.Sound) (hd : p.state.isDark = true) : p.level = 0 := by
  obtain ⟨-, dark, -⟩ := h
  exact dark hd

theorem Pump.Sound.target_isSome (h : p.Sound) : p.target.isSome = p.state.ramping := by
  obtain ⟨-, -, ramp, -⟩ := h
  exact ramp

/-- A dark channel at level 0 that holds nothing to do, its table entry as in a sound record. -/
theorem Pump.Sound.darken (h : p.Sound) {z : PumpState} (hz : z.isDark = true) (left : Nat) :
    { p with state := z, level := 0, target := none, rise := none, pulseLen := none, pulseCount := 0, darkLeft := left }.Sound := by
  obtain ⟨⟨ceiling, service, probe, -⟩, -, -, -, -, -, reply⟩ := h
  cases z <;> cases hz <;>
    exact ⟨⟨ceiling, service, probe, Nat.zero_le _, nofun, nofun⟩, fun _ => rfl, rfl, rfl, fun _ => rfl, nofun, reply⟩

/-- A channel in a ramp toward a target within its ceiling. -/
theorem Pump.Sound.ramp (h : p.Sound) {z : PumpState} (hz : z.ramping = true) (hx : x ≤ p.ceiling) (hr : p.rise = none) :
    { p with state := z, target := some x, pulseLen := none, pulseCount := 0 }.Sound := by
  obtain ⟨⟨ceiling, service, probe, level, -⟩, -, -, -, -, -, reply⟩ := h
  have below : ∀ y ∈ some x, y ≤ p.ceiling := by simpa using hx
  cases z <;> cases hz <;>
    exact ⟨⟨ceiling, service, probe, level, below, by simp [hr]⟩, nofun, rfl, rfl, fun _ => rfl, by simp [hr], reply⟩

/-- A channel LIT at a level within its ceiling. -/
theorem Pump.Sound.light (h : p.Sound) (hx : x ≤ p.ceiling) (hr : p.rise = none) :
    { p with state := .lit, level := x, target := none, pulseLen := none, pulseCount := 0 }.Sound := by
  obtain ⟨⟨ceiling, service, probe, -⟩, -, -, -, -, -, reply⟩ := h
  exact ⟨⟨ceiling, service, probe, hx, nofun, by simp [hr]⟩, nofun, rfl, rfl, fun _ => rfl, by simp [hr], reply⟩

/-- A channel in DARK_HOLD with a pending rise within its ceiling, or with none. -/
theorem Pump.Sound.pend (h : p.Sound) (hs : p.state = .darkHold) {r : Option Nat} (hr : ∀ x ∈ r, 1 ≤ x ∧ x ≤ p.ceiling) :
    { p with rise := r }.Sound := by
  obtain ⟨⟨ceiling, service, probe, level, target, -⟩, dark, ramp, len, count, -, reply⟩ := h
  exact ⟨⟨ceiling, service, probe, level, target, hr⟩, dark, ramp, len, count, fun _ => hs, reply⟩

/-- A channel in a ramp has a target. -/
theorem Pump.Sound.target (h : p.Sound) (hr : p.state.ramping = true) : ∃ x, p.target = some x ∧ x ≤ p.ceiling := by
  obtain ⟨x, e⟩ := Option.isSome_iff_exists.mp (h.target_isSome.trans hr)
  exact ⟨x, e, h.target_le e⟩

/-- A ramp that moves stays within the ceiling. -/
theorem Pump.Sound.move (h : p.Sound) (hr : p.state.ramping = true) (hx : x ≤ p.ceiling) : { p with level := x }.Sound := by
  obtain ⟨⟨ceiling, service, probe, -, target, rise⟩, -, ramp, len, count, hold, reply⟩ := h
  refine ⟨⟨ceiling, service, probe, hx, target, rise⟩, fun g => ?_, ramp, len, count, hold, reply⟩
  cases hs : p.state <;> simp_all [PumpState.ramping, PumpState.isDark]

/-! ### Commands and steps -/

theorem goHold_sound (h : p.Sound) : p.goHold.Sound := h.darken rfl p.minDark

theorem goFaulted_sound (h : p.Sound) : p.goFaulted.Sound := h.darken rfl p.darkLeft

theorem retarget_sound (h : p.Sound) (hx : x ≤ p.ceiling) (hr : p.rise = none) : (p.retarget x).Sound := by
  obtain ⟨-, e⟩ | ⟨-, e⟩ | ⟨-, -, e⟩ | ⟨rfl, -, e⟩ := retarget_cases p x <;> rw [e]
  · exact h.ramp rfl hx hr
  · exact h.ramp rfl hx hr
  · exact goHold_sound h
  · exact h.light hx hr

theorem takeRise_sound (h : p.Sound) (x : Nat) : (p.takeRise x).Sound := by
  have hx : min x p.ceiling ≤ p.ceiling := min_le_right ..
  unfold Pump.takeRise
  dsimp only
  split
  case h_1 hs =>
    obtain ⟨len, count⟩ := h.idle.1 (by simp [hs])
    split
    · simpa [len, count] using h.ramp (z := .rising) rfl hx (h.idle.2 (by simp [hs]))
    · exact h
  case h_6 hs =>
    refine h.pend hs fun y hy => ?_
    split at hy <;> simp at hy
    omega
  case h_7 => exact h
  case h_2 hs | h_3 hs | h_4 hs | h_5 hs => exact retarget_sound h hx (h.idle.2 (by simp [hs]))

theorem takePulse_sound (h : p.Sound) (level length : Nat) : (p.takePulse level length).Sound := by
  unfold Pump.takePulse
  split
  next hs =>
    have rise := h.idle.2 (by simp [hs])
    obtain ⟨⟨ceiling, service, probe, -, -⟩, -, ramp, -, -, -, reply⟩ := h
    have target : p.target = none := by simpa [hs, PumpState.ramping] using ramp
    exact ⟨⟨ceiling, service, probe, min_le_right .., by simp [target], by simp [rise]⟩, nofun, by simp [target]; rfl, rfl,
      fun g => absurd rfl g, by simp [rise], reply⟩
  next => exact h

theorem takeDouse_sound (h : p.Sound) : p.takeDouse.Sound := by
  have down (hs : p.state ≠ .darkHold) : { p with state := .falling, target := some 0, pulseLen := none, pulseCount := 0 }.Sound :=
    h.ramp rfl (Nat.zero_le _) (h.idle.2 hs)
  unfold Pump.takeDouse
  split
  case h_1 | h_7 => exact h
  case h_2 hs => exact h.pend hs nofun
  case h_6 hs => exact down (by simp [hs])
  case h_3 hs | h_4 hs | h_5 hs =>
    obtain ⟨len, count⟩ := h.idle.1 (by simp [hs])
    split
    · exact goHold_sound h
    · simpa [len, count] using down (by simp [hs])

theorem takeSnuff_sound (h : p.Sound) : p.takeSnuff.Sound := by
  obtain ⟨-, e⟩ | ⟨-, -, e⟩ := takeSnuff_cases p <;> rw [e]
  · exact h
  · exact goHold_sound h

theorem takeStep_sound (h : p.Sound) (o : Bool) : (p.takeStep o).Sound := by
  have level := h.level_le
  unfold Pump.takeStep
  dsimp only
  split
  case h_1 hs =>
    have hr : p.state.ramping = true := by rw [hs]; rfl
    obtain ⟨x, e, hx⟩ := h.target hr
    obtain ⟨len, count⟩ := h.idle.1 (by simp [hs])
    simp only [e, Option.getD_some]
    split
    · simpa [len, count] using h.light (x := min x (p.level + p.up)) (by omega) (h.idle.2 (by simp [hs]))
    · simpa [e] using h.move (x := min x (p.level + p.up)) hr (by omega)
  case h_2 hs =>
    have hr : p.state.ramping = true := by rw [hs]; rfl
    obtain ⟨x, e, hx⟩ := h.target hr
    obtain ⟨len, count⟩ := h.idle.1 (by simp [hs])
    simp only [e, Option.getD_some]
    split
    · split
      · exact goHold_sound h
      · simpa [len, count] using h.light (x := max x (p.level - p.down)) (by omega) (h.idle.2 (by simp [hs]))
    · simpa [e] using h.move (x := max x (p.level - p.down)) hr (by omega)
  case h_3 hs =>
    split
    · exact goHold_sound h
    · obtain ⟨bounds, dark, ramp, len, -, hold, reply⟩ := h
      exact ⟨bounds, dark, ramp, len, fun g => absurd hs g, hold, reply⟩
  case h_4 hs =>
    have zero : p.level = 0 := h.level_zero (by rw [hs]; rfl)
    have target : p.target = none := by simpa [hs, PumpState.ramping] using h.target_isSome
    obtain ⟨len, count⟩ := h.idle.1 (by simp [hs])
    have dark : { p with state := .dark, rise := none, darkLeft := 0 }.Sound := by
      simpa [zero, target, len, count] using h.darken (z := .dark) rfl 0
    split
    · split
      next e => simpa [e] using dark
      next x e =>
        split
        · have pended : { p with rise := none, darkLeft := 0 }.Sound := h.pend hs nofun
          simpa [len, count] using pended.ramp (z := .rising) rfl (h.rise_le e).2 rfl
        · exact dark
    · exact h
  all_goals exact h

/-! ### A written entry -/

theorem clampRise_le {ceiling : Nat} {r : Option Nat} : ∀ y ∈ clampRise ceiling r, 1 ≤ y ∧ y ≤ ceiling := by
  intro y hy
  unfold clampRise at hy
  split at hy
  · split at hy <;> simp at hy
    omega
  · cases hy

theorem clampRise_isSome {ceiling : Nat} {r : Option Nat} (h : (clampRise ceiling r).isSome = true) : r.isSome = true := by
  cases r
  · cases h
  · rfl

/-- Level, target and pending rise brought down to the ceiling, whatever state that leaves. -/
def Pump.lowered (p : Pump) : Pump :=
  { p with level := min p.level p.ceiling, target := p.target.map (min · p.ceiling), rise := clampRise p.ceiling p.rise }

/-- The clamps of the work: the channel lowered, in DARK_HOLD or LIT where a clamp of the level or the target asks for it (R79). -/
theorem clampWork_cases (p : Pump) :
    p.clampWork = p.lowered ∨ p.clampWork = p.lowered.goHold
      ∨ (p.clampWork = { p.lowered with state := .lit, target := none } ∧ p.state ≠ .pulsing ∧ p.state ≠ .darkHold) := by
  unfold Pump.clampWork
  dsimp only
  split
  case h_1 hs | h_2 hs | h_3 hs =>
    split_ifs
    · exact .inr (.inl rfl)
    · exact .inr (.inr ⟨rfl, by simp [hs], by simp [hs]⟩)
    · exact .inl rfl
  all_goals exact .inl rfl

theorem lowered_sound (hc : p.ceiling ≤ Config.maxLevel) (hs : p.service ≤ p.ceiling) (hp : p.probe ≤ p.ceiling) (hf : p.FitsState) :
    p.lowered.Sound := by
  obtain ⟨dark, ramp, len, count, hold, reply⟩ := hf
  refine ⟨⟨hc, hs, hp, min_le_right .., fun y hy => ?_, clampRise_le⟩, fun g => ?_, ?_, len, count,
    fun g => hold (clampRise_isSome g), reply⟩
  · obtain ⟨z, -, rfl⟩ := Option.map_eq_some_iff.mp hy
    exact min_le_right ..
  · exact Nat.le_zero.mp ((min_le_left ..).trans (dark g).le)
  · exact Option.isSome_map.trans ramp

theorem clampWork_sound (hc : p.ceiling ≤ Config.maxLevel) (hs : p.service ≤ p.ceiling) (hp : p.probe ≤ p.ceiling) (hf : p.FitsState) :
    p.clampWork.Sound := by
  have low := lowered_sound hc hs hp hf
  obtain e | e | ⟨e, pulsing, hold⟩ := clampWork_cases p <;> rw [e]
  · exact low
  · exact goHold_sound low
  · obtain ⟨len, count⟩ := low.idle.1 pulsing
    simpa [len, count] using low.light low.level_le (low.idle.2 hold)

/-- An entry whose every written field lies within its range, with its clamps (R77, R79). -/
theorem written_sound {items : List Item} (h : p.Sound) (hi : inRanges pumpRanges items = true) :
    (p.write items).clampSetpoints.clampWork.Sound := by
  obtain ⟨⟨ceiling, -⟩, fits⟩ := h
  have written := written_range (code := 4) hi rfl ⟨Nat.zero_le _, ceiling⟩
  exact clampWork_sound written.2 (min_le_right ..) (min_le_right ..) fits

/-! ### Changes -/

/-- What can happen to a pump channel: a command or step, entry to DARK_HOLD or FAULTED, the answers the Pump Link counts, a stored service
setpoint, a written entry with its clamps, a pending rise that a new binding clears, and a reset. -/
inductive Pump.Change (p : Pump) : Pump → Prop
  | rise (x : Nat) : p.Change (p.takeRise x)
  | pulse (level length : Nat) : p.Change (p.takePulse level length)
  | douse : p.Change p.takeDouse
  | snuff : p.Change p.takeSnuff
  | step (open_ : Bool) : p.Change (p.takeStep open_)
  | hold : p.Change p.goHold
  | fault : p.Change p.goFaulted
  | link (sent answered : Bool) (n : Nat) : (p.noReply ≤ 3 → n ≤ 3) → p.Change { p with sent := sent, answered := answered, noReply := n }
  | setpoint (v : Nat) : p.Change { p with service := min v p.ceiling }
  | written (items : List Item) : inRanges pumpRanges items = true → p.Change (p.write items).clampSetpoints.clampWork
  | unbound : p.Change { p with rise := none }
  | reset : p.Change .reset

theorem Pump.Change.sound (h : p.Change q) (hp : p.Sound) : q.Sound := by
  cases h with
  | rise x => exact takeRise_sound hp x
  | pulse level length => exact takePulse_sound hp level length
  | douse => exact takeDouse_sound hp
  | snuff => exact takeSnuff_sound hp
  | step o => exact takeStep_sound hp o
  | hold => exact goHold_sound hp
  | fault => exact goFaulted_sound hp
  | link sent answered n hn =>
    obtain ⟨bounds, dark, ramp, len, count, hold, reply⟩ := hp
    exact ⟨bounds, dark, ramp, len, count, hold, hn reply⟩
  | setpoint v =>
    obtain ⟨⟨ceiling, -, probe, rest⟩, fits⟩ := hp
    exact ⟨⟨ceiling, min_le_right .., probe, rest⟩, fits⟩
  | written items hi => exact written_sound hp hi
  | unbound =>
    obtain ⟨⟨ceiling, service, probe, level, target, -⟩, dark, ramp, len, count, -, reply⟩ := hp
    exact ⟨⟨ceiling, service, probe, level, target, nofun⟩, dark, ramp, len, count, nofun, reply⟩
  | reset => rw [← reset_pump 0]; exact reset_pumpsSound 0

theorem changes_sound (h : ReflTransGen Pump.Change p q) (hp : p.Sound) : q.Sound := by
  induction h with
  | refl => exact hp
  | tail _ g ih => exact g.sound ih

/-- Work on the part in which every pump channel undergoes changes one after the other, or none. -/
structure PumpWork (s t : State) : Prop where
  changes : ∀ ch, ReflTransGen Pump.Change (s.pump ch) (t.pump ch)

theorem PumpWork.sound (h : PumpWork s t) (hs : s.PumpsSound) : t.PumpsSound :=
  (pumpsSound_iff t).mpr fun ch => changes_sound (h.changes ch) ((pumpsSound_iff s).mp hs ch)

end Sys2Proof.Machine
end

section
/-! SUPPORT. The work of the Pump Controller, the Pump Link and the Span Engines as changes of the pump channels. -/

namespace Sys2Proof.Machine

open Relation (ReflTransGen)

variable {s t u : State} {p q : Pump} {sp : Span} {ch : Chan}

/-! ### Chains -/

theorem PumpWork.refl (s : State) : PumpWork s s := ⟨fun _ => .refl⟩

theorem PumpWork.trans (h : PumpWork s t) (g : PumpWork t u) : PumpWork s u := ⟨fun ch => (h.changes ch).trans (g.changes ch)⟩

/-- Work that leaves the pump channels alone. -/
theorem PumpWork.of_pumps (h : t.pumps = s.pumps) : PumpWork s t :=
  ⟨fun ch => by rw [show t.pump ch = s.pump ch by simp only [State.pump, h]]⟩

/-- Work that begins where the pump channels are as they were. -/
theorem PumpWork.after (g : PumpWork t u) (h : t.pumps = s.pumps) : PumpWork s u := (PumpWork.of_pumps h).trans g

/-- Work that is done or not. -/
theorem PumpWork.ite {c : Prop} [Decidable c] (h : PumpWork s t) (g : PumpWork s u) : PumpWork s (if c then t else u) := by
  split
  · exact h
  · exact g

theorem PumpWork.forChans {f : Chan → State → State} (hf : ∀ ch t, PumpWork t (f ch t)) (s : State) : PumpWork s (forChans f s) :=
  forChans_inv (Q := PumpWork) .refl .trans hf s

/-! ### One channel -/

theorem setPump_work (h : ReflTransGen Pump.Change (s.pump ch) q) : PumpWork s (s.setPump ch q) := by
  refine ⟨fun c => ?_⟩
  rw [State.setPump_pump]
  split
  next e => subst e; exact h
  next => exact .refl

theorem putPump_work (h : ReflTransGen Pump.Change (s.pump ch) q) : PumpWork s (s.putPump ch q) := by
  obtain e | e := putPump_spec s ch q <;> rw [e]
  · exact setPump_work h
  · exact (setPump_work h).trans (.of_pumps rfl)

/-- What the Pump Link remembers of a channel. -/
theorem setPump_link_work (ch : Chan) (sent answered : Bool) {n : Nat} (hn : (s.pump ch).noReply ≤ 3 → n ≤ 3) :
    PumpWork s (s.setPump ch { s.pump ch with sent := sent, answered := answered, noReply := n }) :=
  setPump_work (.single (.link sent answered n hn))

theorem sendRecord_work (ch : Chan) (s : State) : PumpWork s (sendRecord ch s) := by
  rw [sendRecord_spec]; exact .of_pumps rfl

theorem snuffChannel_work (ch : Chan) (s : State) : PumpWork s (snuffChannel ch s) := by
  obtain ⟨o, -, e⟩ := snuffChannel_spec ch s
  rw [e]
  exact (setPump_work (.single .snuff)).trans (.of_pumps rfl)

theorem riseChannel_work (ch : Chan) (x : Nat) (s : State) : PumpWork s (riseChannel ch x s) := by
  obtain ⟨-, e⟩ | ⟨-, e⟩ := riseChannel_cases ch x s <;> rw [e]
  · exact putPump_work (.single (.rise x))
  · exact .refl s

theorem douseChannel_work (ch : Chan) (s : State) : PumpWork s (douseChannel ch s) := putPump_work (.single .douse)

theorem faultChannel_work (e : Event) (ch : Chan) (s : State) : PumpWork s (faultChannel e ch s) :=
  (putPump_work (.single .fault)).trans ((sendRecord_work ch _).trans (.of_pumps rfl))

/-! ### The Pump Link -/

theorem checkTick_work (ch : Chan) (s : State) : PumpWork s (checkTick ch s) := by
  have counted : PumpWork s (s.setPump ch { s.pump ch with
      noReply := if (s.pump ch).sent && !(s.pump ch).answered then satSucc 3 (s.pump ch).noReply else (s.pump ch).noReply
      answered := false }) :=
    setPump_link_work ch (s.pump ch).sent false fun h => by
      split
      · exact satSucc_le ..
      · exact h
  obtain ⟨-, e⟩ | ⟨-, e⟩ := checkTick_cases ch s <;> rw [e]
  · exact counted.trans (faultChannel_work ..)
  · exact counted

theorem takeCheck_work (ch : Chan) (s : State) : PumpWork s (takeCheck ch s) := by
  obtain ⟨-, e⟩ | ⟨-, e⟩ := takeCheck_cases ch s <;> rw [e]
  · exact (checkTick_work ch (s.dropJob (.check ch))).after rfl
  · exact .refl s

theorem linkTick_work (ch : Chan) (s : State) : PumpWork s (linkTick ch s) := by
  rw [linkTick_spec]
  refine (PumpWork.forChans takeCheck_work s).trans ?_
  generalize forChans takeCheck s = u
  have marked : PumpWork u (u.setPump ch { u.pump ch with sent := decide ((u.pump ch).role ≠ .unused) }) :=
    setPump_link_work ch _ (u.pump ch).answered id
  exact marked.trans (.of_pumps rfl)

theorem takeLink_work (ch : Chan) (s : State) : PumpWork s (takeLink ch s) := by
  obtain ⟨-, e⟩ | ⟨-, e⟩ := takeLink_cases ch s <;> rw [e]
  · exact (linkTick_work ch (s.dropJob (.link ch))).after rfl
  · exact .refl s

theorem pulseChannel_work (ch : Chan) (level length : Nat) (s : State) : PumpWork s (pulseChannel ch level length s) :=
  .ite ((takeLink_work ch s).trans (putPump_work (.single (.pulse level length)))) (.refl s)

theorem takeStatus_work (ch : Chan) (fault : Bool) (s : State) : PumpWork s (takeStatus ch fault s) := by
  have answered : PumpWork s (s.setPump ch { s.pump ch with answered := true, noReply := 0 }) :=
    setPump_link_work ch (s.pump ch).sent true fun _ => Nat.zero_le _
  exact .ite (.refl s) (.ite (answered.trans (faultChannel_work ..)) answered)

/-! ### Several channels -/

theorem snuffAll_work (s : State) : PumpWork s (snuffAll s) := .forChans snuffChannel_work s

theorem snuffSpan_work (sp : Span) (s : State) : PumpWork s (snuffSpan sp s) :=
  .forChans (fun ch t => .ite (snuffChannel_work ch t) (.refl t)) s

theorem snuffLit_work (sp : Span) (s : State) : PumpWork s (snuffLit sp s) := .ite (snuffSpan_work sp s) (.refl s)

theorem snuffPulsing_work (sp : Span) (s : State) : PumpWork s (snuffPulsing sp s) :=
  .forChans (fun ch t => .ite (snuffChannel_work ch t) (.refl t)) s

theorem pulseSpan_work (sp : Span) (s : State) : PumpWork s (pulseSpan sp s) :=
  .forChans (fun ch t => .ite (pulseChannel_work ch _ _ t) (.refl t)) s

theorem riseSpan_work (sp : Span) (s : State) : PumpWork s (riseSpan sp s) :=
  .forChans (fun ch t => .ite (riseChannel_work ch _ t) (.refl t)) s

theorem riseStage_work (d : Dir) (s : State) : PumpWork s (riseStage d s) :=
  .forChans (fun ch t => .ite (riseChannel_work ch _ t) (.refl t)) s

theorem douseStage_work (d : Dir) (s : State) : PumpWork s (douseStage d s) :=
  .forChans (fun ch t => .ite (douseChannel_work ch t) (.refl t)) s

/-! ### The Span Engines -/

theorem SpanFrame.work (h : SpanFrame s t) : PumpWork s t := .of_pumps (by rw [h.eq])

theorem NoticeFrame.work (h : NoticeFrame s t) : PumpWork s t := .of_pumps (by rw [h.eq])

theorem completionTest_work (sp : Span) (s : State) : PumpWork s (completionTest sp s) := (completionTest_frame sp s).work

theorem testCompletion_work (ch : Chan) (s : State) : PumpWork s (testCompletion ch s) := (testCompletion_frame ch s).work

theorem breakTest_work (sp : Span) (s : State) : PumpWork s (breakTest sp s) := (breakTest_spanFrame sp s).work

theorem shift_work (sp : Span) (y : SpanStatus) (s : State) : PumpWork s (shift sp y s) := .of_pumps rfl

theorem setSt_work (sp : Span) (y : SpanStatus) (s : State) : PumpWork s (s.setSt sp y) := .of_pumps rfl

theorem raise_work (src : Block) (e : Event) (span : EvSpan) (subject : Subject) (s : State) : PumpWork s (s.raise src e span subject) :=
  .of_pumps rfl

theorem engineRaise_work (sp : Span) (e : Event) (subject : Subject) (s : State) : PumpWork s (engineRaise sp e subject s) := .of_pumps rfl

theorem enterWait_work (sp : Span) (expired : Bool) (s : State) : PumpWork s (enterWait sp expired s) := .of_pumps rfl

theorem enterMaint_work (sp : Span) (s : State) : PumpWork s (enterMaint sp s) := .of_pumps rfl

theorem enterLocked_work (sp : Span) (s : State) : PumpWork s (enterLocked sp s) := .of_pumps rfl

theorem emptySpan_work (sp : Span) (s : State) : PumpWork s (emptySpan sp s) := .of_pumps rfl

theorem endStanding_work (sp : Span) (e : Event) (s : State) : PumpWork s (endStanding sp e s) := .of_pumps rfl

theorem enterConfirm_work (sp : Span) (s : State) : PumpWork s (enterConfirm sp s) := by
  rw [enterConfirm_eq]
  exact (shift_work sp ((s.st sp).proved (s.owes (.slot sp))) s).trans ((riseSpan_work sp _).trans
    ((breakTest_work sp _).trans (completionTest_work sp _)))

theorem enterUnused_work (sp : Span) (s : State) : PumpWork s (enterUnused sp s) :=
  (snuffLit_work sp s).trans (emptySpan_work sp _)

theorem leaveUnused_work (sp : Span) (expired : Bool) (s : State) : PumpWork s (leaveUnused sp expired s) := by
  rw [leaveUnused_eq]
  refine .of_pumps ?_
  cases s.activeLine sp <;> rfl

theorem actOn_work (sp : Span) (act : Action) (e : Event) (s : State) : PumpWork s (actOn sp act e s) := by
  by_cases h : (s.st sp).state = .unused ∨ act = .note
  · rw [actOn, if_pos h]; exact .refl s
  obtain ⟨hu, ha⟩ := not_or.mp h
  rw [actOn_eq hu ha]
  dsimp only
  split_ifs
  · exact (snuffSpan_work sp s).trans (shift_work ..)
  · exact setSt_work ..
  · exact setSt_work ..
  · exact (snuffLit_work sp s).trans ((shift_work ..).trans (engineRaise_work ..))

theorem handAction_work (act : Action) (e : Event) (sps : List Span) (s : State) : PumpWork s (handAction act e sps s).1 := by
  induction sps generalizing s with
  | nil => exact .refl s
  | cons sp sps ih => exact (actOn_work sp act e s).trans (ih _)

theorem takeEvent_work (ev : Raised) (s : State) : PumpWork s (takeEvent ev s) := by
  have offered (ns : List Notice) (u : State) : PumpWork u (offerAll ns u) := (offerAll_frame ns u).work
  have acted (u : State) : PumpWork u (pairLockouts s.raised.length
      (handAction (actingAction s ev) ev.event (actionSpans (actingAction s ev) ev) u).1) := by
    rw [pairLockouts_spec]
    exact (handAction_work _ _ _ u).trans (.of_pumps rfl)
  have snuffed : PumpWork s (if actingAction s ev = .snuffAll then snuffAll s else s) := .ite (snuffAll_work s) (.refl s)
  have all := snuffed.trans (acted _)
  exact .ite (.ite (offered _ s) (.refl s)) (.ite (all.trans (offered _ _)) all)

theorem takeOldest_work (src : Block) (s : State) : PumpWork s (takeOldest src s) := by
  unfold takeOldest
  split
  next ev left _ => exact (takeEvent_work ev { s with raised := left }).after rfl
  next => exact .refl s

/-! ### Light -/

theorem stageFollow_work (d : Dir) (old new : Light) (s : State) : PumpWork s (stageFollow d old new s) :=
  .ite (.refl s) (.ite (riseStage_work d s) (.ite (douseStage_work d s) (.refl s)))

theorem engineLight_work (sp : Span) (old new : Light) (s : State) : PumpWork s (engineLight sp old new s) := by
  unfold engineLight
  dsimp only
  obtain ⟨r, e⟩ := lightTests_spec sp old new s
  rw [e]
  split
  · exact .ite (.of_pumps rfl) (.of_pumps rfl)
  · exact .ite ((enterConfirm_work sp { s with raised := r }).after rfl) (.of_pumps rfl)
  · exact (completionTest_work sp { s with raised := r }).after rfl
  all_goals exact .of_pumps rfl

theorem lightChanged_work (sp : Span) (old new : Light) (s : State) : PumpWork s (lightChanged sp old new s) :=
  .ite (.refl s) ((engineLight_work sp old new s).trans (stageFollow_work ..))

theorem advanceLight_work (sp : Span) (below restored : Bool) (s : State) : PumpWork s (advanceLight sp below restored s) :=
  (lightChanged_work sp _ _ (s.setInp sp ((s.inp sp).sample below restored))).after rfl

theorem inputSample_work (sp : Span) (power : Nat) (s : State) : PumpWork s (inputSample sp power s) := advanceLight_work ..

theorem reflectionSample_work (sp : Span) (power : Nat) (s : State) : PumpWork s (reflectionSample sp power s) :=
  .ite (.of_pumps rfl) (.of_pumps rfl)

theorem takeSample_work (ch : Chan) (code : Nat) (s : State) : PumpWork s (takeSample ch code s) := by
  unfold takeSample
  dsimp only
  split
  · exact (inputSample_work ..).after rfl
  · exact .of_pumps rfl
  · exact (reflectionSample_work ..).after rfl

theorem goStale_work (ch : Chan) (s : State) : PumpWork s (goStale ch s) := by
  unfold goStale
  dsimp only
  split <;> exact .of_pumps rfl

theorem zeroSample_work (ch : Chan) (s : State) : PumpWork s (zeroSample ch s) := by
  unfold zeroSample
  split
  · exact advanceLight_work ..
  all_goals exact .refl s

theorem monitorTick_work (ch : Chan) (s : State) : PumpWork s (monitorTick ch s) := by
  have counted : PumpWork s (s.setChan ch { s.chan ch with fresh := satSucc 255 (s.chan ch).fresh }) := .of_pumps rfl
  have zero {u : State} (h : PumpWork s u) : PumpWork s (if (u.chan ch).stale then zeroSample ch u else u) :=
    .ite (h.trans (zeroSample_work ch u)) h
  exact zero (.ite (counted.trans (goStale_work ch _)) counted)

/-! ### The slot of a tick -/

theorem darkTest_work (sp : Span) (slot : Nat) (s : State) : PumpWork s (darkTest sp slot s) :=
  .ite (enterWait_work ..) (.ite ((setSt_work ..).trans (engineRaise_work ..)) (setSt_work ..))

theorem startProbe_work (sp : Span) (s : State) : PumpWork s (startProbe sp s) := by
  rw [startProbe_eq]
  exact (shift_work ..).trans (pulseSpan_work sp _)

theorem expireProbe_work (sp : Span) (s : State) : PumpWork s (expireProbe sp s) :=
  (snuffPulsing_work sp s).trans ((engineRaise_work ..).trans ((setSt_work ..).trans (.ite (enterLocked_work ..) (enterWait_work ..))))

theorem probeTick_work (sp : Span) (slot : Nat) (s : State) : PumpWork s (probeTick sp slot s) := by
  have overshot (u : State) : PumpWork u (overshootTest sp slot u) := .ite ((setSt_work ..).trans (engineRaise_work ..)) (.refl u)
  have exposed (u : State) : PumpWork u (exposureTest sp u) := .ite ((setSt_work ..).trans (engineRaise_work ..)) (.refl u)
  have tested : PumpWork s (exposureTest sp (overshootTest sp slot
      (s.setSt sp { s.st sp with ticks := satSucc 65535 (s.st sp).ticks }))) := (setSt_work ..).trans ((overshot _).trans (exposed _))
  refine tested.trans (.ite (enterConfirm_work sp _) ?_)
  split
  · exact .ite (expireProbe_work sp _) (.refl _)
  · exact .refl _

theorem confirmTick_work (sp : Span) (s : State) : PumpWork s (confirmTick sp s) :=
  .ite ((setSt_work ..).trans (engineRaise_work ..)) (setSt_work ..)

theorem engineTick_work (sp : Span) (slot : Nat) (s : State) : PumpWork s (engineTick sp slot s) := by
  unfold engineTick
  split
  · exact darkTest_work ..
  · exact .ite (startProbe_work sp s) (.refl s)
  · exact probeTick_work ..
  · exact confirmTick_work ..
  all_goals exact .refl s

theorem slotTick_work (sp : Span) (s : State) : PumpWork s (slotTick sp s) :=
  .trans (t := s.setSlots sp (s.slotValue sp :: (s.slots sp).take (Config.ringSlots - 1))) (.of_pumps rfl) (.ite (setSt_work ..) (engineTick_work ..))

/-! ### Lines and supply -/

theorem putLine_work (n : Chan) (l : IlLine) (s : State) : PumpWork s (putLine n l s) := by
  have effect (old : IlLine) (stood : Bool) (x : Span) (u : State) : PumpWork u (interlockEffect n old stood x u) :=
    .ite (.of_pumps rfl) (.ite (endStanding_work ..) (.refl u))
  exact ((effect _ _ .ws (s.setIlLine n l)).trans (effect _ _ .es _)).after rfl

theorem settleTick_work (s : State) : PumpWork s (settleTick s) := by
  have moved (x : Supply) : PumpWork s { s with supply := x } := .of_pumps rfl
  exact .ite (.ite ((moved _).trans ((endStanding_work ..).trans (endStanding_work ..))) (moved _)) (.refl s)

theorem supplyFall_work (s : State) : PumpWork s (supplyFall s) := by
  have snuffed : PumpWork s (snuffAll { s with supply := ⟨.low, 0⟩ }) := (snuffAll_work { s with supply := ⟨.low, 0⟩ }).after rfl
  exact .ite (.refl s) (snuffed.trans (raise_work ..))

theorem supplyRise_work (s : State) : PumpWork s (supplyRise s) := .ite (.of_pumps rfl) (.refl s)

theorem silenceTick_work (sp : Span) (s : State) : PumpWork s (silenceTick sp s) := by
  have counted (l : LinePort) : PumpWork s (s.setLine sp l) := .of_pumps rfl
  exact .ite (.ite ((counted _).trans ((raise_work ..).trans (breakTest_work ..))) (counted _)) (.refl s)

theorem offTick_work (sp : Span) (s : State) : PumpWork s (offTick sp s) := .ite (.of_pumps rfl) (.refl s)

end Sys2Proof.Machine
end

section
/-! SUPPORT. The requests and Part Control as changes of the pump channels. -/

namespace Sys2Proof.Machine

open Relation (ReflTransGen)

variable {s t u : State} {sp : Span} {ch : Chan}

/-! ### WRITE_SPAN -/

/-- Work that is done only where something changed. -/
theorem PumpWork.unless {c : Prop} [Decidable c] {f : State → State} (h : PumpWork s t) (hf : ∀ u, PumpWork u (f u)) :
    PumpWork s (if c then t else f t) := .ite h (h.trans (hf t))

/-- One answer or the other. -/
theorem PumpWork.kind {c : Prop} [Decidable c] {a d : Answer} (ha : PumpWork s a.s) (hd : PumpWork s d.s) :
    PumpWork s (if c then a else d).s := by
  split
  · exact ha
  · exact hd

theorem presentChanged_work (sp : Span) (now : Bool) (s : State) : PumpWork s (presentChanged sp now s) :=
  .ite (.refl s) (.ite
    (.ite (.ite ((leaveUnused_work sp false s).trans (raise_work ..)) (leaveUnused_work sp false s)) (.refl s))
    (.ite (enterUnused_work sp s) (.refl s)))

theorem modeChanged_work (sp : Span) (s : State) : PumpWork s (modeChanged sp s) := by
  unfold modeChanged
  split
  · split
    · exact breakTest_work sp s
    · exact engineRaise_work ..
  · exact .refl s

theorem applySpan_work (sp : Span) (k : SpanConfig) (s : State) : PumpWork s (applySpan sp k s) := by
  have stored : PumpWork s (s.setConfig sp k) := .of_pumps rfl
  have far := stored.unless (c := k.neighbour = (s.config sp).neighbour) (f := forgetFar sp) fun _ => .of_pumps rfl
  have off := far.unless (c := k.offStage = (s.config sp).offStage) (f := restartOff sp) fun _ => .of_pumps rfl
  have silence := off.unless (c := k.silenceStage = (s.config sp).silenceStage) (f := restartSilence sp) fun _ => .of_pumps rfl
  have present := silence.unless (c := k.present = (s.config sp).present) (presentChanged_work sp k.present)
  rw [applySpan_eq]
  exact present.unless (modeChanged_work sp)

theorem writeSpan_work (r : Req) (s : State) : PumpWork s (writeSpan r s).s := by
  have owner (sp : Span) (items : List Item) (withheld : List Nat) : PumpWork s (ownerWriteSpan sp items withheld s).s := by
    refine .kind (.refl s) (.kind (.refl s) ?_)
    rw [applied_s]
    exact applySpan_work ..
  unfold writeSpan
  split
  · exact .refl s
  · split
    · exact .refl s
    · refine .kind (.refl s) (.kind (.refl s) ?_)
      split
      · exact .refl s
      · exact owner ..

/-! ### WRITE_PUMP and the other requests for a pump -/

theorem setpointActs_work (ch : Chan) (s : State) : PumpWork s (setpointActs ch s) := by
  cases hl : (s.pump ch).lights with
  | none => rw [setpointActs_none hl]; exact .refl s
  | some sp =>
    rw [setpointActs_some hl]
    have acts : PumpWork s (if (s.st sp).state = .service ∧
        ((s.pump ch).role = .stage → s.lightOf (Config.inSpan (s.pump ch).dir) = .present)
        then riseChannel ch (s.pump ch).service s else s) := .ite (riseChannel_work ..) (.refl s)
    exact acts.trans (completionTest_work ..)

/-- A written entry with its clamps; a new binding clears the pending rise and the count of missing answers (R78, R79). -/
theorem applyPump_work {items : List Item} (hi : inRanges pumpRanges items = true) (ch : Chan) (s : State) :
    PumpWork s (applyPump ch ((s.pump ch).write items) s) := by
  have written : ReflTransGen Pump.Change (s.pump ch) ((s.pump ch).write items).clampSetpoints.clampWork := .single (.written items hi)
  unfold applyPump
  dsimp only
  generalize ((s.pump ch).write items).clampSetpoints.clampWork = q at written ⊢
  have bound : ReflTransGen Pump.Change (s.pump ch)
      (if rebinds (s.pump ch) ((s.pump ch).write items) = true then { q with rise := none, noReply := 0 } else q) := by
    split
    · exact (written.tail .unbound).tail (.link q.sent q.answered 0 fun _ => Nat.zero_le _)
    · exact written
  generalize (if rebinds (s.pump ch) ((s.pump ch).write items) = true then { q with rise := none, noReply := 0 } else q) = q1 at bound ⊢
  have put : PumpWork s (s.putPump ch q1) := putPump_work bound
  have sent : PumpWork s (if q1.level < (s.pump ch).level then sendRecord ch (s.putPump ch q1) else s.putPump ch q1) :=
    .ite (put.trans (sendRecord_work ch _)) put
  exact .ite (sent.trans (testCompletion_work ch _)) (sent.trans (setpointActs_work ch _))

theorem writePump_work (r : Req) (s : State) : PumpWork s (writePump r s).s := by
  have owner (ch : Chan) (items : List Item) (withheld : List Nat) : PumpWork s (ownerWritePump ch items withheld s).s := by
    unfold ownerWritePump
    dsimp only
    split
    · exact .refl s
    next hi =>
      refine .kind (.refl s) ?_
      rw [applied_s]
      exact applyPump_work (by simpa using hi) ch s
  unfold writePump
  split
  · exact .refl s
  · split
    · exact .refl s
    · refine .kind (.refl s) (.kind (.refl s) ?_)
      split
      · exact .refl s
      · exact owner ..

theorem setSetpoint_work (r : Req) (s : State) : PumpWork s (setSetpoint r s).s := by
  have owner (ch : Chan) (v : Nat) : PumpWork s (ownerSetSetpoint ch v s).s := by
    have stored : PumpWork s (s.setPump ch { s.pump ch with service := min v (s.pump ch).ceiling }) := setPump_work (.single (.setpoint v))
    have acts := stored.trans (setpointActs_work ch _)
    exact .kind (.refl s) (.kind acts acts)
  unfold setSetpoint
  split
  · exact .kind (.refl s) (.kind (.refl s) (owner ..))
  · exact .refl s

theorem clearPump_work (r : Req) (s : State) : PumpWork s (clearPump r s).s := by
  have owner (ch : Chan) : PumpWork s (ownerClearPump ch s).s := by
    have held : ReflTransGen Pump.Change (s.pump ch) { (s.pump ch).goHold with noReply := 0 } :=
      (ReflTransGen.single .hold).tail (.link (s.pump ch).sent (s.pump ch).answered 0 fun _ => Nat.zero_le _)
    exact .kind (.refl s) (putPump_work held)
  unfold clearPump
  split
  · exact .kind (.refl s) (.kind (.refl s) (owner _))
  · exact .refl s

/-! ### WRITE_MONITOR, WRITE_EVENT, WRITE_INTERLOCK, CLEAR_INTERLOCK -/

theorem writeMonitor_work (r : Req) (s : State) : PumpWork s (writeMonitor r s).s := by
  have owner (ch : Chan) (items : List Item) : PumpWork s (ownerWriteMonitor ch items s).s := by
    refine .kind (.refl s) ?_
    dsimp only
    split <;> exact .of_pumps rfl
  unfold writeMonitor
  split
  · exact .refl s
  · split
    · exact .refl s
    · exact .kind (.refl s) (.kind (.refl s) (owner ..))

theorem writeEvent_work (r : Req) (s : State) : PumpWork s (writeEvent r s).s := by
  have owner (items : List Item) : PumpWork s (ownerWriteEvent items s).s := by
    unfold ownerWriteEvent
    split
    · exact .refl s
    · dsimp only
      rw [applied_s]
      split <;> exact .of_pumps rfl
  unfold writeEvent
  split
  · exact .refl s
  · exact .kind (.refl s) (.kind (.refl s) (.kind (.refl s) (owner _)))

theorem writeInterlock_work (r : Req) (s : State) : PumpWork s (writeInterlock r s).s := by
  have owner (n : Chan) (items : List Item) : PumpWork s (ownerWriteInterlock n items s).s := .kind (.refl s) (putLine_work ..)
  unfold writeInterlock
  split
  · exact .refl s
  · split
    · exact .refl s
    · exact .kind (.refl s) (.kind (.refl s) (owner ..))

theorem clearInterlock_work (r : Req) (s : State) : PumpWork s (clearInterlock r s).s := by
  unfold clearInterlock
  split
  · exact .kind (.refl s) (.kind (.refl s) (putLine_work ..))
  · exact .refl s

/-! ### SPAN_HOLD, SPAN_RESUME, SPAN_RELEASE, SET_LOOP -/

theorem spanHold_work (r : Req) (s : State) : PumpWork s (spanHold r s).s := by
  unfold spanHold
  split
  · exact .kind (.refl s) (.kind (.refl s) (.of_pumps rfl))
  · exact .refl s

theorem resumeSpan_work (sp : Span) (s : State) : PumpWork s (resumeSpan sp s).s := .ite (.of_pumps rfl) (.refl s)

theorem spanResume_work (r : Req) (s : State) : PumpWork s (spanResume r s).s := by
  unfold spanResume
  split
  · exact .kind (.refl s) (.kind (.refl s) (resumeSpan_work ..))
  · exact .refl s

theorem releaseSpan_work (sp : Span) (s : State) : PumpWork s (releaseSpan sp s).s :=
  .kind (.refl s) (.ite (.of_pumps rfl) (.of_pumps rfl))

theorem spanRelease_work (r : Req) (s : State) : PumpWork s (spanRelease r s).s := by
  unfold spanRelease
  split
  · exact .kind (.refl s) (.kind (.refl s) (releaseSpan_work ..))
  · exact .refl s

theorem loopMoves_work (sp : Span) (old new : Loop) (s : State) : PumpWork s (loopMoves sp old new s) := by
  unfold loopMoves
  split
  case h_1 | h_2 => exact .ite (enterMaint_work ..) (.refl s)
  case h_3 => exact .ite (enterWait_work ..) (.refl s)
  all_goals exact .refl s

theorem setLoop_work (r : Req) (s : State) : PumpWork s (setLoop r s).s := by
  have port (sp : Span) (m : Loop) : PumpWork s (loopPort sp m s).s :=
    .kind (.refl s) (.kind (.refl s) ((loopMoves_work sp _ m (putLoop sp m s)).after rfl))
  unfold setLoop
  split
  · exact .kind (.refl s) (.kind (.refl s) (port ..))
  · exact .refl s

/-! ### WRITE_PART, WRITE_GRANTS -/

theorem departNotices_work (s : State) : PumpWork s (departNotices s) := (departNotices_frame s).work

theorem ownerWritePart_work (first : Bool) (items : List Item) (s : State) : PumpWork s (ownerWritePart first items s).s := by
  have named : PumpWork s (if (s.part.write items).site = s.part.site then { s with part := s.part.write items }
      else clearMismatch .es (clearMismatch .ws { s with part := s.part.write items })) := .ite (.of_pumps rfl) (.of_pumps rfl)
  exact .kind (.refl s) (.kind named (.kind named (named.trans (departNotices_work _))))

theorem writePart_work (r : Req) (s : State) : PumpWork s (writePart r s).s := by
  unfold writePart
  split
  · exact .refl s
  · exact .kind (.refl s) (ownerWritePart_work ..)

theorem writeGrants_work (r : Req) (s : State) : PumpWork s (writeGrants r s).s := by
  have owner (items : List Item) : PumpWork s (ownerWriteGrants items s).s := .kind (.refl s) (.of_pumps rfl)
  unfold writeGrants
  split
  · exact .refl s
  · exact .kind (.refl s) (owner _)

/-! ### START, HALT, CLEAR -/

theorem setRun_work (run : Bool) (s : State) : PumpWork s (setRun run s) := .of_pumps rfl

theorem startSpan_work (sp : Span) (s : State) : PumpWork s (startSpan sp s) := .ite (leaveUnused_work ..) (.refl s)

theorem startPart_work (s : State) : PumpWork s (startPart s) := by
  have spans : PumpWork s (startSpan .es (startSpan .ws (setRun true s))) :=
    (setRun_work true s).trans ((startSpan_work ..).trans (startSpan_work ..))
  unfold startPart
  generalize startSpan .es (startSpan .ws (setRun true s)) = u at spans ⊢
  have supply : PumpWork u (startSupply u) := .ite (raise_work ..) (.refl u)
  exact spans.trans (supply.trans (.of_pumps rfl))

theorem startReq_work (r : Req) (s : State) : PumpWork s (startReq r s).s :=
  .kind (.refl s) (.kind (.refl s) (.kind (.refl s) (startPart_work s)))

theorem haltPart_work (s : State) : PumpWork s (haltPart s) := by
  have emptied (sp : Span) (u : State) : PumpWork u (haltSpan sp u) := .ite (.refl u) (emptySpan_work sp u)
  exact (snuffAll_work s).trans ((emptied .ws _).trans ((emptied .es _).trans (setRun_work ..)))

theorem haltReq_work (r : Req) (s : State) : PumpWork s (haltReq r s).s :=
  .kind (.refl s) (.kind (.refl s) (.kind (.refl s) ((haltPart_work s).trans (raise_work ..))))

theorem clearInput_work (sp : Span) (s : State) : PumpWork s (clearInput sp s) :=
  (lightChanged_work sp _ _ (s.setInp sp _)).after rfl

theorem clearReplies_work (s : State) : PumpWork s (clearReplies s) := by
  refine ⟨fun ch => ?_⟩
  rw [show (clearReplies s).pump ch = { s.pump ch with noReply := 0 } by simp [State.pump, clearReplies]]
  exact .single (.link (s.pump ch).sent (s.pump ch).answered 0 fun _ => Nat.zero_le _)

theorem clearPart_work (s : State) : PumpWork s (clearPart s) := by
  have dark : PumpWork s (if s.part.run then haltPart s else snuffAll s) := .ite (haltPart_work s) (snuffAll_work s)
  have cleared (sp : Span) (u : State) : PumpWork u (clearSpan sp u) := .of_pumps rfl
  rw [clearPart_eq]
  dsimp only
  refine dark.trans ((cleared .ws _).trans ((cleared .es _).trans ((clearInput_work .ws _).trans ((clearInput_work .es _).trans ?_))))
  generalize clearInput .es _ = u
  have runs : PumpWork u (clearRuns { clearPorts u with notices := [] }) := .of_pumps rfl
  exact runs.trans ((clearReplies_work _).trans (raise_work ..))

theorem clearReq_work (r : Req) (s : State) : PumpWork s (clearReq r s).s :=
  .kind (.refl s) (.kind (.refl s) (clearPart_work s))

/-! ### The Request Handler -/

theorem setBase_work (p : Port) (q : PortBase) (s : State) : PumpWork s (s.setBase p q) := .of_pumps (by simp)

theorem sendReply_work (kind : BitVec 5) (r : Req) {a : Answer} (h : PumpWork s a.s) : PumpWork s (sendReply kind r a) := by
  have queued : PumpWork s (a.s.toLocalQueue r.port (replyMsg kind r a)) := h.trans (setBase_work ..)
  exact .ite (queued.trans (departNotices_work _)) queued

theorem readReq_work (r : Req) (s : State) : PumpWork s (readReq r s).s := by rw [readReq_s]; exact .refl s

theorem answer_work (kind : BitVec 5) (r : Req) (s : State) : PumpWork s (answer kind r s).s := by
  unfold answer
  refine .kind (readReq_work r s) ?_
  refine .kind (writeSpan_work r s) ?_
  refine .kind (writePump_work r s) ?_
  refine .kind (setSetpoint_work r s) ?_
  refine .kind (clearPump_work r s) ?_
  refine .kind (writeMonitor_work r s) ?_
  refine .kind (writeEvent_work r s) ?_
  refine .kind (writeInterlock_work r s) ?_
  refine .kind (clearInterlock_work r s) ?_
  refine .kind (spanHold_work r s) ?_
  refine .kind (spanResume_work r s) ?_
  refine .kind (spanRelease_work r s) ?_
  refine .kind (setLoop_work r s) ?_
  refine .kind (writePart_work r s) ?_
  refine .kind (startReq_work r s) ?_
  refine .kind (haltReq_work r s) ?_
  refine .kind (writeGrants_work r s) ?_
  exact .kind (clearReq_work r s) (.refl s)

theorem takeRequest_work (kind : BitVec 5) (r : Req) (s : State) : PumpWork s (takeRequest kind r s) :=
  sendReply_work kind r (answer_work kind r s)

end Sys2Proof.Machine
end

section
/-! SUPPORT. The frame path, the Time Base, the resets and every step as changes of the pump channels. -/

namespace Sys2Proof.Machine

variable {s t u : State} {sp : Span} {ch : Chan}

/-! ### Frames -/

theorem frameTests_work (sp : Span) (w : SpanWord) (s : State) : PumpWork s (frameTests sp w s) := by
  have shut (c : Bool) : PumpWork s (if c then engineRaise sp .farShut (.port sp.port) s else s) := .ite (engineRaise_work ..) (.refl s)
  unfold frameTests
  split
  next => exact shut _
  next => exact (shut _).trans (completionTest_work sp _)
  next => exact .ite (setSt_work ..) (.refl s)
  next =>
    split
    all_goals exact .ite (enterConfirm_work sp s) (.refl s)
  all_goals exact .refl s

theorem validWord_work (sp : Span) (w : SpanWord) (s : State) : PumpWork s (validWord sp w s) :=
  (frameTests_work sp w _).after (s := s) rfl

theorem takeWord_work (sp : Span) (w : SpanWord) (s : State) : PumpWork s (takeWord sp w s) :=
  .ite (validWord_work sp w s) (.ite (.refl s) (.of_pumps rfl))

theorem forwardMsg_work (sp : Span) (m : Msg) (s : State) : PumpWork s (forwardMsg sp m s) := .ite (.refl s) (.of_pumps rfl)

theorem handOn_work (sp : Span) (race : Race) (m : Msg) (s : State) : PumpWork s (handOn sp race m s) :=
  .ite (takeRequest_work ..) (setBase_work ..)

theorem inOrder_work {f g : State → State} (hf : ∀ u, PumpWork u (f u)) (hg : ∀ u, PumpWork u (g u)) (swapped : Bool) (s : State) :
    PumpWork s (inOrder swapped f g s) := by
  obtain e | e := inOrder_cases swapped f g s <;> rw [e]
  · exact (hf s).trans (hg _)
  · exact (hg s).trans (hf _)

theorem routeLine_work (sp : Span) (race : Race) (m : Msg) (s : State) : PumpWork s (routeLine sp race m s) := by
  unfold routeLine
  split_ifs
  · exact .refl s
  · exact handOn_work sp race m s
  · exact inOrder_work (handOn_work sp race m) (forwardMsg_work sp m) _ s
  · exact forwardMsg_work sp m s

theorem routeLocal_work (race : Race) (m : Msg) (s : State) : PumpWork s (routeLocal race m s) := by
  have handle (u : State) : PumpWork u ((if Config.isRequestKind m.kind then takeRequest m.kind (m.request .loc race) else id) u) := by
    split
    · exact takeRequest_work ..
    · exact .refl u
  have send (u : State) : PumpWork u (u.toLocalQueue (dirPort m.dir) m) := setBase_work ..
  unfold routeLocal
  dsimp only
  generalize (if Config.isRequestKind m.kind then takeRequest m.kind (m.request .loc race) else id) = taken at handle ⊢
  split_ifs
  · exact handle s
  · exact inOrder_work handle send _ s
  · exact send s

theorem withMsg_work {f : Msg → State → State} (hf : ∀ m u, PumpWork u (f m u)) (m : Option Msg) (s : State) : PumpWork s (withMsg m f s) := by
  cases m
  · exact .refl s
  · exact hf _ s

theorem takeFrame_work (p : Port) (race : Race) (w : SpanWord) (m : Option Msg) (s : State) : PumpWork s (takeFrame p race w m s) := by
  cases p
  · exact inOrder_work (takeWord_work .ws w) (withMsg_work (routeLine_work .ws race) m) _ s
  · exact inOrder_work (takeWord_work .es w) (withMsg_work (routeLine_work .es race) m) _ s
  · exact withMsg_work (routeLocal_work race) m s

theorem receive_work (p : Port) (race : Race) (fuel : Nat) (s : State) : PumpWork s (receive p race fuel s) := by
  have rest (r : Receiver) {q : PortBase} (u : State) : PumpWork u (setRx p r (u.setBase p q)) := (setBase_work ..).trans (setBase_work ..)
  induction fuel generalizing s with
  | zero => exact .refl s
  | succ fuel ih =>
    unfold receive
    split
    · exact .refl s
    · exact rest _ s
    · exact (rest _ s).trans (ih _)
    · exact (rest _ s).trans ((takeFrame_work p race _ _ _).trans (ih _))

theorem takeBytes_work (p : Port) (race : Race) (bytes : List Byte) (s : State) : PumpWork s (takeBytes p race bytes s) :=
  .ite (.refl s) ((setBase_work ..).trans (receive_work ..))

theorem frameArrives_work (p : Port) (race : Race) (bytes : List Byte) (s : State) : PumpWork s (frameArrives p race bytes s) :=
  .ite (.refl s) (takeBytes_work p race bytes s)

theorem idleArrives_work (p : Port) (s : State) : PumpWork s (idleArrives p s) := by
  unfold idleArrives
  split
  · exact .refl s
  · refine .trans ?_ (setBase_work ..)
    exact .ite (.refl s) (setBase_work ..)

/-! ### Slot starts -/

theorem sendLine_work (sp : Span) (s : State) : PumpWork s (sendLine sp s) := by
  unfold sendLine
  dsimp only
  split <;> exact .of_pumps rfl

theorem sendLocal_work (s : State) : PumpWork s (sendLocal s) := .of_pumps rfl

theorem loopBack_work (sp : Span) (race : Race) (bytes : List Byte) (s : State) : PumpWork s (loopBack sp race bytes s) :=
  .ite (takeBytes_work _ race bytes s) (.refl s)

theorem startSlot_work (race : Race) (eastFirst : Bool) (s : State) : PumpWork s (startSlot race eastFirst s) := by
  unfold startSlot
  split
  · have begun : PumpWork s { s with
        time := { s.time with prescaler := Config.slotPeriods * s.time.slotNext, slotNext := s.time.slotNext + 1 }
        lines := ⟨(s.line .ws).latchLoop, (s.line .es).latchLoop⟩ } := .of_pumps rfl
    have sent := begun.trans ((sendLine_work .ws _).trans ((sendLine_work .es _).trans (sendLocal_work _)))
    exact sent.trans (inOrder_work departNotices_work (inOrder_work (loopBack_work .ws race _) (loopBack_work .es race _) eastFirst) _ _)
  · exact .refl s

/-! ### Ticks -/

theorem stepTick_work (ch : Chan) (s : State) : PumpWork s (stepTick ch s) := by
  have linked : PumpWork s (forChans takeLink s) := .forChans takeLink_work s
  unfold stepTick
  dsimp only
  generalize forChans takeLink s = u at linked ⊢
  exact linked.trans ((setPump_work (.single (.step _))).trans (testCompletion_work ch _))

theorem runJob_work (j : TickJob) (s : State) : PumpWork s (runJob j s) := by
  cases j with
  | silence sp => exact silenceTick_work sp s
  | offTimer sp => exact offTick_work sp s
  | slot sp => exact slotTick_work sp s
  | monitor ch => exact monitorTick_work ch s
  | interlock n => exact putLine_work ..
  | check ch => exact checkTick_work ch s
  | link ch => exact linkTick_work ch s
  | step ch => unfold runJob; exact stepTick_work ch s
  | settle => exact settleTick_work s

theorem takeJob_work (j : TickJob) (s : State) : PumpWork s (takeJob j s) :=
  .ite ((runJob_work j (s.dropJob j)).after rfl) (.refl s)

theorem takeJobs_work (js : List TickJob) (s : State) : PumpWork s (takeJobs js s) :=
  takeJobs_induct (P := PumpWork s) (fun j _ h => h.trans (takeJob_work j _)) js (.refl s)

theorem giveTick_work (levels : BitVec 8) (order : List TickJob) (s : State) : PumpWork s (giveTick levels order s) :=
  (takeJobs_work s.owed s).trans ((takeJobs_work order _).after rfl)

theorem takeWhere_work (j : TickJob) (happens : State → State → Bool) (s : State) : PumpWork s (takeWhere j happens s) :=
  .ite (takeJob_work j s) (.refl s)

/-! ### Resets -/

theorem resetPart_work (s : State) : PumpWork s (resetPart s) := by
  refine ⟨fun ch => ?_⟩
  rw [show (resetPart s).pump ch = .reset from reset_pump ch]
  exact .single .reset

theorem assertReset_work (w e l : Bool) (s : State) : PumpWork s (assertReset w e l s) := (resetPart_work s).trans (.of_pumps rfl)

theorem releaseReset_work (s : State) : PumpWork s (releaseReset s) := .ite (.of_pumps rfl) (.of_pumps rfl)

/-! ### Steps -/

theorem fresh_work (s : State) : PumpWork s s.fresh := .of_pumps rfl

theorem unlessReset_work {f : State → State} (hf : ∀ u, PumpWork u (f u)) (s : State) : PumpWork s (s.unlessReset f) :=
  unlessReset_induct (P := PumpWork s) (fresh_work s) fun h => h.trans (hf _)

theorem request_work {kind : BitVec 5} {r : Req} {f : Req → State → Answer} (hf : ∀ u, PumpWork u (f r u).s) (s : State) :
    PumpWork s (s.unlessReset fun s => sendReply kind r (f r s)) :=
  unlessReset_work (fun u => sendReply_work kind r (hf u)) s

/-- Every command that is taken changes each pump channel by the changes of a channel. -/
theorem exec_work {i : Instr} (he : exec i s = .next t) : PumpWork s t := by
  cases i with
  | powerOnReset => exact holds_of_next he rfl (resetPart_work s)
  | resetAssert w e l => exact holds_of_next he rfl (assertReset_work w e l s)
  | resetRelease => exact holds_of_next he rfl (releaseReset_work s)
  | tick levels order => exact holds_of_next he rfl (unlessReset_work (giveTick_work levels order) s)
  | slotStart race eastFirst => exact holds_of_next he rfl (unlessReset_work (startSlot_work race eastFirst) s)
  | offExpired | portSilent | darkTimeout | confirmTimeout | probeExpiry | pulseEnd | minDarkEnd | rampComplete | monitorStale
  | driverLost | settleEnd | probeStart => exact holds_of_next he rfl (unlessReset_work (takeWhere_work _ _) s)
  | confirmCompletion sp => exact holds_of_next he rfl (unlessReset_work (completionTest_work sp) s)
  | frameReceived p race bytes => exact holds_of_next he rfl (unlessReset_work (frameArrives_work p race bytes) s)
  | sampleWord b0 b1 b2 => exact holds_of_next he rfl (unlessReset_work (takeSample_work _ _) s)
  | statusRecord b => exact holds_of_next he rfl (unlessReset_work (takeStatus_work _ _) s)
  | supplyGoodFall => exact holds_of_next he rfl ((unlessReset_work supplyFall_work (setSupplyPin false s)).after rfl)
  | supplyGoodRise => exact holds_of_next he rfl ((unlessReset_work supplyRise_work (setSupplyPin true s)).after rfl)
  | rise ch x =>
    exact holds_of_next he rfl (unlessReset_work (fun u => (riseChannel_work ch x u).trans (testCompletion_work ch _)) s)
  | pulse ch level length => exact holds_of_next he rfl (unlessReset_work (pulseChannel_work ch level length) s)
  | douse ch => exact holds_of_next he rfl (unlessReset_work (douseChannel_work ch) s)
  | snuff ch => exact holds_of_next he rfl (unlessReset_work (snuffChannel_work ch) s)
  | eventTaken src => exact holds_of_next he rfl (unlessReset_work (takeOldest_work src) s)
  | noticeDeparture => exact holds_of_next he rfl (unlessReset_work departNotices_work s)
  | read r => exact holds_of_next he rfl (request_work (readReq_work r) s)
  | writeSpan r => exact holds_of_next he rfl (request_work (writeSpan_work r) s)
  | writePump r => exact holds_of_next he rfl (request_work (writePump_work r) s)
  | setSetpoint r => exact holds_of_next he rfl (request_work (setSetpoint_work r) s)
  | clearPump r => exact holds_of_next he rfl (request_work (clearPump_work r) s)
  | writeMonitor r => exact holds_of_next he rfl (request_work (writeMonitor_work r) s)
  | writeEvent r => exact holds_of_next he rfl (request_work (writeEvent_work r) s)
  | writeInterlock r => exact holds_of_next he rfl (request_work (writeInterlock_work r) s)
  | clearInterlock r => exact holds_of_next he rfl (request_work (clearInterlock_work r) s)
  | spanHold r => exact holds_of_next he rfl (request_work (spanHold_work r) s)
  | spanResume r => exact holds_of_next he rfl (request_work (spanResume_work r) s)
  | spanRelease r => exact holds_of_next he rfl (request_work (spanRelease_work r) s)
  | setLoop r => exact holds_of_next he rfl (request_work (setLoop_work r) s)
  | writePart r => exact holds_of_next he rfl (request_work (writePart_work r) s)
  | start r => exact holds_of_next he rfl (request_work (startReq_work r) s)
  | halt r => exact holds_of_next he rfl (request_work (haltReq_work r) s)
  | writeGrants r => exact holds_of_next he rfl (request_work (writeGrants_work r) s)
  | clear r => exact holds_of_next he rfl (request_work (clearReq_work r) s)
  | unknownRequest kind r => exact holds_of_next he rfl (unlessReset_work (takeRequest_work kind r) s)
  | idleFillReceived p => exact holds_of_next he rfl (unlessReset_work (idleArrives_work p) s)

/-- Every step changes each pump channel by the changes of a channel. -/
theorem step_work (hs : step s = .next t) : PumpWork s t := by
  cases hp : s.pending with
  | nil => exact holds_of_next hs (step_nil hp) (.refl s)
  | cons i rest =>
    rw [step_cons hp] at hs
    exact (exec_work hs).after (s := s) rfl

/-- Settles O48: every step is work on the pump channels, and each change keeps a channel within its ceiling and fit for its state. -/
theorem pumpsStayWithinCeilings : Obligations.PumpsStayWithinCeilings := fun _ _ hs h => (step_work h).sound hs

end Sys2Proof.Machine
end

section
/-! SUPPORT. The Pump Link's records and the loss of a driver: a record at a tick, the third missing answer, a status record. -/

namespace Sys2Proof.Machine

variable {s t : State} {ch : Chan} {q : Pump} {e : Event} {b : Byte}

/-! ### A record at a tick -/

/-- The bits of a setpoint record: the channel in 15 to 13, the run flag in 12, the level below (R97). -/
theorem setpointRecord_eq (ch : Chan) (level : Nat) :
    setpointRecord ch level = BitVec.ofNat 16 (ch.val * 8192 + (if 0 < level then 4096 else 0) + level) := by
  unfold setpointRecord
  by_cases h : 0 < level <;> simp [h]

theorem setpointRecord_zero (ch : Chan) : setpointRecord ch 0 = BitVec.ofNat 16 (ch.val * 8192) := by
  simp [setpointRecord_eq]

theorem takeLink_of_mem (h : .link ch ∈ s.owed) : takeLink ch s = linkTick ch (s.dropJob (.link ch)) :=
  if_pos (by simpa [State.owes] using h)

/-- Settles O8: the record a tick sends first follows the checks of all channels. -/
theorem tickSendsSetpointRecord : Obligations.TickSendsSetpointRecord := by
  intro levels s ch hr ho hu ha checked
  have link_mem (c : Chan) : TickJob.link c ∈ Config.allJobs := by revert c; decide
  have check_mem (c : Chan) : TickJob.check c ∈ Config.allJobs := by revert c; decide
  have run : exec (.tick levels [.link ch]) s = .next (takeLink ch (s.ticked levels)) := by
    rw [exec_tick_one levels hr ho (link_mem ch), takeLink_of_mem (s := s.ticked levels) (link_mem ch)]; rfl
  have linking : Linking (s.ticked levels) [ch] (takeLink ch (s.ticked levels)) := linking_first (link_mem ch) check_mem ha
  have own : (takeLink ch (s.ticked levels)).pump ch = (s.pump ch).linked := by rw [linking.pump, if_pos (by simp)]; rfl
  refine ⟨_, run, ?_, ?_, fun c hc => ?_, ?_⟩
  · have record : (s.ticked levels).record ch = [.setpoint (setpointRecord ch (s.pump ch).level)] := if_neg hu
    rw [linking.out, List.flatMap_singleton, record, setpointRecord_eq]; rfl
  · have used : decide ((s.pump ch).role ≠ .unused) = true := decide_eq_true hu
    rw [own, Pump.linked, used]
  · rw [linking.pump, if_neg (by simpa using hc)]; rfl
  · rw [linking.frame.eq]; rfl

/-! ### Entry to FAULTED -/

/-- A channel whose new record leaves its state, not from ramp to ramp: a step of the tick not yet taken is dropped (log 4). -/
theorem putPump_leaves (hq : q.state ≠ (s.pump ch).state) (hr : q.state.ramping = false ∨ (s.pump ch).state.ramping = false) :
    s.putPump ch q = (s.setPump ch q).dropJob (.step ch) :=
  if_neg (by rintro (h | ⟨h1, h2⟩); exacts [hq h, by simp [h1, h2] at hr])

/-- The span of a driver's event: that of a LAUNCH or COUNTER pump, none for a STAGE pump (R101). -/
theorem driverSpan_eq {r : Role} (h : r ≠ .unused) (sp : Span) :
    (if r = .launch ∨ r = .counter then EvSpan.one sp else .none_) = if r = .stage then .none_ else .one sp := by
  cases r
  · exact absurd rfl h
  all_goals rfl

/-- A used channel whose new record is not in FAULTED enters it, with an extra record of level 0 and its event (R99, R101). -/
theorem faultChannel_setPump (hu : q.role ≠ .unused) (hs : q.state ≠ .faulted) :
    faultChannel e ch (s.setPump ch q)
      = { (s.setPump ch q.goFaulted).dropJob (.step ch) with
          out := s.out ++ [.setpoint (BitVec.ofNat 16 (ch.val * 8192))]
          raised := s.raised ++
            [⟨.pumpLink, e, if q.role = .stage then .none_ else .one q.span, .pump ch, s.time.tickCount, false⟩] } := by
  have put : (s.setPump ch q).putPump ch q.goFaulted = (s.setPump ch q.goFaulted).dropJob (.step ch) := by
    rw [putPump_leaves (by rw [State.setPump_pump_self]; exact hs.symm) (.inl rfl), State.setPump_setPump]
  have own : ((s.setPump ch q.goFaulted).dropJob (.step ch)).pump ch = q.goFaulted := State.setPump_pump_self ..
  have used : ¬ q.goFaulted.role = .unused := hu
  unfold faultChannel
  dsimp only
  rw [State.setPump_pump_self, put, sendRecord_spec, own, if_neg used, ← driverSpan_eq hu, ← setpointRecord_zero]
  rfl

/-- A channel whose driver fails is in FAULTED (R99). -/
theorem faultChannel_faulted (e : Event) (ch : Chan) (s : State) : ((faultChannel e ch s).pump ch).state = .faulted := by
  unfold faultChannel
  dsimp only
  rw [sendRecord_spec]
  show ((s.putPump ch (s.pump ch).goFaulted).pump ch).state = _
  rw [putPump_pump, if_pos rfl]; rfl

/-- A third missing answer is counted, and the channel enters FAULTED (R100). -/
theorem checkTick_third (h1 : (s.pump ch).sent = true) (h2 : (s.pump ch).answered = false) (h3 : 2 ≤ (s.pump ch).noReply)
    (hs : (s.pump ch).state ≠ .faulted) :
    checkTick ch s = faultChannel .driverLost ch (s.setPump ch { s.pump ch with noReply := 3, answered := false }) := by
  have missed : ((s.pump ch).sent && !(s.pump ch).answered) = true := by simp [h1, h2]
  have third : satSucc 3 (s.pump ch).noReply = 3 := by unfold satSucc; omega
  obtain ⟨-, e⟩ | ⟨h, -⟩ := checkTick_cases ch s
  · rw [e, if_pos missed, third]
  · exact absurd ⟨missed, by rw [if_pos missed, third], hs⟩ h

/-- Settles O24. -/
theorem thirdMissingAnswerFaults : Obligations.ThirdMissingAnswerFaults := by
  intro s ch hr hj hu h1 h2 h3 hs
  have third : checkTick ch (s.fresh.dropJob (.check ch)) = _ := checkTick_third h1 h2 h3 hs
  have fails : driverFails ch s.fresh (checkTick ch (s.fresh.dropJob (.check ch))) = true := by
    rw [driverFails, Bool.and_eq_true, third]
    exact ⟨decide_eq_true hs, decide_eq_true (faultChannel_faulted ..)⟩
  rw [exec, execDriverLost, unlessReset_free hr, takeWhere_eq (s := s.fresh) (j := .check ch) hj rfl fails]
  exact congrArg _ (third.trans (faultChannel_setPump hu hs))

/-! ### A status record -/

theorem statusChan_of (h : b.toNat / 32 = ch.val) : statusChan b = ch := by rw [statusChan, h, chanOf_val]

theorem statusFault_iff (b : Byte) : statusFault b = true ↔ b.toNat % 2 = 1 := by
  rw [statusFault, BitVec.getLsbD, Nat.testBit_zero]
  exact decide_eq_true_iff

/-- Settles O25. -/
theorem statusRecordTaken : Obligations.StatusRecordTaken := by
  intro s b ch hr hb
  have run : exec (.statusRecord b) s = .next (takeStatus ch (statusFault b) s.fresh) := by
    rw [exec, execStatusRecord, unlessReset_free hr, statusChan_of hb]
  rw [run]
  refine ⟨fun hu => ?_, fun hu h => ?_, fun hu hf hs => ?_⟩
  · exact congrArg _ (if_pos hu)
  · have quiet : ¬ (statusFault b = true ∧ (s.pump ch).state ≠ .faulted) := by
      rw [statusFault_iff]; rintro ⟨h1, h2⟩
      obtain h | h := h
      · omega
      · exact h2 h
    exact congrArg _ ((if_neg hu).trans (if_neg quiet))
  · have fault : takeStatus ch (statusFault b) s.fresh
        = faultChannel .driverFault ch (s.fresh.setPump ch { s.pump ch with answered := true, noReply := 0 }) :=
      (if_neg hu).trans (if_pos ⟨(statusFault_iff b).mpr hf, hs⟩)
    exact congrArg _ (fault.trans (faultChannel_setPump hu hs))

end Sys2Proof.Machine
end

section
/-! SUPPORT. RISE, PULSE, DOUSE and SNUFF from outside, by the state of the channel. -/

namespace Sys2Proof.Machine

variable {s t : State} {sp : Span} {ch : Chan} {p q : Pump}

/-! ### RISE -/

/-- RISE to a channel whose span may light: the channel takes it, and its span tests completion (R30, R84). -/
theorem exec_rise (hr : s.pins.resetLine = false) (hm : s.mayRise (s.pump ch) = true) (x : Nat) :
    exec (.rise ch x) s = .next (testCompletion ch (s.fresh.putPump ch ((s.pump ch).takeRise x))) := by
  have rises : riseChannel ch x s.fresh = s.fresh.putPump ch ((s.pump ch).takeRise x) := if_pos hm
  rw [exec, execRise, unlessReset_free hr, rises]

/-- A RISE that is not taken tests a span that is not in CONFIRM: it changes nothing. -/
theorem exec_rise_refused (hr : s.pins.resetLine = false) (hm : s.mayRise (s.pump ch) = false)
    (hc : ∀ sp, (s.pump ch).lights = some sp → (s.st sp).state ≠ .confirm) (x : Nat) : exec (.rise ch x) s = .next s.fresh := by
  have refused : riseChannel ch x s.fresh = s.fresh := if_neg (Bool.eq_false_iff.mp hm)
  rw [exec, execRise, unlessReset_free hr, refused, testCompletion_still (s := s.fresh) hc]

/-- Out of CONFIRM and SERVICE, or with no span, a pump may not rise. -/
theorem mayRise_closed (h : ∀ sp, p.lights = some sp → (s.st sp).state ≠ .confirm ∧ (s.st sp).state ≠ .service) :
    s.mayRise p = false := by
  cases hl : p.lights with
  | none => simp only [State.mayRise, hl]
  | some sp =>
    obtain ⟨confirm, service⟩ := h sp hl
    rw [mayRise_lights hl, Bool.and_eq_false_iff]
    exact .inr (by rw [Bool.eq_false_iff, ne_eq, isOpen_iff]; exact not_or.mpr ⟨confirm, service⟩)

theorem testCompletion_pump (ch c : Chan) (s : State) : (testCompletion ch s).pump c = s.pump c := (testCompletion_frame ch s).pump c

/-- RISE by the channel's state, the rows of the table written out (R84). -/
theorem takeRise_eq (p : Pump) (x : Nat) :
    p.takeRise x =
      (let y := min x p.ceiling
       match p.state with
       | .dark => if 0 < y then { p with state := .rising, target := some y } else p
       | .darkHold => { p with rise := if 0 < y then some y else none }
       | .faulted => p
       | .rising | .lit | .falling | .pulsing => p.retarget y) := by
  unfold Pump.takeRise
  cases p.state <;> rfl

/-- Settles O26. -/
theorem riseByChannelState : Obligations.RiseByChannelState := by
  refine fun s ch x hr => ⟨fun sp hrun hl ho => ?_, fun _ hc => exec_rise_refused hr (mayRise_closed hc) (fun sp hl => (hc sp hl).1) x⟩
  have may : s.mayRise (s.pump ch) = true := by rw [mayRise_lights hl, hrun, (isOpen_iff _).mpr ho]; rfl
  have pump (c : Chan) : (s.fresh.putPump ch ((s.pump ch).takeRise x)).pump c = if c = ch then (s.pump ch).takeRise x else s.pump c :=
    putPump_pump ..
  have frame : PumpFrame s.fresh (s.fresh.putPump ch ((s.pump ch).takeRise x)) := putPump_frame ..
  have out : (s.fresh.putPump ch ((s.pump ch).takeRise x)).out = [] := putPump_out ..
  refine ⟨_, exec_rise hr may x, fun hs => ?_, fun c hc => ?_, ?_⟩
  · have quiet : testCompletion ch (s.fresh.putPump ch ((s.pump ch).takeRise x)) = s.fresh.putPump ch ((s.pump ch).takeRise x) := by
      refine testCompletion_still fun sp' hl' => ?_
      rw [pump, if_pos rfl, (takeRise_keeps _ _).lights_eq, hl] at hl'
      obtain rfl := Option.some.inj hl'
      rw [frame.st]
      exact fun h => absurd (hs.symm.trans h) (by decide)
    rw [quiet, frame.eq, out]; rfl
  · rw [testCompletion_pump, pump, if_neg hc]
  · rw [testCompletion_pump, pump, if_pos rfl]
    exact takeRise_eq ..

/-! ### PULSE -/

/-- PULSE to a channel whose record of the tick is not owed (R85). -/
theorem pulseChannel_of_not_mem (h : .link ch ∉ s.owed) (level length : Nat) :
    pulseChannel ch level length s
      = if (s.pump ch).role = .launch ∧ s.part.run = true ∧ (s.st (s.pump ch).span).state = .probe ∧ (s.pump ch).state = .dark then
          s.putPump ch ((s.pump ch).takePulse level length)
        else s := by
  have linked : takeLink ch s = s := by
    obtain ⟨g, -⟩ | ⟨-, e⟩ := takeLink_cases ch s
    · exact absurd g h
    · exact e
  unfold pulseChannel
  dsimp only
  rw [linked]

/-! ### SNUFF -/

/-- The extra record of SNUFF (R98). -/
theorem snuffChannel_out (ch : Chan) (s : State) :
    (snuffChannel ch s).out
      = s.out ++ if (s.pump ch).role = .unused then [] else [.setpoint (setpointRecord ch (s.pump ch).takeSnuff.level)] := by
  obtain ⟨o, -, e⟩ := snuffChannel_spec ch s
  rw [e, takeSnuff_role]

/-- DOUSE by the channel's state, the rows of the table written out (R86). -/
theorem takeDouse_eq (p : Pump) :
    p.takeDouse =
      match p.state with
      | .dark | .faulted => p
      | .darkHold => { p with rise := none }
      | .rising | .lit | .falling => if p.level = 0 then p.goHold else { p with state := .falling, target := some 0 }
      | .pulsing => { p with state := .falling, target := some 0, pulseLen := none, pulseCount := 0 } := by
  unfold Pump.takeDouse
  cases p.state <;> rfl

/-- Settles O27. -/
theorem pulseDouseSnuffByChannelState : Obligations.PulseDouseSnuffByChannelState := by
  intro s ch hr p hold
  refine ⟨fun level len hl => ?_, ?_, ?_⟩
  · have run : exec (.pulse ch level len) s = .next (pulseChannel ch level len s.fresh) := by rw [exec, execPulse, unlessReset_free hr]
    have taken := pulseChannel_of_not_mem (s := s.fresh) hl level len
    split
    next h =>
      have ⟨_, _, _, hd⟩ := h
      have dark : (s.fresh.pump ch).state = .dark := hd
      have pulse : p.takePulse level len = _ := takePulse_dark hd level len
      have leaves : s.fresh.putPump ch (p.takePulse level len) = (s.fresh.setPump ch (p.takePulse level len)).dropJob (.step ch) :=
        putPump_leaves (by rw [pulse, dark]; exact PumpState.noConfusion) (.inr (by rw [dark]; rfl))
      rw [run, taken.trans (if_pos h), ← pulse]
      exact congrArg _ leaves
    next h => rw [run, taken.trans (if_neg h)]
  · refine ⟨douseChannel ch s.fresh, ?_, ?_, fun c hc => ?_, ?_⟩
    · rw [exec, execDouse, unlessReset_free hr]
    · have frame : PumpFrame s.fresh (douseChannel ch s.fresh) := putPump_frame ..
      have out : (douseChannel ch s.fresh).out = [] := putPump_out ..
      rw [frame.eq, out]; rfl
    · exact (putPump_pump ..).trans (if_neg hc)
    · have own : (douseChannel ch s.fresh).pump ch = p.takeDouse := (putPump_pump ..).trans (if_pos rfl)
      rw [own, takeDouse_eq]
      rfl
  · refine ⟨snuffChannel ch s.fresh, ?_, ?_, fun c hc => ?_, ?_, ?_⟩
    · rw [exec, execSnuff, unlessReset_free hr]
    · have frame : PumpFrame s.fresh (snuffChannel ch s.fresh) := snuffChannel_frame ..
      rw [frame.eq]; rfl
    · exact (snuffChannel_pump ..).trans (if_neg hc)
    · exact ((snuffChannel_pump ..).trans (if_pos rfl)).trans (takeSnuff_eq p)
    · have own : (snuffChannel ch s.fresh).pump ch = p.takeSnuff := (snuffChannel_pump ..).trans (if_pos rfl)
      rw [own]
      exact (snuffChannel_out ..).trans (List.nil_append _)

end Sys2Proof.Machine
end

section
/-! SUPPORT. What a written pump entry, a stored setpoint and a cleared fault leave. -/

namespace Sys2Proof.Machine

variable {s t : State} {sp : Span} {ch : Chan} {p p' q : Pump} {code : Nat} {bytes : List Byte}

/-! ### The clamps of an entry -/

/-- Level, target and pending rise within the ceiling (R79). -/
def Pump.WorkBelow (p : Pump) : Prop := p.level ≤ p.ceiling ∧ (∀ x ∈ p.target, x ≤ p.ceiling) ∧ ∀ x ∈ p.rise, 1 ≤ x ∧ x ≤ p.ceiling

theorem Pump.BelowCeiling.work (h : p.BelowCeiling) : p.WorkBelow := by
  obtain ⟨-, -, -, work⟩ := h
  exact work

/-- Setpoints within the ceiling are not clamped. -/
theorem Pump.BelowCeiling.setpoints (h : p.BelowCeiling) : min p.service p.ceiling = p.service ∧ min p.probe p.ceiling = p.probe := by
  obtain ⟨-, service, probe, -⟩ := h
  exact ⟨min_eq_left service, min_eq_left probe⟩

theorem Pump.WorkBelow.target_eq (h : p.WorkBelow) : p.target.map (min · p.ceiling) = p.target := by
  obtain ⟨-, target, -⟩ := h
  cases e : p.target with
  | none => rfl
  | some x => exact congrArg some (min_eq_left (target x e))

theorem Pump.WorkBelow.rise_eq (h : p.WorkBelow) : clampRise p.ceiling p.rise = p.rise := by
  obtain ⟨-, -, rise⟩ := h
  cases e : p.rise with
  | none => rfl
  | some x =>
    obtain ⟨pos, le⟩ := rise x e
    rw [clampRise, min_eq_left le, if_neg (by omega)]

/-- Where level, target and pending rise lie within the ceiling, no clamp of the work acts. -/
theorem Pump.WorkBelow.clampWork (h : p.WorkBelow) : p.clampWork = p := by
  have level : min p.level p.ceiling = p.level := min_eq_left h.1
  unfold Pump.clampWork
  simp only [level, h.target_eq, h.rise_eq, lt_self_iff_false, ne_eq, not_true_eq_false, or_self, false_and, if_false]
  split <;> rfl

/-- Then only a setpoint above the ceiling is clamped (R79). -/
theorem Pump.WorkBelow.clamped (h : p.WorkBelow) : p.clamped = (decide (p.ceiling < p.service) || decide (p.ceiling < p.probe)) := by
  simp [Pump.clamped, h.target_eq, h.rise_eq, h.1]

/-- A ceiling stored between 0 and the level of a LIT pump clamps the level (R79). -/
theorem clampWork_lit (hs : p.state = .lit) (ht : p.target = none) (hr : p.rise = none) (hpos : 1 ≤ p.ceiling) (hlt : p.ceiling < p.level) :
    p.clampWork = { p with level := p.ceiling } := by
  have level : min p.level p.ceiling = p.ceiling := min_eq_right hlt.le
  have pos : ¬ p.ceiling = 0 := by omega
  unfold Pump.clampWork
  simp only [hs, ht, hr, level, hlt, pos, clampRise, Option.map_none, and_false, if_true, if_false]

/-- The codes of a reply to a write of one field: that of a setpoint above the ceiling. -/
theorem clampedCodes_one (ceiling : Nat) :
    clampedCodes [(code, bytes)] ceiling = if (code = 5 ∨ code = 6) ∧ ceiling < beNat bytes then [code] else [] := by
  by_cases h5 : code = 5
  · subst h5; by_cases h : ceiling < beNat bytes <;> simp [clampedCodes, itemVal, h]
  · by_cases h6 : code = 6
    · subst h6; by_cases h : ceiling < beNat bytes <;> simp [clampedCodes, itemVal, h]
    · simp [clampedCodes, itemVal, h5, h6]

/-! ### New bindings -/

/-- An entry that differs in its binding only is bound anew exactly where it differs. -/
theorem rebinds_iff (h : q = { p with role := q.role, span := q.span, dir := q.dir }) : rebinds p q = true ↔ q ≠ p := by
  rw [rebinds, decide_eq_true_iff]
  refine ⟨?_, fun hne => ?_⟩
  · rintro hne rfl
    simp at hne
  · by_contra hno
    obtain ⟨role, span, dir⟩ : q.role = p.role ∧ q.span = p.span ∧ q.dir = p.dir := by simpa [not_or] using hno
    exact hne (by rw [h, role, span, dir])

theorem rebinds_false (h1 : p'.role = p.role) (h2 : p'.span = p.span) (h3 : p'.dir = p.dir) : rebinds p p' = false := by
  simp [rebinds, h1, h2, h3]

/-- The span a pump lights, as R78 asks for it. -/
theorem litSpan_iff (s : State) (p : Pump) :
    s.litSpan p = true ↔ ∃ sp, p.lights = some sp ∧ ((s.st sp).state = .probe ∨ (s.st sp).state = .confirm ∨ (s.st sp).state = .service) := by
  cases hl : p.lights with
  | none => simp [State.litSpan, hl]
  | some sp => simp [State.litSpan, hl, lit_iff, or_assoc]

/-- The second step of R78 for an entry with the probe setpoint as held. -/
theorem pumpStateBad_binding (hp : p'.probe = p.probe) :
    pumpStateBad p p' s = true ↔ rebinds p p' = true ∧ s.part.run = true
      ∧ (0 < p.level ∨ (p.state ≠ .dark ∧ p.state ≠ .darkHold) ∨ s.litSpan p = true ∨ s.litSpan p' = true) := by
  simp [pumpStateBad, hp, and_assoc, or_assoc]

/-- The second step of R78 for an entry with the binding as held. -/
theorem pumpStateBad_probe (h : rebinds p p' = false) : pumpStateBad p p' s = true ↔ p'.probe ≠ p.probe ∧ p.state = .pulsing := by
  simp [pumpStateBad, h]

theorem pumpStateBad_false (h : rebinds p p' = false) (hp : p'.probe = p.probe) : pumpStateBad p p' s = false := by
  simp [pumpStateBad, h, hp]

/-! ### An applied entry -/

theorem putPump_same_state (h : q.state = (s.pump ch).state) : s.putPump ch q = s.setPump ch q := if_pos (.inl h)

/-- An entry that keeps the channel's state and level: no record goes out, and a service setpoint that changed acts (R80). -/
theorem applyPump_kept (hb : rebinds (s.pump ch) p' = false) (hq : p'.clampSetpoints.clampWork = q) (hs : q.state = (s.pump ch).state)
    (hl : q.level = (s.pump ch).level) :
    applyPump ch p' s
      = if q.service = (s.pump ch).service then testCompletion ch (s.setPump ch q) else setpointActs ch (s.setPump ch q) := by
  unfold applyPump
  dsimp only
  rw [hb, hq, if_neg Bool.false_ne_true, putPump_same_state hs, if_neg hl.not_lt]

/-- A new binding clears the pending rise and the count of missing answers (R78). -/
theorem applyPump_bound (hb : rebinds (s.pump ch) p' = true) (hq : p'.clampSetpoints.clampWork = q) (hs : q.state = (s.pump ch).state)
    (hl : q.level = (s.pump ch).level) (hv : q.service = (s.pump ch).service) :
    applyPump ch p' s = testCompletion ch (s.setPump ch { q with rise := none, noReply := 0 }) := by
  unfold applyPump
  dsimp only
  rw [hb, hq, if_pos rfl, putPump_same_state (q := { q with rise := none, noReply := 0 }) hs, if_neg hl.not_lt, if_pos hv]

/-- A level that the ceiling clamps goes out at once (R79, R98). -/
theorem applyPump_lowered (hb : rebinds (s.pump ch) p' = false) (hq : p'.clampSetpoints.clampWork = q) (hs : q.state = (s.pump ch).state)
    (hl : q.level < (s.pump ch).level) (hv : q.service = (s.pump ch).service) :
    applyPump ch p' s = testCompletion ch (sendRecord ch (s.setPump ch q)) := by
  unfold applyPump
  dsimp only
  rw [hb, hq, if_neg Bool.false_ne_true, putPump_same_state hs, if_pos hl, if_pos hv]

/-! ### A stored service setpoint -/

/-- A pump whose span is in neither SERVICE nor CONFIRM, or that lights none. -/
def State.Dim (s : State) (p : Pump) : Prop := ∀ sp, p.lights = some sp → (s.st sp).state ≠ .service ∧ (s.st sp).state ≠ .confirm

theorem testCompletion_dim (h : s.Dim (s.pump ch)) : testCompletion ch s = s := testCompletion_still fun sp hl => (h sp hl).2

/-- A setpoint of such a pump is stored only (R94). -/
theorem setpointActs_dim (h : s.Dim (s.pump ch)) : setpointActs ch s = s := by
  cases hl : (s.pump ch).lights with
  | none => exact setpointActs_none hl
  | some sp =>
    obtain ⟨service, confirm⟩ := h sp hl
    rw [setpointActs_some hl, if_neg fun g => service g.1, completionTest_of_state confirm]

/-- A LAUNCH or COUNTER pump LIT in SERVICE is retargeted to a setpoint other than its level (R84, R94). -/
theorem setpointActs_lit (hr : s.part.run = true) (ho : (s.pump ch).role = .launch ∨ (s.pump ch).role = .counter)
    (hs : (s.st (s.pump ch).span).state = .service) (hl : (s.pump ch).state = .lit) (hc : (s.pump ch).service ≤ (s.pump ch).ceiling)
    (hne : (s.pump ch).level ≠ (s.pump ch).service) :
    setpointActs ch s
      = (s.setPump ch
          { s.pump ch with
            state := if (s.pump ch).level < (s.pump ch).service then .rising else .falling
            target := some (s.pump ch).service, pulseLen := none, pulseCount := 0 }).dropJob (.step ch) := by
  have lights : (s.pump ch).lights = some (s.pump ch).span := of_lights (by simpa [Pump.of] using ho)
  have may : s.mayRise (s.pump ch) = true := by rw [mayRise_lights lights, hr, hs]; rfl
  have taken : (s.pump ch).takeRise (s.pump ch).service
      = { s.pump ch with
          state := if (s.pump ch).level < (s.pump ch).service then .rising else .falling
          target := some (s.pump ch).service, pulseLen := none, pulseCount := 0 } := by
    rw [takeRise_eq]
    simp only [hl, min_eq_left hc]
    unfold Pump.retarget
    by_cases h : (s.pump ch).level < (s.pump ch).service
    · simp only [if_pos h]
    · have above : (s.pump ch).service < (s.pump ch).level := by omega
      simp only [if_neg h, if_pos above]
  have stage : (s.pump ch).role = .stage → s.lightOf (Config.inSpan (s.pump ch).dir) = .present := by
    intro e; rw [e] at ho; simp at ho
  have put := putPump_leaves (s := s) (ch := ch) (q := (s.pump ch).takeRise (s.pump ch).service)
    (by rw [taken, hl]; dsimp only; split <;> exact PumpState.noConfusion) (.inr (by rw [hl]; rfl))
  rw [setpointActs_some lights, if_pos ⟨hs, stage⟩, riseChannel, if_pos may, put, taken, completionTest_of_state]
  exact fun h => absurd (hs.symm.trans h) (by decide)

/-- A setpoint of a dim pump, carried in an entry that keeps state and level, is stored only (R80). -/
theorem applyPump_dim (hb : rebinds (s.pump ch) p' = false) (hq : p'.clampSetpoints.clampWork = q) (hs : q.state = (s.pump ch).state)
    (hl : q.level = (s.pump ch).level) (hd : s.Dim q) : applyPump ch p' s = s.setPump ch q := by
  have dim : (s.setPump ch q).Dim ((s.setPump ch q).pump ch) := by rw [State.setPump_pump_self]; exact hd
  rw [applyPump_kept hb hq hs hl, testCompletion_dim dim, setpointActs_dim dim, ite_self]

end Sys2Proof.Machine
end

section
/-! SUPPORT. WRITE_PUMP of one field, SET_SETPOINT and CLEAR_PUMP: how they are read, what they store, and their replies. -/

namespace Sys2Proof.Machine

variable {s : State} {sp : Span} {ch : Chan} {r : Req} {p' q : Pump} {code b1 b0 : Byte} {bytes : List Byte} {v : Nat}

/-! ### Reading -/

/-- The byte that names a channel (R192). -/
theorem chanByte_toNat (ch : Chan) : (BitVec.ofNat 8 ch.val).toNat = ch.val := by
  have := ch.isLt
  rw [BitVec.toNat_ofNat]; omega

theorem chanByte_le (ch : Chan) : ¬ 7 < (BitVec.ofNat 8 ch.val).toNat := by rw [chanByte_toNat]; exact not_lt.mpr (chan_le ch)

theorem chanOf_chanByte (ch : Chan) : chanOf (BitVec.ofNat 8 ch.val).toNat = ch := by rw [chanByte_toNat, chanOf_val]

theorem beNat_two (b1 b0 : Byte) : beNat [b1, b0] = b1.toNat * 256 + b0.toNat := by simp [beNat]

theorem exec_writePump (h : s.pins.resetLine = false) (r : Req) :
    exec (.writePump r) s = .next (sendReply Config.kindWritePump r (writePump r s.fresh)) := by
  rw [exec, execWritePump, unlessReset_free h]

theorem exec_setSetpoint (h : s.pins.resetLine = false) (r : Req) :
    exec (.setSetpoint r) s = .next (sendReply Config.kindSetSetpoint r (setSetpoint r s.fresh)) := by
  rw [exec, execSetSetpoint, unlessReset_free h]

theorem exec_clearPump (h : s.pins.resetLine = false) (r : Req) :
    exec (.clearPump r) s = .next (sendReply Config.kindClearPump r (clearPump r s.fresh)) := by
  rw [exec, execClearPump, unlessReset_free h]

/-- A write of one field with every right goes to the Pump Controller whole. -/
theorem writePump_one (hb : r.body = BitVec.ofNat 8 ch.val :: code :: bytes) (hc : s.classUsed r = 0)
    (hw : widthsOf pumpWidths code.toNat bytes = some bytes.length) :
    writePump r s = ownerWritePump ch [(code.toNat, bytes)] [] s := by
  simp [-BitVec.toNat_ofNat, writePump, hb, readItems_one hw, chanByte_le, chanOf_chanByte, granted_zero hc, safe_zero hc, divide]

/-! ### One field in range -/

/-- A WRITE_PUMP of one field, with every right and its value in range, and the entry it asks for. -/
structure PumpWrite (s : State) (r : Req) (ch : Chan) (code v : Nat) (p' : Pump) : Prop where
  free : s.pins.resetLine = false
  owner : ∃ bytes, beNat bytes = v ∧ writePump r s.fresh = ownerWritePump ch [(code, bytes)] [] s.fresh
    ∧ inRanges pumpRanges [(code, bytes)] = true ∧ (s.pump ch).write [(code, bytes)] = p'

theorem pumpWrite_one {lo hi : Nat} (hr : s.pins.resetLine = false) (hc : s.classUsed r = 0)
    (hb : r.body = BitVec.ofNat 8 ch.val :: code :: bytes) (hw : widthsOf pumpWidths code.toNat bytes = some bytes.length)
    (hrange : pumpRanges[code.toNat - 1]? = some (lo, hi)) (hv : beNat bytes = v) (hlo : lo ≤ v) (hhi : v ≤ hi)
    (hp : (s.pump ch).write [(code.toNat, bytes)] = p') : PumpWrite s r ch code.toNat v p' := by
  subst hv
  exact ⟨hr, bytes, rfl, writePump_one (s := s.fresh) hb hc hw, (inRanges_one hrange).mpr ⟨hlo, hhi⟩, hp⟩

/-- The second step of R78: the write is refused with STATE. -/
theorem PumpWrite.barred {n : Nat} (h : PumpWrite s r ch n v p') (hb : pumpStateBad (s.pump ch) p' s = true) :
    exec (.writePump r) s = .next (s.fresh.replied r 3 4 []) := by
  obtain ⟨free, bytes, -, owner, range, write⟩ := h
  have bad : pumpStateBad (s.fresh.pump ch) ((s.fresh.pump ch).write [(n, bytes)]) s.fresh = true := by
    rw [show (s.fresh.pump ch).write [(n, bytes)] = p' from write]; exact hb
  rw [exec_writePump free, owner, ownerWritePump, if_neg (by rw [range]; decide), if_pos bad]
  exact congrArg _ (sendReply_replied ..)

/-- A write that passes is stored, and answered ADJUSTED with the code of a setpoint carried above the ceiling (R79). -/
theorem PumpWrite.taken {n : Nat} (h : PumpWrite s r ch n v p') (hb : pumpStateBad (s.pump ch) p' s = false) {u : State}
    (hu : applyPump ch p' s.fresh = u) {c : Prop} [Decidable c] (hc : p'.clamped = true ↔ c) {named : List Byte}
    (hn : (if c ∧ (n = 5 ∨ n = 6) ∧ p'.ceiling < v then [BitVec.ofNat 8 n] else []) = named) :
    exec (.writePump r) s = .next (u.replied r 3 (if c then 1 else 0) named) := by
  subst hn
  obtain ⟨free, bytes, value, owner, range, write⟩ := h
  have write' : (s.fresh.pump ch).write [(n, bytes)] = p' := write
  have good : ¬ pumpStateBad (s.fresh.pump ch) p' s.fresh = true := by
    rw [show pumpStateBad (s.fresh.pump ch) p' s.fresh = _ from hb]; decide
  have answered : applied u [] p'.clamped (clampedCodes [(n, bytes)] p'.ceiling)
      = if c then ⟨u, .adjusted, codeBytes (clampedCodes [(n, bytes)] p'.ceiling), false⟩ else doneWith u := by
    rw [applied, if_neg (by simp)]
    exact if_congr hc rfl rfl
  rw [exec_writePump free, owner, ownerWritePump, write', if_neg (by rw [range]; decide), if_neg good, hu, answered, clampedCodes_one, value]
  by_cases h : c
  · by_cases g : (n = 5 ∨ n = 6) ∧ p'.ceiling < v
    · rw [if_pos h, if_pos g, if_pos h, if_pos ⟨h, g⟩]; exact congrArg _ (sendReply_replied ..)
    · rw [if_pos h, if_neg g, if_pos h, if_neg fun e => g e.2]; exact congrArg _ (sendReply_replied ..)
  · rw [if_neg h, if_neg h, if_neg fun e => h e.1]; exact congrArg _ (sendReply_replied ..)

/-! ### The fields of two bytes -/

section TwoBytes

variable (hr : s.pins.resetLine = false) (hc : s.classUsed r = 0) (hv : b1.toNat * 256 + b0.toNat ≤ 4000)
include hr hc hv

theorem pumpWrite_ceiling (hb : r.body = [BitVec.ofNat 8 ch.val, 4, b1, b0]) :
    PumpWrite s r ch 4 (b1.toNat * 256 + b0.toNat) { s.pump ch with ceiling := b1.toNat * 256 + b0.toNat } :=
  pumpWrite_one hr hc hb rfl rfl (beNat_two ..) (Nat.zero_le _) hv
    (by simp [Pump.write, written_one_self, written_one_other, beNat_two])

theorem pumpWrite_service (hb : r.body = [BitVec.ofNat 8 ch.val, 5, b1, b0]) :
    PumpWrite s r ch 5 (b1.toNat * 256 + b0.toNat) { s.pump ch with service := b1.toNat * 256 + b0.toNat } :=
  pumpWrite_one hr hc hb rfl rfl (beNat_two ..) (Nat.zero_le _) hv
    (by simp [Pump.write, written_one_self, written_one_other, beNat_two])

theorem pumpWrite_probe (hb : r.body = [BitVec.ofNat 8 ch.val, 6, b1, b0]) :
    PumpWrite s r ch 6 (b1.toNat * 256 + b0.toNat) { s.pump ch with probe := b1.toNat * 256 + b0.toNat } :=
  pumpWrite_one hr hc hb rfl rfl (beNat_two ..) (Nat.zero_le _) hv
    (by simp [Pump.write, written_one_self, written_one_other, beNat_two])

end TwoBytes

/-! ### The ceiling -/

/-- A ceiling at or above 1 and below the level of a LIT pump in SERVICE clamps the level at once (R79, R98). -/
theorem exec_writeCeiling_lit (h : PumpWrite s r ch 4 v { s.pump ch with ceiling := v }) (h1 : 1 ≤ v) (hlt : v < (s.pump ch).level)
    (hs : (s.pump ch).state = .lit) (ht : (s.pump ch).target = none) (hrise : (s.pump ch).rise = none)
    (hservice : (s.pump ch).service ≤ v) (hprobe : (s.pump ch).probe ≤ v) (hl : (s.pump ch).lights = some sp)
    (hsp : (s.st sp).state = .service) :
    exec (.writePump r) s =
      .next ({ s.fresh.setPump ch { s.pump ch with ceiling := v, level := v } with
        out := [.setpoint (setpointRecord ch v)] }.replied r 3 1 []) := by
  have same : rebinds (s.pump ch) { s.pump ch with ceiling := v } = false := rebinds_false rfl rfl rfl
  have good : pumpStateBad (s.pump ch) { s.pump ch with ceiling := v } s = false := pumpStateBad_false same rfl
  have setpoints : ({ s.pump ch with ceiling := v } : Pump).clampSetpoints = { s.pump ch with ceiling := v } := by
    simp only [Pump.clampSetpoints, min_eq_left hservice, min_eq_left hprobe]
  have clamped : ({ s.pump ch with ceiling := v } : Pump).clampSetpoints.clampWork = { s.pump ch with ceiling := v, level := v } := by
    rw [setpoints]; exact clampWork_lit hs ht hrise h1 hlt
  have used : ¬ (s.pump ch).role = .unused := by
    intro e; rw [Pump.lights, e] at hl; cases hl
  have applied : applyPump ch { s.pump ch with ceiling := v } s.fresh
      = { s.fresh.setPump ch { s.pump ch with ceiling := v, level := v } with out := [.setpoint (setpointRecord ch v)] } := by
    have lowered : applyPump ch { s.pump ch with ceiling := v } s.fresh = _ := applyPump_lowered (s := s.fresh) same clamped rfl hlt rfl
    have record : sendRecord ch (s.fresh.setPump ch { s.pump ch with ceiling := v, level := v })
        = { s.fresh.setPump ch { s.pump ch with ceiling := v, level := v } with out := [.setpoint (setpointRecord ch v)] } := by
      rw [sendRecord_spec, State.setPump_pump_self, if_neg used]; rfl
    rw [lowered, record]
    refine testCompletion_still fun sp' hl' => ?_
    have own : ((s.fresh.setPump ch { s.pump ch with ceiling := v, level := v }).pump ch).lights = some sp := by
      rw [State.setPump_pump_self]; exact hl
    obtain rfl : sp = sp' := Option.some.inj (own.symm.trans hl')
    exact fun g => absurd (hsp.symm.trans g) (by decide)
  have adjusted : ({ s.pump ch with ceiling := v } : Pump).clamped = true ↔ True := by
    simp [Pump.clamped, hlt]
  exact h.taken good applied adjusted (by simp)

/-- A ceiling below the setpoints of a DARK pump lowers them (R79). -/
theorem exec_writeCeiling_dark (h : PumpWrite s r ch 4 v { s.pump ch with ceiling := v }) (hl : (s.pump ch).level = 0)
    (ht : (s.pump ch).target = none) (hrise : (s.pump ch).rise = none) (hd : s.Dim (s.pump ch)) :
    exec (.writePump r) s =
      .next ((s.fresh.setPump ch
        { s.pump ch with ceiling := v, service := min (s.pump ch).service v, probe := min (s.pump ch).probe v }).replied r 3
        (if v < (s.pump ch).service ∨ v < (s.pump ch).probe then 1 else 0) []) := by
  have same : rebinds (s.pump ch) { s.pump ch with ceiling := v } = false := rebinds_false rfl rfl rfl
  have good : pumpStateBad (s.pump ch) { s.pump ch with ceiling := v } s = false := pumpStateBad_false same rfl
  have below : ({ s.pump ch with ceiling := v } : Pump).WorkBelow := by simp [Pump.WorkBelow, hl, ht, hrise]
  have clamped : ({ s.pump ch with ceiling := v } : Pump).clampSetpoints.clampWork
      = { s.pump ch with ceiling := v, service := min (s.pump ch).service v, probe := min (s.pump ch).probe v } :=
    Pump.WorkBelow.clampWork (p := ({ s.pump ch with ceiling := v } : Pump).clampSetpoints) below
  have adjusted : ({ s.pump ch with ceiling := v } : Pump).clamped = true ↔ v < (s.pump ch).service ∨ v < (s.pump ch).probe := by
    simp [below.clamped]
  exact h.taken good (applyPump_dim (s := s.fresh) same clamped rfl rfl hd) adjusted (by simp)

/-! ### The setpoints -/

section Setpoints

variable (below : (s.pump ch).BelowCeiling)
include below

theorem clamp_service (v : Nat) :
    ({ s.pump ch with service := v } : Pump).clampSetpoints.clampWork = { s.pump ch with service := min v (s.pump ch).ceiling } := by
  have setpoints : ({ s.pump ch with service := v } : Pump).clampSetpoints = { s.pump ch with service := min v (s.pump ch).ceiling } := by
    simp only [Pump.clampSetpoints, below.setpoints]
  rw [setpoints]
  exact Pump.WorkBelow.clampWork (p := { s.pump ch with service := min v (s.pump ch).ceiling }) below.work

theorem clamp_probe (v : Nat) :
    ({ s.pump ch with probe := v } : Pump).clampSetpoints.clampWork = { s.pump ch with probe := min v (s.pump ch).ceiling } := by
  have setpoints : ({ s.pump ch with probe := v } : Pump).clampSetpoints = { s.pump ch with probe := min v (s.pump ch).ceiling } := by
    simp only [Pump.clampSetpoints, below.setpoints]
  rw [setpoints]
  exact Pump.WorkBelow.clampWork (p := { s.pump ch with probe := min v (s.pump ch).ceiling }) below.work

theorem clamped_service (v : Nat) : ({ s.pump ch with service := v } : Pump).clamped = true ↔ (s.pump ch).ceiling < v := by
  have work : ({ s.pump ch with service := v } : Pump).WorkBelow := below.work
  obtain ⟨-, -, probe, -⟩ := below
  simp [work.clamped, probe]

theorem clamped_probe (v : Nat) : ({ s.pump ch with probe := v } : Pump).clamped = true ↔ (s.pump ch).ceiling < v := by
  have work : ({ s.pump ch with probe := v } : Pump).WorkBelow := below.work
  obtain ⟨-, service, -⟩ := below
  simp [work.clamped, service]

/-- A probe setpoint is stored at or below the ceiling, and refused with STATE where it changes in PULSING (R78, R79). -/
theorem exec_writeProbe (h : PumpWrite s r ch 6 v { s.pump ch with probe := v }) (hp : s.CompletesPromptly) :
    exec (.writePump r) s =
      .next (if (s.pump ch).state = .pulsing ∧ v ≠ (s.pump ch).probe then s.fresh.replied r 3 4 []
        else (s.fresh.setPump ch { s.pump ch with probe := min v (s.pump ch).ceiling }).replied r 3
          (if (s.pump ch).ceiling < v then 1 else 0) (if (s.pump ch).ceiling < v then [6] else [])) := by
  have same : rebinds (s.pump ch) { s.pump ch with probe := v } = false := rebinds_false rfl rfl rfl
  split
  next hb => exact h.barred ((pumpStateBad_probe same).mpr hb.symm)
  next hb =>
    have good : pumpStateBad (s.pump ch) { s.pump ch with probe := v } s = false := by
      rw [Bool.eq_false_iff, ne_eq, pumpStateBad_probe same]; exact fun g => hb g.symm
    have applied : applyPump ch { s.pump ch with probe := v } s.fresh
        = s.fresh.setPump ch { s.pump ch with probe := min v (s.pump ch).ceiling } := by
      have kept : applyPump ch { s.pump ch with probe := v } s.fresh = _ :=
        applyPump_kept (s := s.fresh) same (clamp_probe below v) rfl rfl
      rw [kept]
      refine (if_pos rfl).trans (testCompletion_incomplete fun sp => ?_)
      refine completes_of_same (s := s) rfl rfl rfl (fun c => ?_) (hp.2 sp)
      rw [State.setPump_pump]
      split
      next e => subst e; exact ⟨rfl, rfl, rfl⟩
      next => exact ⟨rfl, rfl, rfl⟩
    exact h.taken good applied (clamped_probe below v) (by simp)

/-- A service setpoint of a dim pump is stored at or below the ceiling (R79). -/
theorem exec_writeService_dim (h : PumpWrite s r ch 5 v { s.pump ch with service := v }) (hd : s.Dim (s.pump ch)) :
    exec (.writePump r) s =
      .next ((s.fresh.setPump ch { s.pump ch with service := min v (s.pump ch).ceiling }).replied r 3
        (if (s.pump ch).ceiling < v then 1 else 0) (if (s.pump ch).ceiling < v then [5] else [])) := by
  have same : rebinds (s.pump ch) { s.pump ch with service := v } = false := rebinds_false rfl rfl rfl
  have good : pumpStateBad (s.pump ch) { s.pump ch with service := v } s = false := pumpStateBad_false same rfl
  exact h.taken good (applyPump_dim (s := s.fresh) same (clamp_service below v) rfl rfl hd) (clamped_service below v) (by simp)

end Setpoints

/-- A LAUNCH or COUNTER pump LIT in SERVICE whose service setpoint is stored: the ramp toward it starts (R80, R94). -/
theorem setpointActs_stored (hr : s.part.run = true) (ho : (s.pump ch).role = .launch ∨ (s.pump ch).role = .counter)
    (hs : (s.st (s.pump ch).span).state = .service) (hl : (s.pump ch).state = .lit) (hv : v ≤ (s.pump ch).ceiling)
    (hne : (s.pump ch).level ≠ v) :
    setpointActs ch (s.setPump ch { s.pump ch with service := v })
      = (s.setPump ch
          { s.pump ch with
            service := v, state := if (s.pump ch).level < v then .rising else .falling, target := some v, pulseLen := none
            pulseCount := 0 }).dropJob (.step ch) := by
  have own : (s.setPump ch { s.pump ch with service := v }).pump ch = { s.pump ch with service := v } := State.setPump_pump_self ..
  have acts := setpointActs_lit (s := s.setPump ch { s.pump ch with service := v }) (ch := ch)
  rw [own] at acts
  rw [acts hr ho hs hl hv hne, State.setPump_setPump]

/-- A changed service setpoint acts as SET_SETPOINT does (R80). -/
theorem exec_writeService_lit (below : (s.pump ch).BelowCeiling) (h : PumpWrite s r ch 5 v { s.pump ch with service := v })
    (hr : s.part.run = true) (ho : (s.pump ch).role = .launch ∨ (s.pump ch).role = .counter)
    (hs : (s.st (s.pump ch).span).state = .service) (hl : (s.pump ch).state = .lit)
    (hne : (s.pump ch).level ≠ min v (s.pump ch).ceiling) (hch : (s.pump ch).service ≠ min v (s.pump ch).ceiling) :
    exec (.writePump r) s =
      .next (((s.fresh.setPump ch
        { s.pump ch with
          service := min v (s.pump ch).ceiling
          state := if (s.pump ch).level < min v (s.pump ch).ceiling then .rising else .falling
          target := some (min v (s.pump ch).ceiling), pulseLen := none, pulseCount := 0 }).dropJob (.step ch)).replied r 3
        (if (s.pump ch).ceiling < v then 1 else 0) (if (s.pump ch).ceiling < v then [5] else [])) := by
  have same : rebinds (s.pump ch) { s.pump ch with service := v } = false := rebinds_false rfl rfl rfl
  have good : pumpStateBad (s.pump ch) { s.pump ch with service := v } s = false := pumpStateBad_false same rfl
  have kept : applyPump ch { s.pump ch with service := v } s.fresh = _ :=
    applyPump_kept (s := s.fresh) same (clamp_service below v) rfl rfl
  have acts := setpointActs_stored (s := s.fresh) hr ho hs hl (min_le_right v _) hne
  exact h.taken good ((kept.trans (if_neg hch.symm)).trans acts) (clamped_service below v) (by simp)

/-! ### The binding -/

theorem byte_eq_iff (b : Byte) (n : Nat) (hn : n < 256) : b = BitVec.ofNat 8 n ↔ b.toNat = n := by
  rw [← BitVec.toNat_inj, BitVec.toNat_ofNat, Nat.mod_eq_of_lt hn]

theorem roleOfCode_byte (b : Byte) :
    Role.ofCode b.toNat = if b = 0 then .unused else if b = 1 then .launch else if b = 2 then .counter else .stage := by
  have is (n : Nat) (hn : n < 256) := byte_eq_iff b n hn
  simp only [is 0 (by omega), is 1 (by omega), is 2 (by omega), BitVec.ofNat_eq_ofNat]
  unfold Role.ofCode
  split <;> simp_all

theorem spanOfCode_byte (b : Byte) : spanOfCode b.toNat = if b = 0 then .ws else .es := by
  simp only [byte_eq_iff b 0 (by omega), BitVec.ofNat_eq_ofNat]
  unfold spanOfCode
  split <;> simp_all

theorem dirOfCode_byte (b : Byte) : dirOfCode b.toNat = if b = 0 then .eb else .wb := by
  simp only [byte_eq_iff b 0 (by omega), BitVec.ofNat_eq_ofNat]
  unfold dirOfCode
  split <;> simp_all

/-- A binding field that a write of one byte changes. -/
theorem pumpWrite_binding {b : Byte} (hr : s.pins.resetLine = false) (hc : s.classUsed r = 0)
    (hb : r.body = [BitVec.ofNat 8 ch.val, code, b])
    (hv : (code = 1 ∧ b.toNat ≤ 3) ∨ (code = 2 ∧ b.toNat ≤ 1) ∨ (code = 3 ∧ b.toNat ≤ 1)) :
    PumpWrite s r ch code.toNat b.toNat
      (if code = 1 then
        { s.pump ch with role := if b = 0 then .unused else if b = 1 then .launch else if b = 2 then .counter else .stage }
      else if code = 2 then { s.pump ch with span := if b = 0 then .ws else .es }
      else { s.pump ch with dir := if b = 0 then .eb else .wb }) := by
  obtain ⟨rfl, hv⟩ | ⟨rfl, hv⟩ | ⟨rfl, hv⟩ := hv
  · exact pumpWrite_one hr hc hb rfl rfl (beNat_one b) (Nat.zero_le _) hv
      (by simp [Pump.write, written_one_self, written_one_other, beNat_one, roleOfCode_byte])
  · exact pumpWrite_one hr hc hb rfl rfl (beNat_one b) (Nat.zero_le _) hv
      (by simp [Pump.write, written_one_self, written_one_other, beNat_one, spanOfCode_byte])
  · exact pumpWrite_one hr hc hb rfl rfl (beNat_one b) (Nat.zero_le _) hv
      (by simp [Pump.write, written_one_self, written_one_other, beNat_one, dirOfCode_byte])

/-- What stands against a new binding in RUN (R78). -/
def State.BindingBarred (s : State) (p q : Pump) : Prop :=
  s.part.run = true ∧ (0 < p.level ∨ (p.state ≠ .dark ∧ p.state ≠ .darkHold) ∨ s.litSpan p = true ∨ s.litSpan q = true)

/-- An entry within its ceiling that another binding leaves so: no clamp acts. -/
theorem clamp_binding (hq : q = { s.pump ch with role := q.role, span := q.span, dir := q.dir })
    (below : (s.pump ch).BelowCeiling) : q.BelowCeiling ∧ q.clampSetpoints.clampWork = q ∧ (q.clamped = true ↔ False) := by
  have sound : q.BelowCeiling := by rw [hq]; exact below
  have setpoints : q.clampSetpoints = q := by
    simp only [Pump.clampSetpoints, sound.setpoints]
  refine ⟨sound, by rw [setpoints, sound.work.clampWork], ?_⟩
  obtain ⟨-, service, probe, work⟩ := sound
  simp [Pump.WorkBelow.clamped work, service, probe]

section Binding

variable {n : Nat} (h : PumpWrite s r ch n v q) (hq : q = { s.pump ch with role := q.role, span := q.span, dir := q.dir })
  (below : (s.pump ch).BelowCeiling) (hp : s.CompletesPromptly)
include h hq

/-- A new binding is refused with STATE where something stands against it (R78). -/
theorem exec_writeBinding_barred (hne : q ≠ s.pump ch) (hb : s.BindingBarred (s.pump ch) q) :
    exec (.writePump r) s = .next (s.fresh.replied r 3 4 []) :=
  h.barred ((pumpStateBad_binding (by rw [hq])).mpr ⟨(rebinds_iff hq).mpr hne, hb⟩)

include below hp

/-- Else it is stored, with the pending rise cleared and no missing answer counted (R78). -/
theorem exec_writeBinding (hne : q ≠ s.pump ch) (hb : ¬ s.BindingBarred (s.pump ch) q) :
    exec (.writePump r) s = .next ((s.fresh.setPump ch { q with rise := none, noReply := 0 }).replied r 3 0 []) := by
  obtain ⟨-, clamp, clamped⟩ := clamp_binding hq below
  have good : pumpStateBad (s.pump ch) q s = false := by
    rw [Bool.eq_false_iff, ne_eq, pumpStateBad_binding (by rw [hq])]; exact fun g => hb g.2
  have bound : applyPump ch q s.fresh = _ :=
    applyPump_bound (s := s.fresh) ((rebinds_iff hq).mpr hne) clamp (by rw [hq]; rfl) (by rw [hq]; rfl) (by rw [hq]; rfl)
  have quiet : testCompletion ch (s.fresh.setPump ch { q with rise := none, noReply := 0 })
      = s.fresh.setPump ch { q with rise := none, noReply := 0 } := by
    refine testCompletion_still fun sp hl hc => ?_
    rw [State.setPump_pump_self] at hl
    have hc' : (s.st sp).state = .confirm := hc
    cases hrun : s.part.run
    · exact absurd (hc'.symm.trans (hp.1 hrun sp)) (by decide)
    · exact hb ⟨hrun, .inr (.inr (.inr ((litSpan_iff s q).mpr ⟨sp, hl, .inr (.inl hc')⟩)))⟩
  exact h.taken good (bound.trans quiet) clamped (by simp)

/-- The binding held is no change (R80). -/
theorem exec_writeBinding_held (he : q = s.pump ch) : exec (.writePump r) s = .next (s.fresh.replied r 3 0 []) := by
  obtain ⟨-, clamp, clamped⟩ := clamp_binding hq below
  have same : rebinds (s.pump ch) q = false := by rw [Bool.eq_false_iff, ne_eq, rebinds_iff hq]; exact fun g => g he
  have good : pumpStateBad (s.pump ch) q s = false := pumpStateBad_false same (by rw [he])
  have kept : applyPump ch q s.fresh = _ :=
    applyPump_kept (s := s.fresh) same clamp (congrArg Pump.state he) (congrArg Pump.level he)
  have held : s.fresh.setPump ch q = s.fresh := by rw [he]; exact State.setPump_self ..
  have quiet : applyPump ch q s.fresh = s.fresh := by
    rw [kept, held]
    exact (if_pos (congrArg Pump.service he)).trans (testCompletion_incomplete hp.2)
  exact h.taken good quiet clamped (by simp)

end Binding

/-! ### SET_SETPOINT and CLEAR_PUMP -/

/-- A setpoint in range is stored at or below the ceiling and acts (R94). -/
theorem exec_setSetpoint_taken (hr : s.pins.resetLine = false) (hc : s.classUsed r = 0) (hb : r.body = [BitVec.ofNat 8 ch.val, b1, b0])
    (hv : b1.toNat * 256 + b0.toNat = v) (hmax : v ≤ 4000) {u : State}
    (hu : setpointActs ch (s.fresh.setPump ch { s.pump ch with service := min v (s.pump ch).ceiling }) = u) :
    exec (.setSetpoint r) s
      = .next (u.replied r 4 (if (s.pump ch).ceiling < v then 1 else 0) (if (s.pump ch).ceiling < v then [5] else [])) := by
  have owner : setSetpoint r s.fresh = ownerSetSetpoint ch v s.fresh := by
    simp [-BitVec.toNat_ofNat, setSetpoint, hb, chanByte_le, chanOf_chanByte, granted_zero hc, beNat_two, hv]
  have range : ¬ Config.maxLevel < v := not_lt.mpr hmax
  have stored : ownerSetSetpoint ch v s.fresh
      = if (s.pump ch).ceiling < v then ⟨u, .adjusted, codeBytes [5], false⟩ else doneWith u := by
    rw [← hu]; exact if_neg range
  rw [exec_setSetpoint hr, owner, stored]
  by_cases h : (s.pump ch).ceiling < v
  · rw [if_pos h, if_pos h, if_pos h]; exact congrArg _ (sendReply_replied ..)
  · rw [if_neg h, if_neg h, if_neg h]; exact congrArg _ (sendReply_replied ..)

theorem clearPump_chan (hc : s.classUsed r = 0) (hb : r.body = [BitVec.ofNat 8 ch.val]) : clearPump r s = ownerClearPump ch s := by
  simp [-BitVec.toNat_ofNat, clearPump, hb, chanByte_le, chanOf_chanByte, granted_zero hc]

/-- CLEAR_PUMP takes a FAULTED channel to DARK_HOLD (R95). -/
theorem exec_clearPump_faulted (hr : s.pins.resetLine = false) (hc : s.classUsed r = 0) (hb : r.body = [BitVec.ofNat 8 ch.val])
    (hs : (s.pump ch).state = .faulted) :
    exec (.clearPump r) s
      = .next (((s.fresh.setPump ch { (s.pump ch).goHold with noReply := 0 }).dropJob (.step ch)).replied r 5 0 []) := by
  have held : (s.fresh.pump ch).state = .faulted := hs
  have leaves : s.fresh.putPump ch { (s.pump ch).goHold with noReply := 0 }
      = (s.fresh.setPump ch { (s.pump ch).goHold with noReply := 0 }).dropJob (.step ch) :=
    putPump_leaves (by rw [held]; exact PumpState.noConfusion) (.inl rfl)
  rw [exec_clearPump hr, clearPump_chan (s := s.fresh) hc hb, ownerClearPump, if_neg (not_not.mpr held), ← leaves]
  exact congrArg _ (sendReply_replied ..)

theorem exec_clearPump_refused (hr : s.pins.resetLine = false) (hc : s.classUsed r = 0) (hb : r.body = [BitVec.ofNat 8 ch.val])
    (hs : (s.pump ch).state ≠ .faulted) : exec (.clearPump r) s = .next (s.fresh.replied r 5 4 []) := by
  have held : (s.fresh.pump ch).state ≠ .faulted := hs
  rw [exec_clearPump hr, clearPump_chan (s := s.fresh) hc hb, ownerClearPump, if_pos held]
  exact congrArg _ (sendReply_replied ..)

/-! ### The statement -/

/-- Settles O39. -/
theorem pumpRequestsTaken : Obligations.PumpRequestsTaken := by
  refine ⟨fun s r ch b1 b0 sp hr hc => ?_, fun s r ch b1 b0 hr hc => ?_, fun s r ch code b hr hc => ?_, fun s r ch b1 b0 hr hc => ?_⟩
  · intro v hb h1 hlt hv hs ht hrise hservice hprobe hl hsp
    exact exec_writeCeiling_lit (pumpWrite_ceiling hr hc hv hb) h1 hlt hs ht hrise hservice hprobe hl hsp
  · intro p v stored
    refine ⟨fun hb hv hd => ?_, fun hb hv hrun ho hs hl hne => ?_, fun hb hs => ?_, fun hb hs => ?_⟩
    · refine exec_setSetpoint_taken hr hc hb rfl hv (setpointActs_dim ?_)
      rw [State.setPump_pump_self]; exact hd
    · exact exec_setSetpoint_taken hr hc hb rfl hv (setpointActs_stored (s := s.fresh) hrun ho hs hl (min_le_right _ _) hne)
    · exact exec_clearPump_faulted hr hc hb hs
    · exact exec_clearPump_refused hr hc hb hs
  · intro p hb below hp hv q inLit barred
    have write : PumpWrite s r ch code.toNat b.toNat q := pumpWrite_binding hr hc hb hv
    have binding : q = { s.pump ch with role := q.role, span := q.span, dir := q.dir } := by
      simp only [q]
      split
      · rfl
      · split <;> rfl
    have bars : s.BindingBarred (s.pump ch) q ↔ barred := by
      simp only [State.BindingBarred, litSpan_iff]; exact Iff.rfl
    exact ⟨fun hne h => exec_writeBinding_barred write binding hne (bars.mpr h),
      fun hne h => exec_writeBinding write binding below hp hne fun g => h (bars.mp g),
      fun he => exec_writeBinding_held write binding below hp he⟩
  · intro p v stored adjusted reply dim
    refine ⟨fun hb hv below hp => ?_, fun hb hv below hd => ?_, fun hb hv below hrun ho hs hl hne hch => ?_,
      fun hb hv _ hl ht hrise hd => ?_⟩
    · exact exec_writeProbe below (pumpWrite_probe hr hc hv hb) hp
    · exact exec_writeService_dim below (pumpWrite_service hr hc hv hb) hd
    · exact exec_writeService_lit below (pumpWrite_service hr hc hv hb) hrun ho hs hl hne hch
    · exact exec_writeCeiling_dark (pumpWrite_ceiling hr hc hv hb) hl ht hrise hd

end Sys2Proof.Machine
end

section
/-! The arbiter of a line port, and what the resets give. -/

namespace Sys2Proof.Machine

/-- Settles O10, queue by queue. -/
theorem arbiterAlternatesQueues : Obligations.ArbiterAlternatesQueues := by
  intro l f q fs qs
  refine ⟨fun hf hq hs => ?_, fun hf hq hs => ?_, fun hf hq => ?_, fun hf hq => ?_, fun hf hq => ?_⟩ <;>
    simp only [LinePort.arbitrate, *]

/-- No item that a reset gives a value rests on the state before it (R184). -/
theorem resetPart_atReset (s : State) : (resetPart s).AtReset := ⟨reset_partAtReset, reset_spanAtReset, reset_channelAtReset⟩

theorem assertReset_atReset (west east loc : Bool) (s : State) : (assertReset west east loc s).AtReset :=
  ⟨reset_partAtReset, reset_spanAtReset, reset_channelAtReset⟩

/-- What the assertion of RESET puts out: the aborts, and a dark record for each used channel (R105, R184). -/
theorem assertReset_out (west east loc : Bool) (s : State) :
    (assertReset west east loc s).out =
      (if west ∧ (s.line .ws).base.sending.isSome then [Output.abort .west] else [])
        ++ (if east ∧ (s.line .es).base.sending.isSome then [Output.abort .east] else [])
        ++ (if loc ∧ s.localPort.sending.isSome then [Output.abort .loc] else [])
        ++ (Config.chans.filter fun ch => (s.pump ch).role ≠ .unused).map
            fun ch => Output.setpoint (BitVec.ofNat 16 (ch.val * 8192)) := by
  simp only [assertReset, abortFrame, resetRecords, setpointRecord_zero]
  rfl

/-- Settles O4. -/
theorem resetsGiveManualValues : Obligations.ResetsGiveManualValues :=
  ⟨fun s => ⟨_, rfl, resetPart_atReset s, rfl, rfl⟩,
    fun west east loc s => ⟨_, rfl, assertReset_atReset west east loc s, rfl, assertReset_out west east loc s⟩⟩

end Sys2Proof.Machine
end

section
/-! SUPPORT. Messages and whole frames are read as they were built, and a frame with another check fails (R104, R106, R192, R193). -/

namespace Sys2Proof.Machine

/-! ### Messages are read as they were built -/

theorem headerNat_lt (m : Msg) : headerNat m < 2 ^ 40 := by
  have h1 := m.dest.isLt
  have h2 := m.src.isLt
  have h3 := m.kind.isLt
  have h4 : dirCode m.dir ≤ 1 := by cases m.dir <;> decide
  have h5 := m.hop.isLt
  have h6 := m.cls.isLt
  have h7 := m.tag.isLt
  unfold headerNat
  omega

theorem dirOfCode_dirCode (d : Dir) : dirOfCode (dirCode d) = d := by cases d <;> rfl

/-- A message is read as it was built, with every header field and its body (R193). -/
theorem readMsg_msgBytes (m : Msg) : readMsg (msgBytes m) = some m := by
  have len5 : (beBytes 5 (headerNat m)).length = 5 := beBytes_length ..
  have header : beNat ((msgBytes m).take 5) = headerNat m := by
    rw [msgBytes, List.take_left' len5, beNat_beBytes]
    exact Nat.mod_eq_of_lt (headerNat_lt m)
  have body : (msgBytes m).drop 5 = m.body := by rw [msgBytes, List.drop_left' len5]
  rw [readMsg, if_neg (by rw [msgBytes, List.length_append, len5]; omega), header, body]
  obtain ⟨dest, src, kind, dir, hop, cls, tag, bytes⟩ := m
  have h1 := dest.isLt
  have h2 := src.isLt
  have h3 := kind.isLt
  have h4 : dirCode dir ≤ 1 := by cases dir <;> decide
  have h5 := hop.isLt
  have h6 := cls.isLt
  have h7 := tag.isLt
  have field {w : Nat} {x : BitVec w} {n : Nat} (h : n % 2 ^ w = x.toNat) : BitVec.ofNat w n = x :=
    BitVec.eq_of_toNat_eq (by rw [BitVec.toNat_ofNat, h])
  simp only [headerNat]
  refine congrArg some ?_
  congr 1
  · exact field (by omega)
  · exact field (by omega)
  · exact field (by omega)
  · rw [← dirOfCode_dirCode dir]
    congr 1
    rw [dirOfCode_dirCode]; omega
  · exact field (by omega)
  · exact field (by omega)
  · exact field (by omega)

/-! ### Frames are read as they were built -/

/-- The bytes of a frame's message, none where it carries none (R192). -/
def messageBytes : Option Msg → List Byte
  | some m => msgBytes m
  | none => []

/-- The bytes a frame's check covers: its head and its message (R192). -/
def coveredBytes (w : SpanWord) (m : Option Msg) : List Byte :=
  beBytes 4 (headNat w (messageBytes m).length) ++ messageBytes m

theorem frameBytes_covered (w : SpanWord) (m : Option Msg) :
    frameBytes w m = coveredBytes w m ++ beBytes 2 (frameCheck (coveredBytes w m)).toNat := by
  cases m <;> rfl

theorem readMsg_messageBytes (m : Option Msg) : readMsg (messageBytes m) = m := by
  cases m with
  | none => rfl
  | some m => exact readMsg_msgBytes m

/-- A message with a body of at most 51 bytes has a length that a receiver takes (R106, R113). -/
theorem messageBytes_length {m : Option Msg} (h : ∀ x ∈ m, x.body.length ≤ 51) :
    (messageBytes m).length ≤ 56 ∧ badLength (messageBytes m).length = false := by
  cases m with
  | none => exact ⟨Nat.zero_le _, rfl⟩
  | some m =>
    have body := h m rfl
    have length : (messageBytes (some m)).length = 5 + m.body.length := by
      rw [messageBytes, msgBytes, List.length_append, beBytes_length]
    rw [length]
    refine ⟨by omega, ?_⟩
    simp only [badLength, Bool.or_eq_false_iff, Bool.and_eq_false_iff, decide_eq_false_iff_not]
    omega

/-- The word and the length of a head do not meet (R192). -/
theorem headNat_add (w : SpanWord) (len : Nat) : headNat w len = headNat w 0 + len := by
  simp only [headNat, Nat.add_zero]

theorem headNat_zero_mod (w : SpanWord) : headNat w 0 % 128 = 0 := by
  unfold headNat
  omega

theorem readLength_head (w : SpanWord) {len : Nat} (h : len < 64) : readLength (headNat w len) = len := by
  have aligned := headNat_zero_mod w
  rw [headNat_add, readLength]
  omega

theorem readWord_head (w : SpanWord) {len : Nat} (h : len < 64) : readWord (headNat w len) = w := by
  have aligned := headNat_zero_mod w
  have above {k : Nat} (hk : 128 ∣ k) : (headNat w 0 + len) / k = headNat w 0 / k := by
    have whole : (headNat w 0 + len) / 128 = headNat w 0 / 128 := by omega
    obtain ⟨j, rfl⟩ := hk
    rw [← Nat.div_div_eq_div_mul, ← Nat.div_div_eq_div_mul, whole]
  conv_rhs => rw [← readWord_headNat w]
  rw [headNat_add]
  simp only [readWord]
  rw [above (by decide), above (by decide), above (by decide), above (by decide), above (by decide), above (by decide),
    above (by decide), above (by decide)]

theorem headNat_lt_of_len (w : SpanWord) {len : Nat} (h : len < 64) : headNat w len < 2 ^ 32 := by
  have aligned := headNat_zero_mod w
  have bound := headNat_lt w
  rw [headNat_add]
  omega

/-- A head, a message of the length it gives and two bytes of check are one whole frame, kept where the check is right (R106). -/
theorem parseFrame_parts {head : Nat} {msg check : List Byte} (rest : List Byte) (hh : head < 2 ^ 32) (hl : readLength head = msg.length)
    (hb : badLength msg.length = false) (hc : check.length = 2) :
    parseFrame (beBytes 4 head ++ msg ++ check ++ rest)
      = if beNat check = (frameCheck (beBytes 4 head ++ msg)).toNat then .kept (readWord head) (readMsg msg) rest else .failed rest := by
  have len4 : (beBytes 4 head).length = 4 := beBytes_length ..
  have value : beNat (beBytes 4 head) = head := by rw [beNat_beBytes]; exact Nat.mod_eq_of_lt hh
  generalize beBytes 4 head = top at len4 value
  have covered : (top ++ msg).length = 4 + msg.length := by rw [List.length_append, len4]
  have whole : (top ++ msg ++ check ++ rest).length = 4 + msg.length + 2 + rest.length := by simp [len4, hc]; omega
  have take4 : (top ++ msg ++ check ++ rest).take 4 = top := by simp [len4]
  have takeCovered : (top ++ msg ++ check ++ rest).take (4 + msg.length) = top ++ msg := by
    rw [List.append_assoc, List.take_left' covered]
  have dropCovered : (top ++ msg ++ check ++ rest).drop (4 + msg.length) = check ++ rest := by
    rw [List.append_assoc, List.drop_left' covered]
  have takeCheck : (check ++ rest).take 2 = check := List.take_left' hc
  have dropAll : (top ++ msg ++ check ++ rest).drop (4 + msg.length + 2) = rest := by
    rw [← List.drop_drop, dropCovered, List.drop_left' hc]
  have message : (top ++ msg).drop 4 = msg := List.drop_left' len4
  rw [parseFrame, if_neg (by omega)]
  simp only [take4, value, hl, hb, takeCovered, dropCovered, takeCheck, dropAll, message, Bool.false_eq_true, if_false]
  rw [if_neg (by omega)]

/-- What the bytes of a frame come to with any two bytes in the place of its check (R106, R192). -/
theorem parseFrame_covered {w : SpanWord} {m : Option Msg} {check : List Byte} (rest : List Byte) (hm : ∀ x ∈ m, x.body.length ≤ 51)
    (hc : check.length = 2) :
    parseFrame (coveredBytes w m ++ check ++ rest)
      = if beNat check = (frameCheck (coveredBytes w m)).toNat then .kept w m rest else .failed rest := by
  obtain ⟨length, good⟩ := messageBytes_length hm
  have short : (messageBytes m).length < 64 := by omega
  rw [coveredBytes, parseFrame_parts rest (headNat_lt_of_len w short) (readLength_head w short) good hc, readWord_head w short,
    readMsg_messageBytes]

theorem beNat_check (c : BitVec 16) : beNat (beBytes 2 c.toNat) = c.toNat := by
  rw [beNat_beBytes]; exact Nat.mod_eq_of_lt c.isLt

/-- Settles O58. -/
theorem frameReadsAsBuilt : Obligations.FrameReadsAsBuilt := by
  intro w m rest hm
  rw [frameBytes_covered, parseFrame_covered rest hm (beBytes_length ..), if_pos (beNat_check _)]

end Sys2Proof.Machine
end

section
/-!
SUPPORT. Work that keeps the queues of the frame path (R118, R161, R163): no queue overflows its room, no notice comes to wait where the
notice port has room, and the receivers hold what they held. `QueueWork` says it of one state and a later one, and chains.
-/

namespace Sys2Proof.Machine

variable {s t u : State} {sp : Span} {ch : Chan} {p : Port}

/-! ### Work and chains -/

/-- Work that keeps the room of every queue and lets notices move up. -/
structure QueueFlow (s t : State) : Prop where
  room : s.QueuesWithinRoom → t.QueuesWithinRoom
  moved : s.NoticesMovedUp → t.NoticesMovedUp

/-- Such work that leaves what the receivers hold. -/
structure QueueWork (s t : State) : Prop extends QueueFlow s t where
  rx : ∀ p, (t.base p).rx = (s.base p).rx

theorem QueueFlow.refl (s : State) : QueueFlow s s := ⟨id, id⟩

theorem QueueFlow.trans (h : QueueFlow s t) (g : QueueFlow t u) : QueueFlow s u := ⟨g.room ∘ h.room, g.moved ∘ h.moved⟩

theorem QueueWork.refl (s : State) : QueueWork s s := ⟨.refl s, fun _ => rfl⟩

theorem QueueWork.trans (h : QueueWork s t) (g : QueueWork t u) : QueueWork s u :=
  ⟨h.toQueueFlow.trans g.toQueueFlow, fun p => (g.rx p).trans (h.rx p)⟩

/-- What the queues rest on: the ports, the notices that wait, and the port they leave by. -/
def State.traffic (s : State) : PerSpan LinePort × PortBase × List Notice × Port := (s.lines, s.localPort, s.notices, s.part.noticePort)

/-- What a port and a line port hold rests on the traffic alone. -/
theorem traffic_ports (h : t.traffic = s.traffic) :
    (∀ p, t.base p = s.base p) ∧ (∀ sp, t.line sp = s.line sp) ∧ t.notices = s.notices ∧ t.part.noticePort = s.part.noticePort := by
  simp only [State.traffic, Prod.mk.injEq] at h
  obtain ⟨lines, localPort, notices, port⟩ := h
  exact ⟨base_of_ports lines localPort, fun sp => by rw [State.line, lines]; rfl, notices, port⟩

/-- Work that leaves the traffic as it was. -/
theorem QueueWork.of_traffic (h : t.traffic = s.traffic) : QueueWork s t := by
  obtain ⟨base, line, notices, port⟩ := traffic_ports h
  refine ⟨⟨fun hs => ?_, fun hs => ?_⟩, fun p => by rw [base]⟩
  · simpa only [State.QueuesWithinRoom, base, line, notices] using hs
  · simpa only [State.NoticesMovedUp, base, notices, port] using hs

/-- Work that begins where the traffic is as it was. -/
theorem QueueWork.after (g : QueueWork t u) (h : t.traffic = s.traffic) : QueueWork s u := (QueueWork.of_traffic h).trans g

/-- Work that is done or not. -/
theorem QueueWork.ite {c : Prop} [Decidable c] (h : QueueWork s t) (g : QueueWork s u) : QueueWork s (if c then t else u) := by
  split
  · exact h
  · exact g

/-- Work that is done only where something changed. -/
theorem QueueWork.unless {c : Prop} [Decidable c] {f : State → State} (h : QueueWork s t) (hf : ∀ u, QueueWork u (f u)) :
    QueueWork s (if c then t else f t) := .ite h (h.trans (hf t))

/-- One answer or the other. -/
theorem QueueWork.kind {c : Prop} [Decidable c] {a d : Answer} (ha : QueueWork s a.s) (hd : QueueWork s d.s) :
    QueueWork s (if c then a else d).s := by
  split
  · exact ha
  · exact hd

theorem QueueWork.forChans {f : Chan → State → State} (hf : ∀ ch t, QueueWork t (f ch t)) (s : State) : QueueWork s (forChans f s) :=
  forChans_inv (Q := QueueWork) .refl .trans hf s

theorem PumpFrame.queues (h : PumpFrame s t) : QueueWork s t := .of_traffic (by rw [h.eq]; rfl)

theorem SpanFrame.queues (h : SpanFrame s t) : QueueWork s t := .of_traffic (by rw [h.eq]; rfl)

theorem ProofFrame.queues (h : ProofFrame s t) : QueueWork s t := .of_traffic (by rw [h.eq]; rfl)

theorem raise_queues (src : Block) (e : Event) (span : EvSpan) (subject : Subject) (s : State) :
    QueueWork s (s.raise src e span subject) := .of_traffic rfl

theorem engineRaise_queues (sp : Span) (e : Event) (subject : Subject) (s : State) : QueueWork s (engineRaise sp e subject s) :=
  .of_traffic rfl

theorem setSt_queues (sp : Span) (y : SpanStatus) (s : State) : QueueWork s (s.setSt sp y) := .of_traffic rfl

theorem shift_queues (sp : Span) (y : SpanStatus) (s : State) : QueueWork s (shift sp y s) := .of_traffic rfl

/-! ### Ports -/

/-- A port whose local queue grows within its room. -/
theorem setBase_flow {b : PortBase} (room : (s.base p).queue.length ≤ 8 → b.queue.length ≤ 8)
    (longer : (s.base p).queue.length ≤ b.queue.length) : QueueFlow s (s.setBase p b) := by
  have queue (p' : Port) : ((s.setBase p b).base p').queue = if p' = p then b.queue else (s.base p').queue := by
    rw [State.setBase_base]; split <;> rfl
  refine ⟨fun ⟨queues, forwards, notices⟩ => ⟨fun p' => ?_, fun sp => ?_, ?_⟩, fun h => ?_⟩
  · rw [queue]
    split
    · exact room (queues p)
    · exact queues p'
  · rw [State.setBase_line]; exact forwards sp
  · rw [State.setBase_notices]; exact notices
  · refine h.imp (fun e => by rw [State.setBase_notices]; exact e) fun full => ?_
    rw [State.setBase_part, queue]
    split
    next e => rw [e] at full; exact le_trans full longer
    next => exact full

/-- A port whose local queue grows within its room, and whose receiver holds what it held. -/
theorem setBase_queues {b : PortBase} (room : (s.base p).queue.length ≤ 8 → b.queue.length ≤ 8)
    (longer : (s.base p).queue.length ≤ b.queue.length) (rx : b.rx = (s.base p).rx) : QueueWork s (s.setBase p b) := by
  refine ⟨setBase_flow room longer, fun p' => ?_⟩
  rw [State.setBase_base]
  split
  next e => rw [e]; exact rx
  next => rfl

/-- A line port that takes a new record with the same queue and receiver, and its forward queue within its room. -/
theorem setLine_queues {l : LinePort} (base : l.base = (s.line sp).base) (room : (s.line sp).forward.length ≤ 8 → l.forward.length ≤ 8) :
    QueueWork s (s.setLine sp l) := by
  have ports (p : Port) : (s.setLine sp l).base p = s.base p := by
    rw [State.setLine_base]
    split
    next e => rw [e, base, portBase]
    next => rfl
  refine ⟨⟨fun ⟨queues, forwards, notices⟩ => ⟨fun p => ?_, fun x => ?_, notices⟩, fun h => ?_⟩, fun p => by rw [ports]⟩
  · rw [ports]; exact queues p
  · rw [State.setLine_line]
    split
    · exact room (forwards sp)
    · exact forwards x
  · refine h.imp id fun full => ?_
    rw [ports]; exact full

/-! ### Messages and notices (R118, R161 to R163) -/

theorem toLocalQueue_queues (p : Port) (m : Msg) (s : State) : QueueWork s (s.toLocalQueue p m) :=
  setBase_queues (enqueue_length_le m) (enqueue_length_ge _ m) rfl

theorem toForwardQueue_queues (sp : Span) (m : Msg) (s : State) : QueueWork s (s.toForwardQueue sp m) :=
  setLine_queues rfl (enqueue_length_le m)

theorem departures_room (fuel : Nat) (h : s.QueuesWithinRoom) : (departures fuel s).QueuesWithinRoom := by
  induction fuel generalizing s with
  | zero => exact h
  | succ fuel ih =>
    unfold departures
    split
    next => exact h
    next n rest hn =>
      split
      next =>
        obtain ⟨queues, forwards, notices⟩ := h
        rw [hn, List.length_cons] at notices
        have taken : State.QueuesWithinRoom { s with notices := rest } := ⟨queues, forwards, by dsimp only; omega⟩
        exact ih ((toLocalQueue_queues ..).room taken)
      next => exact h

/-- Departures go on until no notice waits or the notice port's queue is full (R163). -/
theorem departures_moved {fuel : Nat} (h : 8 ≤ (s.base s.part.noticePort).queue.length + fuel) : (departures fuel s).NoticesMovedUp := by
  induction fuel generalizing s with
  | zero => exact .inr h
  | succ fuel ih =>
    unfold departures
    split
    next hn => exact .inl hn
    next n rest hn =>
      split
      next hq =>
        obtain ⟨-, longer⟩ | ⟨full, -⟩ := enqueue_cases (s.base s.part.noticePort).queue (noticeMsg s n)
        · refine ih ?_
          rw [toLocalQueue_eq, State.setBase_part, State.setBase_base_self]
          show 8 ≤ (enqueue (s.base s.part.noticePort).queue (noticeMsg s n)).length + fuel
          rw [longer, List.length_append, List.length_singleton]
          omega
        · exact absurd hq (Nat.not_lt.mpr full)
      next hq => exact .inr (Nat.le_of_not_lt hq)

theorem departNotices_room (h : s.QueuesWithinRoom) : (departNotices s).QueuesWithinRoom := departures_room _ h

theorem departNotices_moved (s : State) : (departNotices s).NoticesMovedUp := departures_moved (Nat.le_add_left ..)

theorem departNotices_rx (s : State) (p : Port) : ((departNotices s).base p).rx = (s.base p).rx := by
  obtain ⟨k, -, e⟩ := departures_spec Config.queueRoom s
  rw [departNotices, e, State.setBase_base]
  split
  next h => rw [h]
  next => rfl

/-- Departures make good what work left undone of the notices. -/
theorem departNotices_after (room : s.QueuesWithinRoom → u.QueuesWithinRoom) (rx : ∀ p, (u.base p).rx = (s.base p).rx) :
    QueueWork s (departNotices u) :=
  ⟨⟨fun h => departNotices_room (room h), fun _ => departNotices_moved u⟩, fun p => (departNotices_rx u p).trans (rx p)⟩

theorem departNotices_queues (s : State) : QueueWork s (departNotices s) := departNotices_after id fun _ => rfl

theorem offerNotice_queues (n : Notice) (s : State) : QueueWork s (offerNotice n s) := by
  unfold offerNotice
  split
  next h =>
    refine departNotices_after (fun ⟨queues, forwards, _⟩ => ⟨queues, forwards, ?_⟩) fun _ => rfl
    rw [List.length_append]; exact h
  next h =>
    refine ⟨⟨fun ⟨queues, forwards, notices⟩ => ⟨queues, forwards, ?_⟩, fun moved => .inr ?_⟩, fun _ => rfl⟩
    · rw [markNewest_length]; exact notices
    · exact moved.resolve_left fun e => h (by rw [e]; exact Nat.zero_lt_succ _)

theorem offerAll_queues (ns : List Notice) (s : State) : QueueWork s (offerAll ns s) := by
  induction ns generalizing s with
  | nil => exact .refl s
  | cons n ns ih => exact (offerNotice_queues n s).trans (ih _)

/-! ### The Pump Controller and the Pump Link -/

theorem sendRecord_queues (ch : Chan) (s : State) : QueueWork s (sendRecord ch s) := by
  rw [sendRecord_spec]; exact .of_traffic rfl

theorem putPump_queues (ch : Chan) (q : Pump) (s : State) : QueueWork s (s.putPump ch q) := PumpFrame.queues (putPump_frame s ch q)

theorem snuffChannel_queues (ch : Chan) (s : State) : QueueWork s (snuffChannel ch s) := PumpFrame.queues (snuffChannel_frame ch s)

theorem riseChannel_queues (ch : Chan) (x : Nat) (s : State) : QueueWork s (riseChannel ch x s) :=
  PumpFrame.queues (riseChannel_frame ch x s)

theorem faultChannel_queues (e : Event) (ch : Chan) (s : State) : QueueWork s (faultChannel e ch s) :=
  (putPump_queues ch _ s).trans ((sendRecord_queues ch _).trans (raise_queues ..))

theorem checkTick_queues (ch : Chan) (s : State) : QueueWork s (checkTick ch s) := by
  obtain ⟨-, e⟩ | ⟨-, e⟩ := checkTick_cases ch s <;> rw [e]
  · exact (faultChannel_queues .driverLost ch _).after rfl
  · exact .of_traffic rfl

theorem takeCheck_queues (ch : Chan) (s : State) : QueueWork s (takeCheck ch s) := by
  obtain ⟨-, e⟩ | ⟨-, e⟩ := takeCheck_cases ch s <;> rw [e]
  · exact (checkTick_queues ch _).after rfl
  · exact .refl s

theorem linkTick_queues (ch : Chan) (s : State) : QueueWork s (linkTick ch s) := by
  rw [linkTick_spec]
  refine (QueueWork.forChans takeCheck_queues s).trans ?_
  generalize forChans takeCheck s = u
  exact .of_traffic rfl

theorem takeLink_queues (ch : Chan) (s : State) : QueueWork s (takeLink ch s) := by
  obtain ⟨-, e⟩ | ⟨-, e⟩ := takeLink_cases ch s <;> rw [e]
  · exact (linkTick_queues ch _).after rfl
  · exact .refl s

theorem pulseChannel_queues (ch : Chan) (level length : Nat) (s : State) : QueueWork s (pulseChannel ch level length s) :=
  .ite ((takeLink_queues ch s).trans (putPump_queues ..)) (.refl s)

theorem takeStatus_queues (ch : Chan) (fault : Bool) (s : State) : QueueWork s (takeStatus ch fault s) :=
  .ite (.refl s) (.ite ((faultChannel_queues .driverFault ch (s.setPump ch { s.pump ch with answered := true, noReply := 0 })).after rfl)
    (.of_traffic rfl))

theorem snuffAll_queues (s : State) : QueueWork s (snuffAll s) := PumpFrame.queues (snuffAll_frame s)

theorem snuffSpan_queues (sp : Span) (s : State) : QueueWork s (snuffSpan sp s) := PumpFrame.queues (snuffSpan_frame sp s)

theorem snuffLit_queues (sp : Span) (s : State) : QueueWork s (snuffLit sp s) := (snuffLit_frame sp s).queues

theorem pulseSpan_queues (sp : Span) (s : State) : QueueWork s (pulseSpan sp s) :=
  .forChans (fun ch t => .ite (pulseChannel_queues ch _ _ t) (.refl t)) s

/-! ### The Span Engines -/

theorem completionTest_queues (sp : Span) (s : State) : QueueWork s (completionTest sp s) := (completionTest_frame sp s).queues

theorem testCompletion_queues (ch : Chan) (s : State) : QueueWork s (testCompletion ch s) := (testCompletion_frame ch s).queues

theorem breakTest_queues (sp : Span) (s : State) : QueueWork s (breakTest sp s) := (breakTest_spanFrame sp s).queues

theorem enterConfirm_queues (sp : Span) (s : State) : QueueWork s (enterConfirm sp s) := (enterConfirm_frame sp s).queues

theorem enterWait_queues (sp : Span) (expired : Bool) (s : State) : QueueWork s (enterWait sp expired s) := .of_traffic rfl

theorem enterMaint_queues (sp : Span) (s : State) : QueueWork s (enterMaint sp s) := .of_traffic rfl

theorem enterLocked_queues (sp : Span) (s : State) : QueueWork s (enterLocked sp s) := .of_traffic rfl

theorem emptySpan_queues (sp : Span) (s : State) : QueueWork s (emptySpan sp s) := .of_traffic rfl

theorem endStanding_queues (sp : Span) (e : Event) (s : State) : QueueWork s (endStanding sp e s) := .of_traffic rfl

theorem enterUnused_queues (sp : Span) (s : State) : QueueWork s (enterUnused sp s) := (snuffLit_queues sp s).trans (emptySpan_queues sp _)

theorem leaveUnused_queues (sp : Span) (expired : Bool) (s : State) : QueueWork s (leaveUnused sp expired s) := by
  rw [leaveUnused_eq]
  refine .of_traffic ?_
  cases s.activeLine sp <;> rfl

theorem actOn_queues (sp : Span) (act : Action) (e : Event) (s : State) : QueueWork s (actOn sp act e s) := by
  by_cases h : (s.st sp).state = .unused ∨ act = .note
  · rw [actOn, if_pos h]; exact .refl s
  obtain ⟨hu, ha⟩ := not_or.mp h
  rw [actOn_eq hu ha]
  dsimp only
  split_ifs
  · exact (snuffSpan_queues sp s).trans (shift_queues ..)
  · exact setSt_queues ..
  · exact setSt_queues ..
  · exact (snuffLit_queues sp s).trans ((shift_queues ..).trans (engineRaise_queues ..))

theorem handAction_queues (act : Action) (e : Event) (sps : List Span) (s : State) : QueueWork s (handAction act e sps s).1 := by
  induction sps generalizing s with
  | nil => exact .refl s
  | cons sp sps ih => exact (actOn_queues sp act e s).trans (ih _)

theorem takeEvent_queues (ev : Raised) (s : State) : QueueWork s (takeEvent ev s) := by
  have acted (u : State) : QueueWork u (pairLockouts s.raised.length
      (handAction (actingAction s ev) ev.event (actionSpans (actingAction s ev) ev) u).1) := by
    rw [pairLockouts_spec]
    exact (handAction_queues _ _ _ u).trans (.of_traffic rfl)
  have snuffed : QueueWork s (if actingAction s ev = .snuffAll then snuffAll s else s) := .ite (snuffAll_queues s) (.refl s)
  have all := snuffed.trans (acted _)
  exact .ite (.ite (offerAll_queues _ s) (.refl s)) (.ite (all.trans (offerAll_queues _ _)) all)

theorem takeOldest_queues (src : Block) (s : State) : QueueWork s (takeOldest src s) := by
  unfold takeOldest
  split
  next ev left _ => exact (takeEvent_queues ev { s with raised := left }).after rfl
  next => exact .refl s

/-! ### Light -/

theorem stageFollow_queues (d : Dir) (old new : Light) (s : State) : QueueWork s (stageFollow d old new s) :=
  .ite (.refl s) (.ite (riseStage_frame d s).queues (.ite (douseStage_frame d s).queues (.refl s)))

theorem lightChanged_queues (sp : Span) (old new : Light) (s : State) : QueueWork s (lightChanged sp old new s) :=
  .ite (.refl s) ((engineLight_frame sp old new s).queues.trans (stageFollow_queues ..))

theorem advanceLight_queues (sp : Span) (below restored : Bool) (s : State) : QueueWork s (advanceLight sp below restored s) :=
  (lightChanged_queues sp _ _ (s.setInp sp ((s.inp sp).sample below restored))).after rfl

theorem takeSample_queues (ch : Chan) (code : Nat) (s : State) : QueueWork s (takeSample ch code s) := by
  unfold takeSample
  dsimp only
  split
  · exact (advanceLight_queues ..).after rfl
  · exact .of_traffic rfl
  · exact .ite (.of_traffic rfl) (.of_traffic rfl)

theorem goStale_queues (ch : Chan) (s : State) : QueueWork s (goStale ch s) := by
  unfold goStale
  dsimp only
  split <;> exact .of_traffic rfl

theorem zeroSample_queues (ch : Chan) (s : State) : QueueWork s (zeroSample ch s) := by
  unfold zeroSample
  split
  · exact advanceLight_queues ..
  all_goals exact .refl s

theorem monitorTick_queues (ch : Chan) (s : State) : QueueWork s (monitorTick ch s) := by
  have counted : QueueWork s (s.setChan ch { s.chan ch with fresh := satSucc 255 (s.chan ch).fresh }) := .of_traffic rfl
  have zero {u : State} (h : QueueWork s u) : QueueWork s (if (u.chan ch).stale then zeroSample ch u else u) :=
    .ite (h.trans (zeroSample_queues ch u)) h
  exact zero (.ite (counted.trans (goStale_queues ch _)) counted)

/-! ### The slot of a tick -/

theorem startProbe_queues (sp : Span) (s : State) : QueueWork s (startProbe sp s) := by
  rw [startProbe_eq]
  exact (pulseSpan_queues sp _).after rfl

theorem expireProbe_queues (sp : Span) (s : State) : QueueWork s (expireProbe sp s) :=
  (PumpFrame.queues (snuffPulsing_frame sp s)).trans ((engineRaise_queues ..).trans ((setSt_queues ..).trans
    (.ite (enterLocked_queues ..) (enterWait_queues ..))))

theorem probeTick_queues (sp : Span) (slot : Nat) (s : State) : QueueWork s (probeTick sp slot s) := by
  have overshot (u : State) : QueueWork u (overshootTest sp slot u) := .ite ((setSt_queues ..).trans (engineRaise_queues ..)) (.refl u)
  have exposed (u : State) : QueueWork u (exposureTest sp u) := .ite ((setSt_queues ..).trans (engineRaise_queues ..)) (.refl u)
  have tested : QueueWork s (exposureTest sp (overshootTest sp slot
      (s.setSt sp { s.st sp with ticks := satSucc 65535 (s.st sp).ticks }))) :=
    (setSt_queues ..).trans ((overshot _).trans (exposed _))
  refine tested.trans (.ite (enterConfirm_queues sp _) ?_)
  split
  · exact .ite (expireProbe_queues sp _) (.refl _)
  · exact .refl _

theorem engineTick_queues (sp : Span) (slot : Nat) (s : State) : QueueWork s (engineTick sp slot s) := by
  unfold engineTick
  split
  · exact .ite (enterWait_queues ..) (.ite ((setSt_queues ..).trans (engineRaise_queues ..)) (setSt_queues ..))
  · exact .ite (startProbe_queues sp s) (.refl s)
  · exact probeTick_queues ..
  · exact .ite ((setSt_queues ..).trans (engineRaise_queues ..)) (setSt_queues ..)
  all_goals exact .refl s

theorem slotTick_queues (sp : Span) (s : State) : QueueWork s (slotTick sp s) :=
  QueueWork.after (t := s.recorded sp) (.ite (setSt_queues ..) (engineTick_queues sp _ _)) rfl

/-! ### Lines and supply -/

theorem putLine_queues (n : Chan) (l : IlLine) (s : State) : QueueWork s (putLine n l s) := by
  have effect (old : IlLine) (stood : Bool) (x : Span) (u : State) : QueueWork u (interlockEffect n old stood x u) :=
    .ite (.of_traffic rfl) (.ite (.of_traffic rfl) (.refl u))
  exact ((effect _ _ .ws (s.setIlLine n l)).trans (effect _ _ .es _)).after rfl

theorem settleTick_queues (s : State) : QueueWork s (settleTick s) := by
  have moved (x : Supply) : QueueWork s { s with supply := x } := .of_traffic rfl
  exact .ite (.ite ((moved _).trans ((endStanding_queues ..).trans (endStanding_queues ..))) (moved _)) (.refl s)

theorem supplyFall_queues (s : State) : QueueWork s (supplyFall s) :=
  .ite (.refl s) (((snuffAll_queues { s with supply := ⟨.low, 0⟩ }).trans (raise_queues ..)).after rfl)

theorem supplyRise_queues (s : State) : QueueWork s (supplyRise s) := .ite (.of_traffic rfl) (.refl s)

theorem silenceTick_queues (sp : Span) (s : State) : QueueWork s (silenceTick sp s) := by
  have counted (n : Nat) (live : Bool) : QueueWork s (s.setLine sp { s.line sp with silence := n, live := live }) := setLine_queues rfl id
  exact .ite (.ite ((counted _ _).trans ((breakTest_queues sp _).after rfl)) (counted _ (s.line sp).live)) (.refl s)

theorem offTick_queues (sp : Span) (s : State) : QueueWork s (offTick sp s) := .ite (.of_traffic rfl) (.refl s)

end Sys2Proof.Machine
end

section
/-! SUPPORT. The requests, Part Control, the frame path and every step as work on the queues (R118, R161, R163, R181). -/

namespace Sys2Proof.Machine

variable {s t u : State} {sp : Span} {ch : Chan}

/-! ### WRITE_SPAN -/

theorem clearMismatch_queues (sp : Span) (s : State) : QueueWork s (clearMismatch sp s) := setLine_queues rfl id

theorem presentChanged_queues (sp : Span) (now : Bool) (s : State) : QueueWork s (presentChanged sp now s) :=
  .ite (.refl s) (.ite
    (.ite (.ite ((leaveUnused_queues sp false s).trans (raise_queues ..)) (leaveUnused_queues sp false s)) (.refl s))
    (.ite (enterUnused_queues sp s) (.refl s)))

theorem modeChanged_queues (sp : Span) (s : State) : QueueWork s (modeChanged sp s) := by
  unfold modeChanged
  split
  · split
    · exact breakTest_queues sp s
    · exact engineRaise_queues ..
  · exact .refl s

theorem applySpan_queues (sp : Span) (k : SpanConfig) (s : State) : QueueWork s (applySpan sp k s) := by
  have stored : QueueWork s (s.setConfig sp k) := .of_traffic rfl
  have far := stored.unless (c := k.neighbour = (s.config sp).neighbour) (f := forgetFar sp) fun _ =>
    (setSt_queues ..).trans (clearMismatch_queues sp _)
  have off := far.unless (c := k.offStage = (s.config sp).offStage) (f := restartOff sp) fun _ => setSt_queues ..
  have silence := off.unless (c := k.silenceStage = (s.config sp).silenceStage) (f := restartSilence sp) fun _ => setLine_queues rfl id
  have present := silence.unless (c := k.present = (s.config sp).present) (presentChanged_queues sp k.present)
  rw [applySpan_eq]
  exact present.unless (modeChanged_queues sp)

theorem writeSpan_queues (r : Req) (s : State) : QueueWork s (writeSpan r s).s := by
  have owner (sp : Span) (items : List Item) (withheld : List Nat) : QueueWork s (ownerWriteSpan sp items withheld s).s := by
    refine .kind (.refl s) (.kind (.refl s) ?_)
    rw [applied_s]
    exact applySpan_queues ..
  unfold writeSpan
  split
  · exact .refl s
  · split
    · exact .refl s
    · refine .kind (.refl s) (.kind (.refl s) ?_)
      split
      · exact .refl s
      · exact owner ..

/-! ### WRITE_PUMP and the other requests for a pump -/

theorem setpointActs_queues (ch : Chan) (s : State) : QueueWork s (setpointActs ch s) := by
  cases hl : (s.pump ch).lights with
  | none => rw [setpointActs_none hl]; exact .refl s
  | some sp =>
    rw [setpointActs_some hl]
    have acts : QueueWork s (if (s.st sp).state = .service ∧
        ((s.pump ch).role = .stage → s.lightOf (Config.inSpan (s.pump ch).dir) = .present)
        then riseChannel ch (s.pump ch).service s else s) := .ite (riseChannel_queues ..) (.refl s)
    exact acts.trans (completionTest_queues ..)

theorem applyPump_queues (ch : Chan) (p' : Pump) (s : State) : QueueWork s (applyPump ch p' s) := by
  unfold applyPump
  dsimp only
  generalize (if rebinds (s.pump ch) p' = true then { p'.clampSetpoints.clampWork with rise := none, noReply := 0 }
    else p'.clampSetpoints.clampWork) = q
  have put : QueueWork s (s.putPump ch q) := putPump_queues ch q s
  have sent : QueueWork s (if q.level < (s.pump ch).level then sendRecord ch (s.putPump ch q) else s.putPump ch q) :=
    .ite (put.trans (sendRecord_queues ch _)) put
  exact .ite (sent.trans (testCompletion_queues ch _)) (sent.trans (setpointActs_queues ch _))

theorem writePump_queues (r : Req) (s : State) : QueueWork s (writePump r s).s := by
  have owner (ch : Chan) (items : List Item) (withheld : List Nat) : QueueWork s (ownerWritePump ch items withheld s).s := by
    refine .kind (.refl s) (.kind (.refl s) ?_)
    rw [applied_s]
    exact applyPump_queues ..
  unfold writePump
  split
  · exact .refl s
  · split
    · exact .refl s
    · refine .kind (.refl s) (.kind (.refl s) ?_)
      split
      · exact .refl s
      · exact owner ..

theorem setSetpoint_queues (r : Req) (s : State) : QueueWork s (setSetpoint r s).s := by
  have owner (ch : Chan) (v : Nat) : QueueWork s (ownerSetSetpoint ch v s).s := by
    have acts : QueueWork s (setpointActs ch (s.setPump ch { s.pump ch with service := min v (s.pump ch).ceiling })) :=
      (setpointActs_queues ..).after rfl
    exact .kind (.refl s) (.kind acts acts)
  unfold setSetpoint
  split
  · exact .kind (.refl s) (.kind (.refl s) (owner ..))
  · exact .refl s

theorem clearPump_queues (r : Req) (s : State) : QueueWork s (clearPump r s).s := by
  have owner (ch : Chan) : QueueWork s (ownerClearPump ch s).s := .kind (.refl s) (putPump_queues ..)
  unfold clearPump
  split
  · exact .kind (.refl s) (.kind (.refl s) (owner _))
  · exact .refl s

/-! ### WRITE_MONITOR, WRITE_EVENT, WRITE_INTERLOCK, CLEAR_INTERLOCK -/

theorem writeMonitor_queues (r : Req) (s : State) : QueueWork s (writeMonitor r s).s := by
  have owner (ch : Chan) (items : List Item) : QueueWork s (ownerWriteMonitor ch items s).s := by
    refine .kind (.refl s) ?_
    dsimp only
    split <;> exact .of_traffic rfl
  unfold writeMonitor
  split
  · exact .refl s
  · split
    · exact .refl s
    · exact .kind (.refl s) (.kind (.refl s) (owner ..))

theorem writeEvent_queues (r : Req) (s : State) : QueueWork s (writeEvent r s).s := by
  have owner (items : List Item) : QueueWork s (ownerWriteEvent items s).s := by
    refine .kind (.refl s) ?_
    dsimp only
    rw [applied_s]
    split <;> exact .of_traffic rfl
  unfold writeEvent
  split
  · exact .refl s
  · exact .kind (.refl s) (.kind (.refl s) (.kind (.refl s) (owner _)))

theorem writeInterlock_queues (r : Req) (s : State) : QueueWork s (writeInterlock r s).s := by
  have owner (n : Chan) (items : List Item) : QueueWork s (ownerWriteInterlock n items s).s := .kind (.refl s) (putLine_queues ..)
  unfold writeInterlock
  split
  · exact .refl s
  · split
    · exact .refl s
    · exact .kind (.refl s) (.kind (.refl s) (owner ..))

theorem clearInterlock_queues (r : Req) (s : State) : QueueWork s (clearInterlock r s).s := by
  unfold clearInterlock
  split
  · exact .kind (.refl s) (.kind (.refl s) (putLine_queues ..))
  · exact .refl s

/-! ### SPAN_HOLD, SPAN_RESUME, SPAN_RELEASE, SET_LOOP -/

theorem spanHold_queues (r : Req) (s : State) : QueueWork s (spanHold r s).s := by
  unfold spanHold
  split
  · exact .kind (.refl s) (.kind (.refl s) (.of_traffic rfl))
  · exact .refl s

theorem spanResume_queues (r : Req) (s : State) : QueueWork s (spanResume r s).s := by
  have owner (sp : Span) : QueueWork s (resumeSpan sp s).s := .ite (.of_traffic rfl) (.refl s)
  unfold spanResume
  split
  · exact .kind (.refl s) (.kind (.refl s) (owner _))
  · exact .refl s

theorem spanRelease_queues (r : Req) (s : State) : QueueWork s (spanRelease r s).s := by
  have owner (sp : Span) : QueueWork s (releaseSpan sp s).s :=
    .kind (.refl s) ((setSt_queues ..).trans (.ite (enterWait_queues ..) (enterMaint_queues ..)))
  unfold spanRelease
  split
  · exact .kind (.refl s) (.kind (.refl s) (owner _))
  · exact .refl s

theorem loopMoves_queues (sp : Span) (old new : Loop) (s : State) : QueueWork s (loopMoves sp old new s) := by
  unfold loopMoves
  split
  case h_1 | h_2 => exact .ite (enterMaint_queues ..) (.refl s)
  case h_3 => exact .ite (enterWait_queues ..) (.refl s)
  all_goals exact .refl s

theorem setLoop_queues (r : Req) (s : State) : QueueWork s (setLoop r s).s := by
  have stored (sp : Span) (m : Loop) : QueueWork s (putLoop sp m s) := setLine_queues rfl id
  have owner (sp : Span) (m : Loop) : QueueWork s (loopPort sp m s).s :=
    .kind (.refl s) (.kind (.refl s) ((stored sp m).trans (loopMoves_queues ..)))
  unfold setLoop
  split
  · exact .kind (.refl s) (.kind (.refl s) (owner ..))
  · exact .refl s

/-! ### WRITE_GRANTS, START, HALT, CLEAR -/

theorem writeGrants_queues (r : Req) (s : State) : QueueWork s (writeGrants r s).s := by
  have owner (items : List Item) : QueueWork s (ownerWriteGrants items s).s := .kind (.refl s) (.of_traffic rfl)
  unfold writeGrants
  split
  · exact .refl s
  · exact .kind (.refl s) (owner _)

theorem setRun_queues (run : Bool) (s : State) : QueueWork s (setRun run s) := .of_traffic rfl

theorem startSpan_queues (sp : Span) (s : State) : QueueWork s (startSpan sp s) := .ite (leaveUnused_queues ..) (.refl s)

theorem startPart_queues (s : State) : QueueWork s (startPart s) := by
  have supply (u : State) : QueueWork u (startSupply u) := .ite (raise_queues ..) (.refl u)
  exact (setRun_queues true s).trans ((startSpan_queues .ws _).trans ((startSpan_queues .es _).trans ((supply _).trans
    ((clearMismatch_queues .ws _).trans ((clearMismatch_queues .es _).trans (raise_queues ..))))))

theorem startReq_queues (r : Req) (s : State) : QueueWork s (startReq r s).s :=
  .kind (.refl s) (.kind (.refl s) (.kind (.refl s) (startPart_queues s)))

theorem haltPart_queues (s : State) : QueueWork s (haltPart s) := by
  have emptied (sp : Span) (u : State) : QueueWork u (haltSpan sp u) := .ite (.refl u) (emptySpan_queues sp u)
  exact (snuffAll_queues s).trans ((emptied .ws _).trans ((emptied .es _).trans (setRun_queues ..)))

theorem haltReq_queues (r : Req) (s : State) : QueueWork s (haltReq r s).s :=
  .kind (.refl s) (.kind (.refl s) (.kind (.refl s) ((haltPart_queues s).trans (raise_queues ..))))

/-- CLEAR empties the queues and leaves what the receivers hold (R188). -/
theorem clearPorts_queues (s : State) : QueueWork s { clearPorts s with notices := [] } := by
  refine ⟨⟨fun _ => ⟨fun p => ?_, fun sp => ?_, Nat.zero_le _⟩, fun _ => .inl rfl⟩, fun p => ?_⟩
  · cases p <;> exact Nat.zero_le _
  · cases sp <;> exact Nat.zero_le _
  · cases p <;> rfl

theorem clearPart_queues (s : State) : QueueWork s (clearPart s) := by
  have dark : QueueWork s (if s.part.run then haltPart s else snuffAll s) := .ite (haltPart_queues s) (snuffAll_queues s)
  have span (sp : Span) (u : State) : QueueWork u (clearSpan sp u) := .of_traffic rfl
  have input (sp : Span) (u : State) : QueueWork u (clearInput sp u) := (lightChanged_queues sp _ _ (u.setInp sp _)).after rfl
  rw [clearPart_eq]
  dsimp only
  refine dark.trans ((span .ws _).trans ((span .es _).trans ((input .ws _).trans ((input .es _).trans ?_))))
  generalize clearInput .es _ = u
  exact (clearPorts_queues u).trans (.of_traffic rfl)

theorem clearReq_queues (r : Req) (s : State) : QueueWork s (clearReq r s).s :=
  .kind (.refl s) (.kind (.refl s) (clearPart_queues s))

/-! ### Replies, and WRITE_PART with the notices it lets leave (R164, R176) -/

theorem sendReply_queues (kind : BitVec 5) (r : Req) {a : Answer} (h : QueueWork s a.s) : QueueWork s (sendReply kind r a) := by
  have queued : QueueWork s (a.s.toLocalQueue r.port (replyMsg kind r a)) := h.trans (toLocalQueue_queues ..)
  exact .ite (queued.trans (departNotices_queues _)) queued

/-- One reply or the other. -/
theorem QueueWork.reply {c : Prop} [Decidable c] {kind : BitVec 5} {r : Req} {a d : Answer} (ha : QueueWork s (sendReply kind r a))
    (hd : QueueWork s (sendReply kind r d)) : QueueWork s (sendReply kind r (if c then a else d)) := by
  split
  · exact ha
  · exact hd

/-- A new notice port may leave notices waiting, which depart before the reply or after it. -/
theorem writePart_queues (kind : BitVec 5) (r : Req) (s : State) : QueueWork s (sendReply kind r (writePart r s)) := by
  have refused (code : Reply) : QueueWork s (sendReply kind r (refuse code s)) := sendReply_queues kind r (.refl s)
  have owner (items : List Item) : QueueWork s (sendReply kind r (ownerWritePart r.replyFirst items s)) := by
    unfold ownerWritePart
    refine .reply (refused _) ?_
    dsimp only
    have cleared (u : State) : QueueWork u (if u.part.site = s.part.site then u else clearMismatch .es (clearMismatch .ws u)) :=
      .unless (f := fun u => clearMismatch .es (clearMismatch .ws u)) (.refl u)
        fun v => (clearMismatch_queues .ws v).trans (clearMismatch_queues .es _)
    have named := cleared { s with part := s.part.write items }
    have room : s.QueuesWithinRoom → State.QueuesWithinRoom { s with part := s.part.write items } := id
    split
    next same =>
      have stored : QueueWork s { s with part := s.part.write items } := .of_traffic (by rw [State.traffic, same]; rfl)
      exact sendReply_queues kind r (stored.trans named)
    next =>
      split
      · refine departNotices_after (fun h => ?_) fun p => ?_
        · exact (toLocalQueue_queues ..).room (named.room (room h))
        · exact ((toLocalQueue_queues ..).rx p).trans (named.rx p)
      · exact sendReply_queues kind r (departNotices_after (fun h => named.room (room h)) named.rx)
  unfold writePart
  split
  · exact refused _
  · exact .reply (refused _) (owner _)

theorem takeRequest_queues (kind : BitVec 5) (r : Req) (s : State) : QueueWork s (takeRequest kind r s) := by
  unfold takeRequest answer
  refine .reply (sendReply_queues kind r (by rw [readReq_s]; exact .refl s)) ?_
  refine .reply (sendReply_queues kind r (writeSpan_queues r s)) ?_
  refine .reply (sendReply_queues kind r (writePump_queues r s)) ?_
  refine .reply (sendReply_queues kind r (setSetpoint_queues r s)) ?_
  refine .reply (sendReply_queues kind r (clearPump_queues r s)) ?_
  refine .reply (sendReply_queues kind r (writeMonitor_queues r s)) ?_
  refine .reply (sendReply_queues kind r (writeEvent_queues r s)) ?_
  refine .reply (sendReply_queues kind r (writeInterlock_queues r s)) ?_
  refine .reply (sendReply_queues kind r (clearInterlock_queues r s)) ?_
  refine .reply (sendReply_queues kind r (spanHold_queues r s)) ?_
  refine .reply (sendReply_queues kind r (spanResume_queues r s)) ?_
  refine .reply (sendReply_queues kind r (spanRelease_queues r s)) ?_
  refine .reply (sendReply_queues kind r (setLoop_queues r s)) ?_
  refine .reply (writePart_queues kind r s) ?_
  refine .reply (sendReply_queues kind r (startReq_queues r s)) ?_
  refine .reply (sendReply_queues kind r (haltReq_queues r s)) ?_
  refine .reply (sendReply_queues kind r (writeGrants_queues r s)) ?_
  exact .reply (sendReply_queues kind r (clearReq_queues r s)) (sendReply_queues kind r (.refl s))

end Sys2Proof.Machine
end

section
/-! SUPPORT. The frame path, slot starts, ticks and every step as work on the queues. -/

namespace Sys2Proof.Machine

variable {s t u : State} {sp : Span} {race : Race}

/-! ### Frames that are taken -/

theorem frameTests_queues (sp : Span) (w : SpanWord) (s : State) : QueueWork s (frameTests sp w s) := by
  have shut (c : Bool) : QueueWork s (if c then engineRaise sp .farShut (.port sp.port) s else s) :=
    .ite (engineRaise_queues ..) (.refl s)
  unfold frameTests
  split
  next => exact shut _
  next => exact (shut _).trans (completionTest_queues sp _)
  next => exact .ite (setSt_queues ..) (.refl s)
  next =>
    split
    all_goals exact .ite (enterConfirm_queues sp s) (.refl s)
  all_goals exact .refl s

theorem takeWord_queues (sp : Span) (w : SpanWord) (s : State) : QueueWork s (takeWord sp w s) := by
  have valid : QueueWork s (validWord sp w s) := by
    have heard : QueueWork s (s.setLine sp { s.line sp with silence := 0, live := true, mismatch := false }) := setLine_queues rfl id
    exact heard.trans ((setSt_queues ..).trans (frameTests_queues ..))
  have reported : QueueWork s (s.setLine sp { s.line sp with mismatch := true }) := setLine_queues rfl id
  exact .ite valid (.ite (.refl s) (reported.trans (raise_queues ..)))

theorem forwardMsg_queues (sp : Span) (m : Msg) (s : State) : QueueWork s (forwardMsg sp m s) :=
  .ite (.refl s) (toForwardQueue_queues ..)

theorem handOn_queues (sp : Span) (race : Race) (m : Msg) (s : State) : QueueWork s (handOn sp race m s) :=
  .ite (takeRequest_queues ..) (toLocalQueue_queues ..)

theorem inOrder_queues {f g : State → State} (hf : ∀ u, QueueWork u (f u)) (hg : ∀ u, QueueWork u (g u)) (swapped : Bool) (s : State) :
    QueueWork s (inOrder swapped f g s) := by
  obtain e | e := inOrder_cases swapped f g s <;> rw [e]
  · exact (hf s).trans (hg _)
  · exact (hg s).trans (hf _)

theorem routeLine_queues (sp : Span) (race : Race) (m : Msg) (s : State) : QueueWork s (routeLine sp race m s) :=
  .ite (.refl s) (.ite (handOn_queues sp race m s)
    (.ite (inOrder_queues (handOn_queues sp race m) (forwardMsg_queues sp m) _ s) (forwardMsg_queues sp m s)))

theorem routeLocal_queues (race : Race) (m : Msg) (s : State) : QueueWork s (routeLocal race m s) := by
  have handle (u : State) : QueueWork u ((if Config.isRequestKind m.kind then takeRequest m.kind (m.request .loc race) else id) u) := by
    split
    · exact takeRequest_queues ..
    · exact .refl u
  have send (u : State) : QueueWork u (u.toLocalQueue (dirPort m.dir) m) := toLocalQueue_queues ..
  exact .ite (handle s) (.ite (inOrder_queues handle send _ s) (send s))

theorem withMsg_queues {f : Msg → State → State} (hf : ∀ m u, QueueWork u (f m u)) (m : Option Msg) (s : State) :
    QueueWork s (withMsg m f s) := by
  cases m
  · exact .refl s
  · exact hf _ s

theorem takeFrame_queues (p : Port) (race : Race) (w : SpanWord) (m : Option Msg) (s : State) : QueueWork s (takeFrame p race w m s) := by
  cases p
  · exact inOrder_queues (takeWord_queues .ws w) (withMsg_queues (routeLine_queues .ws race) m) _ s
  · exact inOrder_queues (takeWord_queues .es w) (withMsg_queues (routeLine_queues .es race) m) _ s
  · exact withMsg_queues (routeLocal_queues race) m s

/-! ### Receivers -/

theorem setRx_flow (p : Port) (rx : Receiver) (s : State) : QueueFlow s (setRx p rx s) := setBase_flow id le_rfl

theorem countDiscard_flow (p : Port) (s : State) : QueueFlow s (countDiscard p s) := setBase_flow id le_rfl

theorem countKept_flow (p : Port) (s : State) : QueueFlow s (countKept p s) := setBase_flow id le_rfl

theorem receive_flow (p : Port) (race : Race) (fuel : Nat) (s : State) : QueueFlow s (receive p race fuel s) := by
  induction fuel generalizing s with
  | zero => exact .refl s
  | succ fuel ih =>
    unfold receive
    split
    · exact .refl s
    · exact (countDiscard_flow p s).trans (setRx_flow ..)
    · exact (countDiscard_flow p s).trans ((setRx_flow ..).trans (ih _))
    · exact (countKept_flow p s).trans ((setRx_flow ..).trans ((takeFrame_queues ..).toQueueFlow.trans (ih _)))

/-- Flow that begins where the traffic is as it was. -/
theorem QueueFlow.after (g : QueueFlow t u) (h : t.traffic = s.traffic) : QueueFlow s u := (QueueWork.of_traffic h).toQueueFlow.trans g

/-- Flow that is let through or not. -/
theorem QueueFlow.ite {c : Prop} [Decidable c] (h : QueueFlow s t) (g : QueueFlow s u) : QueueFlow s (if c then t else u) := by
  split
  · exact h
  · exact g

theorem takeBytes_flow (p : Port) (race : Race) (bytes : List Byte) (s : State) : QueueFlow s (takeBytes p race bytes s) :=
  .ite (.refl s) ((setRx_flow ..).trans (receive_flow ..))

theorem frameArrives_flow (p : Port) (race : Race) (bytes : List Byte) (s : State) : QueueFlow s (frameArrives p race bytes s) :=
  .ite (.refl s) (takeBytes_flow p race bytes s)

theorem idleArrives_flow (p : Port) (s : State) : QueueFlow s (idleArrives p s) :=
  .ite (.refl s) (QueueFlow.trans (.ite (.refl s) (countDiscard_flow p s)) (setRx_flow ..))

/-! ### Slot starts -/

/-- The arbiter takes messages from the queues of a port and puts none in (R120). -/
theorem arbitrate_queues (l : LinePort) :
    l.arbitrate.2.forward.length ≤ l.forward.length ∧ l.arbitrate.2.base.queue.length ≤ l.base.queue.length := by
  unfold LinePort.arbitrate
  split
  · exact ⟨le_rfl, le_rfl⟩
  · next hf _ => rw [hf]; exact ⟨Nat.le_succ _, le_rfl⟩
  · next hq => rw [hq]; exact ⟨le_rfl, Nat.le_succ _⟩
  · next hf hq =>
    rw [hf, hq]
    split
    · exact ⟨Nat.le_succ _, hq ▸ le_rfl⟩
    · exact ⟨hf ▸ le_rfl, Nat.le_succ _⟩

theorem latchLoop_queues (l : LinePort) : l.latchLoop.forward = l.forward ∧ l.latchLoop.base.queue = l.base.queue := by
  unfold LinePort.latchLoop
  split <;> exact ⟨rfl, rfl⟩

/-- The room of every queue, port by port. -/
theorem queuesWithinRoom_iff (s : State) :
    s.QueuesWithinRoom ↔ (∀ sp, (s.line sp).base.queue.length ≤ 8 ∧ (s.line sp).forward.length ≤ 8) ∧ s.localPort.queue.length ≤ 8
      ∧ s.notices.length ≤ 32 := by
  refine ⟨fun ⟨queues, forwards, notices⟩ => ⟨fun sp => ⟨?_, forwards sp⟩, queues .loc, notices⟩,
    fun ⟨lines, localPort, notices⟩ => ⟨fun p => ?_, fun sp => (lines sp).2, notices⟩⟩
  · rw [← portBase]; exact queues sp.port
  · cases p
    · exact (lines .ws).1
    · exact (lines .es).1
    · exact localPort

/-- A line port whose queues do not grow. -/
theorem setLine_room {l : LinePort} (h : s.QueuesWithinRoom) (forward : l.forward.length ≤ (s.line sp).forward.length)
    (queue : l.base.queue.length ≤ (s.line sp).base.queue.length) : (s.setLine sp l).QueuesWithinRoom := by
  rw [queuesWithinRoom_iff] at h ⊢
  obtain ⟨lines, localPort, notices⟩ := h
  refine ⟨fun x => ?_, localPort, notices⟩
  rw [State.setLine_line]
  split
  · exact ⟨le_trans queue (lines sp).1, le_trans forward (lines sp).2⟩
  · exact lines x

theorem sendLine_room (sp : Span) (h : s.QueuesWithinRoom) : (sendLine sp s).QueuesWithinRoom := by
  obtain ⟨forward, queue⟩ := arbitrate_queues (s.line sp)
  unfold sendLine
  dsimp only
  split
  · exact setLine_room h forward queue
  · exact (QueueWork.of_traffic (s := s.setLine sp _) rfl).room (setLine_room h forward queue)

theorem sendLocal_room (h : s.QueuesWithinRoom) : (sendLocal s).QueuesWithinRoom := by
  rw [queuesWithinRoom_iff] at h ⊢
  obtain ⟨lines, localPort, notices⟩ := h
  refine ⟨lines, ?_, notices⟩
  show s.localPort.queue.tail.length ≤ 8
  rw [List.length_tail]
  omega

theorem slotBegun_room (h : s.QueuesWithinRoom) : s.slotBegun.QueuesWithinRoom := by
  rw [queuesWithinRoom_iff] at h ⊢
  obtain ⟨lines, localPort, notices⟩ := h
  refine ⟨fun sp => ?_, localPort, notices⟩
  obtain ⟨forward, queue⟩ := latchLoop_queues (s.line sp)
  rw [show s.slotBegun.line sp = (s.line sp).latchLoop by cases sp <;> rfl, forward, queue]
  exact lines sp

theorem loopBack_flow (sp : Span) (race : Race) (bytes : List Byte) (s : State) : QueueFlow s (loopBack sp race bytes s) :=
  .ite (takeBytes_flow ..) (.refl s)

theorem inOrder_flow {f g : State → State} (hf : ∀ u, QueueFlow u (f u)) (hg : ∀ u, QueueFlow u (g u)) (swapped : Bool) (s : State) :
    QueueFlow s (inOrder swapped f g s) := by
  obtain e | e := inOrder_cases swapped f g s <;> rw [e]
  · exact (hf s).trans (hg _)
  · exact (hg s).trans (hf _)

/-- The room a slot start makes goes to the notices that wait, before the looped frames or after them (R163, R164). -/
theorem startSlot_flow (race : Race) (eastFirst : Bool) (s : State) : QueueFlow s (startSlot race eastFirst s) := by
  unfold startSlot
  split
  · have sent (h : s.QueuesWithinRoom) : (sendLocal (sendLine .es (sendLine .ws s.slotBegun))).QueuesWithinRoom :=
      sendLocal_room (sendLine_room .es (sendLine_room .ws (slotBegun_room h)))
    have loops (u : State) := inOrder_flow (loopBack_flow .ws race (s.slotBegun.lineFrame .ws))
      (loopBack_flow .es race (s.slotBegun.lineFrame .es)) eastFirst u
    show QueueFlow s (inOrder race.replyFirst departNotices (inOrder eastFirst (loopBack .ws race (s.slotBegun.lineFrame .ws))
      (loopBack .es race (s.slotBegun.lineFrame .es))) (sendLocal (sendLine .es (sendLine .ws s.slotBegun))))
    generalize sendLocal (sendLine .es (sendLine .ws s.slotBegun)) = u at sent
    generalize inOrder eastFirst (loopBack .ws race (s.slotBegun.lineFrame .ws)) (loopBack .es race (s.slotBegun.lineFrame .es)) = f at loops
    obtain e | e := inOrder_cases race.replyFirst departNotices f u <;> rw [e]
    · exact ⟨fun h => (loops _).room (departNotices_room (sent h)), fun _ => (loops _).moved (departNotices_moved u)⟩
    · exact ⟨fun h => departNotices_room ((loops u).room (sent h)), fun _ => departNotices_moved _⟩
  · exact .refl s

/-! ### Ticks -/

theorem stepTick_queues (ch : Chan) (s : State) : QueueWork s (stepTick ch s) := by
  have linked : QueueWork s (forChans takeLink s) := .forChans takeLink_queues s
  unfold stepTick
  dsimp only
  generalize forChans takeLink s = u at linked ⊢
  exact linked.trans ((testCompletion_queues ch _).after rfl)

theorem runJob_queues (j : TickJob) (s : State) : QueueWork s (runJob j s) := by
  cases j with
  | silence sp => exact silenceTick_queues sp s
  | offTimer sp => exact offTick_queues sp s
  | slot sp => exact slotTick_queues sp s
  | monitor ch => exact monitorTick_queues ch s
  | interlock n => exact putLine_queues ..
  | check ch => exact checkTick_queues ch s
  | link ch => exact linkTick_queues ch s
  | step ch => unfold runJob; exact stepTick_queues ch s
  | settle => exact settleTick_queues s

theorem takeJob_queues (j : TickJob) (s : State) : QueueWork s (takeJob j s) :=
  .ite ((runJob_queues j (s.dropJob j)).after rfl) (.refl s)

theorem takeJobs_queues (js : List TickJob) (s : State) : QueueWork s (takeJobs js s) :=
  takeJobs_induct (P := QueueWork s) (fun j _ h => h.trans (takeJob_queues j _)) js (.refl s)

theorem giveTick_queues (levels : BitVec 8) (order : List TickJob) (s : State) : QueueWork s (giveTick levels order s) :=
  (takeJobs_queues s.owed s).trans ((takeJobs_queues order _).after rfl)

theorem takeWhere_queues (j : TickJob) (happens : State → State → Bool) (s : State) : QueueWork s (takeWhere j happens s) :=
  .ite (takeJob_queues j s) (.refl s)

/-! ### Steps -/

/-- A reset empties every queue (R184). -/
theorem resetPart_flow (s : State) : QueueFlow s (resetPart s) := ⟨fun _ => reset_queuesWithinRoom, fun _ => .inl rfl⟩

theorem assertReset_flow (w e l : Bool) (s : State) : QueueFlow s (assertReset w e l s) :=
  ⟨fun _ => reset_queuesWithinRoom, fun _ => .inl rfl⟩

theorem unlessReset_flow {f : State → State} (hf : ∀ u, QueueFlow u (f u)) (s : State) : QueueFlow s (s.unlessReset f) :=
  unlessReset_induct (P := QueueFlow s) ((QueueFlow.refl s.fresh).after rfl) fun h => h.trans (hf _)

theorem unlessReset_queues {f : State → State} (hf : ∀ u, QueueWork u (f u)) (s : State) : QueueFlow s (s.unlessReset f) :=
  unlessReset_flow (fun u => (hf u).toQueueFlow) s

theorem request_queues {kind : BitVec 5} {r : Req} {f : Req → State → Answer} (hf : ∀ u, QueueWork u (f r u).s) (s : State) :
    QueueFlow s (s.unlessReset fun s => sendReply kind r (f r s)) :=
  unlessReset_queues (fun u => sendReply_queues kind r (hf u)) s

/-- Every command that is taken keeps the queues within their rooms and lets notices move up. -/
theorem exec_flow {i : Instr} (he : exec i s = .next t) : QueueFlow s t := by
  cases i with
  | powerOnReset => exact holds_of_next he rfl (resetPart_flow s)
  | resetAssert w e l => exact holds_of_next he rfl (assertReset_flow w e l s)
  | resetRelease => exact holds_of_next he rfl (QueueWork.ite (.of_traffic rfl) (.of_traffic rfl) : QueueWork s (releaseReset s)).toQueueFlow
  | tick levels order => exact holds_of_next he rfl (unlessReset_queues (giveTick_queues levels order) s)
  | slotStart race eastFirst => exact holds_of_next he rfl (unlessReset_flow (startSlot_flow race eastFirst) s)
  | offExpired | portSilent | darkTimeout | confirmTimeout | probeExpiry | pulseEnd | minDarkEnd | rampComplete | monitorStale
  | driverLost | settleEnd | probeStart => exact holds_of_next he rfl (unlessReset_queues (takeWhere_queues _ _) s)
  | confirmCompletion sp => exact holds_of_next he rfl (unlessReset_queues (completionTest_queues sp) s)
  | frameReceived p race bytes => exact holds_of_next he rfl (unlessReset_flow (frameArrives_flow p race bytes) s)
  | sampleWord b0 b1 b2 => exact holds_of_next he rfl (unlessReset_queues (takeSample_queues _ _) s)
  | statusRecord b => exact holds_of_next he rfl (unlessReset_queues (takeStatus_queues _ _) s)
  | supplyGoodFall => exact holds_of_next he rfl ((unlessReset_queues supplyFall_queues (setSupplyPin false s)).after rfl)
  | supplyGoodRise => exact holds_of_next he rfl ((unlessReset_queues supplyRise_queues (setSupplyPin true s)).after rfl)
  | rise ch x =>
    exact holds_of_next he rfl (unlessReset_queues (fun u => (riseChannel_queues ch x u).trans (testCompletion_queues ch _)) s)
  | pulse ch level length => exact holds_of_next he rfl (unlessReset_queues (pulseChannel_queues ch level length) s)
  | douse ch => exact holds_of_next he rfl (unlessReset_queues (fun u => putPump_queues ch _ u) s)
  | snuff ch => exact holds_of_next he rfl (unlessReset_queues (snuffChannel_queues ch) s)
  | eventTaken src => exact holds_of_next he rfl (unlessReset_queues (takeOldest_queues src) s)
  | noticeDeparture => exact holds_of_next he rfl (unlessReset_queues departNotices_queues s)
  | read r => exact holds_of_next he rfl (request_queues (fun u => by rw [readReq_s]; exact .refl u) s)
  | writeSpan r => exact holds_of_next he rfl (request_queues (writeSpan_queues r) s)
  | writePump r => exact holds_of_next he rfl (request_queues (writePump_queues r) s)
  | setSetpoint r => exact holds_of_next he rfl (request_queues (setSetpoint_queues r) s)
  | clearPump r => exact holds_of_next he rfl (request_queues (clearPump_queues r) s)
  | writeMonitor r => exact holds_of_next he rfl (request_queues (writeMonitor_queues r) s)
  | writeEvent r => exact holds_of_next he rfl (request_queues (writeEvent_queues r) s)
  | writeInterlock r => exact holds_of_next he rfl (request_queues (writeInterlock_queues r) s)
  | clearInterlock r => exact holds_of_next he rfl (request_queues (clearInterlock_queues r) s)
  | spanHold r => exact holds_of_next he rfl (request_queues (spanHold_queues r) s)
  | spanResume r => exact holds_of_next he rfl (request_queues (spanResume_queues r) s)
  | spanRelease r => exact holds_of_next he rfl (request_queues (spanRelease_queues r) s)
  | setLoop r => exact holds_of_next he rfl (request_queues (setLoop_queues r) s)
  | writePart r => exact holds_of_next he rfl (unlessReset_queues (writePart_queues _ r) s)
  | start r => exact holds_of_next he rfl (request_queues (startReq_queues r) s)
  | halt r => exact holds_of_next he rfl (request_queues (haltReq_queues r) s)
  | writeGrants r => exact holds_of_next he rfl (request_queues (writeGrants_queues r) s)
  | clear r => exact holds_of_next he rfl (request_queues (clearReq_queues r) s)
  | unknownRequest kind r => exact holds_of_next he rfl (unlessReset_queues (takeRequest_queues kind r) s)
  | idleFillReceived p => exact holds_of_next he rfl (unlessReset_flow (idleArrives_flow p) s)

theorem step_flow (h : step s = .next t) : QueueFlow s t := by
  cases hp : s.pending with
  | nil => exact holds_of_next h (step_nil hp) (.refl s)
  | cons i rest =>
    rw [step_cons hp] at h
    exact (exec_flow h).after (s := s) rfl

/-- Settles O54: every step keeps the room of the queues, and departures leave no notice waiting where there is room. -/
theorem queuesBoundedAndNoticesMoveUp : Obligations.QueuesBoundedAndNoticesMoveUp := fun _ _ room moved h =>
  ⟨(step_flow h).room room, (step_flow h).moved moved⟩

end Sys2Proof.Machine
end

section
/-!
SUPPORT. Whole frames at a receiver: kept with whatever message they carry, failed by their check, or lost by their length (R106, R107), and a
word from a wrong sender (R109).
-/

namespace Sys2Proof.Machine

variable {s : State} {p : Port} {sp : Span} {race : Race} {w : SpanWord} {m : Option Msg}

/-! ### Bytes at a port that takes the line -/

theorem exec_frameReceived (hr : s.pins.resetLine = false) (p : Port) (race : Race) (bytes : List Byte) :
    exec (.frameReceived p race bytes) s = .next (frameArrives p race bytes s.fresh) := by
  rw [exec, execFrameReceived, unlessReset_free hr]

theorem exec_idleFillReceived (hr : s.pins.resetLine = false) (p : Port) :
    exec (.idleFillReceived p) s = .next (idleArrives p s.fresh) := by
  rw [exec, execIdleFillReceived, unlessReset_free hr]

/-- A port takes the line unless it is a line port in INNER (R122). -/
theorem deaf_of_line (h : ∀ sp : Span, sp.port = p → (s.line sp).loopNow ≠ .inner) : s.deaf p = false := by
  cases p with
  | west => exact decide_eq_false (h .ws rfl)
  | east => exact decide_eq_false (h .es rfl)
  | loc => rfl

theorem frameArrives_hears (h : s.deaf p = false) (bytes : List Byte) : frameArrives p race bytes s = takeBytes p race bytes s :=
  if_neg (by rw [h]; exact Bool.false_ne_true)

theorem setRx_setRx (r r' : Receiver) (s : State) : setRx p r (setRx p r' s) = setRx p r s := by
  simp only [setRx, State.setBase_base_self, State.setBase_setBase]

/-- A receiver between frames that takes bytes works them off as if it held them. -/
theorem frameArrives_begin (hd : s.deaf p = false) (hrx : (s.base p).rx = ⟨false, []⟩) (bytes : List Byte) :
    frameArrives p race bytes s = receive p race bytes.length (setRx p ⟨false, bytes⟩ s) := by
  rw [frameArrives_hears hd, takeBytes_begin bytes hrx]

theorem setRx_rx (rx : Receiver) (s : State) : ((setRx p rx s).base p).rx = rx := by rw [setRx, State.setBase_base_self]

/-- The receiver's bytes do not meet its counts. -/
theorem setRx_countKept (hrx : (s.base p).rx = ⟨false, []⟩) (rx : Receiver) :
    setRx p ⟨false, []⟩ (countKept p (setRx p rx s)) = countKept p s := by
  simp only [setRx, countKept, State.setBase_base_self, State.setBase_setBase, ← hrx]

theorem setRx_countDiscard (r r' : Receiver) (s : State) :
    setRx p r (countDiscard p (setRx p r' s)) = setRx p r (countDiscard p s) := by
  simp only [setRx, countDiscard, State.setBase_base_self, State.setBase_setBase]

theorem setRx_countDiscard_eq (rx : Receiver) (s : State) :
    setRx p rx (countDiscard p s) = s.setBase p { s.base p with rx := rx, discarded := min 65535 ((s.base p).discarded + 1) } := by
  simp only [setRx, countDiscard, State.setBase_base_self, State.setBase_setBase]
  rfl

theorem frameBytes_length_covered (w : SpanWord) (m : Option Msg) : (frameBytes w m).length = (coveredBytes w m).length + 2 := by
  rw [frameBytes_covered, List.length_append, beBytes_length]

theorem coveredBytes_length (w : SpanWord) (m : Option Msg) : 4 ≤ (coveredBytes w m).length := by
  rw [coveredBytes, List.length_append, beBytes_length]
  omega

/-! ### Kept, failed and lost frames -/

theorem receive_kept {w : SpanWord} {m : Option Msg} {rest : List Byte} (n : Nat)
    (h : parseFrame (s.base p).rx.bytes = .kept w m rest) :
    receive p race (n + 1) s = receive p race n (takeFrame p race w m (setRx p ⟨false, rest⟩ (countKept p s))) := by
  rw [receive, h]

theorem receive_failed {rest : List Byte} (n : Nat) (h : parseFrame (s.base p).rx.bytes = .failed rest) :
    receive p race (n + 1) s = receive p race n (setRx p ⟨false, rest⟩ (countDiscard p s)) := by
  rw [receive, h]

theorem receive_lost (n : Nat) (h : parseFrame (s.base p).rx.bytes = .lost) :
    receive p race (n + 1) s = setRx p ⟨true, []⟩ (countDiscard p s) := by
  rw [receive, h]

/-- A whole frame is counted and taken, whatever message it carries (R106, R107). -/
theorem takeBytes_whole (hrx : (s.base p).rx = ⟨false, []⟩) (hm : ∀ x ∈ m, x.body.length ≤ 51) :
    takeBytes p race (frameBytes w m) s = takeFrame p race w m (countKept p s) := by
  have whole : parseFrame (frameBytes w m) = .kept w m [] := by
    have read := frameReadsAsBuilt w m [] hm
    rwa [List.append_nil] at read
  have empty : ((takeFrame p race w m (countKept p s)).base p).rx.bytes = [] := by
    rw [(takeFrame_queues ..).rx, countKept, State.setBase_base_self, hrx]
  rw [takeBytes_begin _ hrx, frameBytes_length_covered, receive_kept _ (by rw [setRx_rx]; exact whole), setRx_countKept hrx,
    receive_empty _ empty]

theorem frameArrives_whole (hd : s.deaf p = false) (hrx : (s.base p).rx = ⟨false, []⟩) (hm : ∀ x ∈ m, x.body.length ≤ 51) :
    frameArrives p race (frameBytes w m) s = takeFrame p race w m (countKept p s) := by
  rw [frameArrives_hears hd, takeBytes_whole hrx hm]

/-- A frame whose check fails is counted as discarded, and the receiver is ready for the next (R106). -/
theorem frameArrives_failed {bytes : List Byte} (hd : s.deaf p = false) (hrx : (s.base p).rx = ⟨false, []⟩)
    (hf : parseFrame bytes = .failed []) (hl : 2 ≤ bytes.length) :
    frameArrives p race bytes s = s.setBase p { s.base p with discarded := min 65535 ((s.base p).discarded + 1) } := by
  obtain ⟨n, hn⟩ := Nat.exists_eq_add_of_le' hl
  rw [frameArrives_begin hd hrx, hn, receive_failed _ (by rw [setRx_rx]; exact hf), receive_empty n (by rw [setRx_rx]),
    setRx_countDiscard, setRx_countDiscard_eq, ← hrx]

/-- A bad length discards the frame with all that follows, and the receiver waits for idle fill (R106). -/
theorem frameArrives_lost {held bytes : List Byte} (hd : s.deaf p = false) (hrx : (s.base p).rx = ⟨false, held⟩)
    (hp : parseFrame (held ++ bytes) = .lost) (hl : 1 ≤ (held ++ bytes).length) :
    frameArrives p race bytes s
      = s.setBase p { s.base p with rx := ⟨true, []⟩, discarded := min 65535 ((s.base p).discarded + 1) } := by
  obtain ⟨n, hn⟩ := Nat.exists_eq_add_of_le' hl
  have taken : takeBytes p race bytes s = receive p race (held ++ bytes).length (setRx p ⟨false, held ++ bytes⟩ s) := by
    simp only [takeBytes, hrx, Bool.false_eq_true, if_false]
  rw [frameArrives_hears hd, taken, hn, receive_lost _ (by rw [setRx_rx]; exact hp), setRx_countDiscard, setRx_countDiscard_eq]

theorem frameArrives_waiting (hw : (s.base p).rx.waiting = true) (bytes : List Byte) : frameArrives p race bytes s = s := by
  have dropped : takeBytes p race bytes s = s := if_pos hw
  rw [frameArrives, dropped, ite_self]

/-! ### The check and the length of a frame -/

/-- Two bytes are told by the number they hold. -/
theorem beBytes_beNat_pair (a b : Byte) : beBytes 2 (beNat [a, b]) = [a, b] := by
  have high := a.isLt
  have low := b.isLt
  have value : beNat [a, b] = a.toNat * 256 + b.toNat := by simp [beNat]
  have first : BitVec.ofNat 8 ((a.toNat * 256 + b.toNat) / 256) = a :=
    BitVec.eq_of_toNat_eq (by rw [BitVec.toNat_ofNat]; omega)
  have second : BitVec.ofNat 8 (a.toNat * 256 + b.toNat) = b :=
    BitVec.eq_of_toNat_eq (by rw [BitVec.toNat_ofNat]; omega)
  simp only [beBytes, List.nil_append, value, first, second, List.cons_append]

/-- Any two other bytes in the place of the check fail it (R106, R192). -/
theorem parseFrame_otherCheck {a b : Byte} (hm : ∀ x ∈ m, x.body.length ≤ 51)
    (h : beBytes 2 (frameCheck (coveredBytes w m)).toNat ≠ [a, b]) : parseFrame (coveredBytes w m ++ [a, b]) = .failed [] := by
  have read := parseFrame_covered (w := w) (check := [a, b]) [] hm rfl
  rw [List.append_nil] at read
  rw [read, if_neg fun e => h (by rw [← e, beBytes_beNat_pair])]

/-- The message length stands in the last byte of the head (R192). -/
theorem parseFrame_badLength {b0 b1 b2 b3 : Byte} {more : List Byte} (h : badLength (b3.toNat % 64) = true) :
    parseFrame (b0 :: b1 :: b2 :: b3 :: more) = .lost := by
  have length : readLength (beNat [b0, b1, b2, b3]) = b3.toNat % 64 := by
    simp only [readLength, beNat, List.foldl_cons, List.foldl_nil]
    omega
  have four : (b0 :: b1 :: b2 :: b3 :: more).take 4 = [b0, b1, b2, b3] := rfl
  rw [parseFrame, if_neg (by simp only [List.length_cons]; omega)]
  dsimp only
  rw [four, length, if_pos h]

theorem badLength_iff (len : Nat) : badLength len = true ↔ (1 ≤ len ∧ len ≤ 4) ∨ 56 < len := by
  simp [badLength]

/-! ### Idle fill -/

/-- Idle fill ends a frame in progress, which is counted, and the wait for it (R106). -/
theorem idleArrives_eq (hd : s.deaf p = false) :
    idleArrives p s =
      if (s.base p).rx.bytes = [] then s.setBase p { s.base p with rx := ⟨false, []⟩ }
      else s.setBase p { s.base p with rx := ⟨false, []⟩, discarded := min 65535 ((s.base p).discarded + 1) } := by
  rw [idleArrives, if_neg (by rw [hd]; exact Bool.false_ne_true)]
  split
  · rfl
  · exact setRx_countDiscard_eq ..

/-! ### Words from a wrong sender -/

theorem takeWord_strange (h : w.sender ≠ s.expectedSender sp) : takeWord sp w s = strangeWord sp s := if_neg h

/-- NEIGHBOUR_MISMATCH is raised where it is not reported yet, and is reported then (R109). -/
theorem strangeWord_eq (sp : Span) (s : State) :
    strangeWord sp s =
      { s.setLine sp { s.line sp with mismatch := true } with
        raised := s.raised ++
          (if (s.line sp).mismatch then []
           else [⟨.linePort sp, .neighbourMismatch, .one sp, .port sp.port, s.time.tickCount, false⟩]) } := by
  cases h : (s.line sp).mismatch
  · simp only [strangeWord, h, Bool.false_eq_true, if_false]; rfl
  · have held : ({ s.line sp with mismatch := true } : LinePort) = s.line sp := by rw [← h]
    simp only [strangeWord, h, if_true, List.append_nil, held, State.setLine_self]

/-- A kept frame on a line port is counted in its port's record (R107). -/
theorem countKept_line (sp : Span) (s : State) :
    countKept sp.port s
      = s.setLine sp { s.line sp with base := { (s.line sp).base with accepted := min 65535 ((s.line sp).base.accepted + 1) } } := by
  rw [countKept, portSetBase, portBase]; rfl

/-- A kept frame does not change the sender that is expected (R108). -/
theorem countKept_expectedSender (sp : Span) (s : State) :
    (countKept sp.port s).expectedSender sp
      = if (s.line sp).loopNow = .normal then (s.config sp).neighbour else s.part.site := by
  rw [countKept_line]
  simp only [State.expectedSender, State.setLine_line_self, State.setLine_config, State.setLine_part]

/-- Settles O15. -/
theorem wrongAndDamagedFrames : Obligations.WrongAndDamagedFrames := by
  refine ⟨fun race s sp w hr hin hrx hw => ?_, fun race s p hr hin => ?_⟩
  · have hears : s.fresh.deaf sp.port = false := by rw [portDeaf]; exact decide_eq_false hin
    have rx : (s.fresh.base sp.port).rx = ⟨false, []⟩ := by rw [portBase]; exact hrx
    rw [exec_frameReceived hr, frameArrives_whole hears rx (m := none) (by simp), takeFrame_none, takeWord_strange, strangeWord_eq, countKept_line,
      State.setLine_line_self, State.setLine_setLine]
    · rfl
    · rw [countKept_expectedSender]; exact hw
  · have hears : s.fresh.deaf p = false := deaf_of_line hin
    have same : s.fresh.base p = s.base p := by cases p <;> rfl
    intro b discarded
    refine ⟨fun w m c1 c0 hrx hm => ?_, fun held bytes more b0 b1 b2 b3 hrx hb => ?_, fun bytes hw => ?_, fun hb => ?_, fun hb => ?_⟩
    · intro frame n hc
      have place : n = (coveredBytes w m).length := by simp only [n, frame, frameBytes_length_covered, Nat.add_sub_cancel]
      have front : frame.take n = coveredBytes w m := by rw [place]; simp only [frame]; rw [frameBytes_covered, List.take_left]
      have back : frame.drop n = beBytes 2 (frameCheck (coveredBytes w m)).toNat := by
        rw [place]; simp only [frame]; rw [frameBytes_covered, List.drop_left]
      rw [back] at hc
      rw [exec_frameReceived hr, front, frameArrives_failed hears (by rw [same]; exact hrx) (parseFrame_otherCheck hm hc)
        (by rw [List.length_append]; exact Nat.le_add_left ..), same]
    · intro len hl
      have bad : parseFrame (held ++ bytes) = .lost := by rw [hb]; exact parseFrame_badLength ((badLength_iff _).mpr hl)
      rw [exec_frameReceived hr, frameArrives_lost hears (by rw [same]; exact hrx) bad (by rw [hb]; exact Nat.le_add_left ..), same]
    · rw [exec_frameReceived hr, frameArrives_waiting (by rw [same]; exact hw)]
    · rw [exec_idleFillReceived hr, idleArrives_eq hears, same, if_neg hb]
    · rw [exec_idleFillReceived hr, idleArrives_eq hears, same, if_pos hb]

end Sys2Proof.Machine
end

section
/-! SUPPORT. Routing of messages on the line ports and the Local port (R113 to R116, R119, R166). -/

namespace Sys2Proof.Machine

variable {s u : State} {sp : Span} {race : Race} {w : SpanWord} {m : Msg}

/-! ### Requests of kept frames are the commands of their kinds -/

/-- The request kinds with the command of each, the known ones and the others (R172, R193). -/
def requestCommands : List (BitVec 5 × (Req → Instr)) :=
  [(1, .read), (2, .writeSpan), (3, .writePump), (4, .setSetpoint), (5, .clearPump), (6, .writeMonitor), (7, .writeEvent),
   (8, .writeInterlock), (9, .clearInterlock), (10, .spanHold), (11, .spanResume), (12, .spanRelease), (13, .setLoop),
   (14, .writePart), (15, .start), (16, .halt), (17, .writeGrants), (18, .clear)]
    ++ ([0, 19, 20, 21, 22, 23, 24, 25, 26, 27, 28, 29] : List (BitVec 5)).map fun k => (k, .unknownRequest k)

theorem isRequestKind_of_command {c : BitVec 5 × (Req → Instr)} (h : c ∈ requestCommands) : Config.isRequestKind c.1 = true := by
  have kinds : ∀ k ∈ requestCommands.map Prod.fst, Config.isRequestKind k = true := by decide
  exact kinds _ (List.mem_map_of_mem h)

/-- A command of a request, outside RESET and where nothing is put out yet, is the Request Handler's taking of it (R166). -/
theorem exec_command (hr : u.pins.resetLine = false) (ho : u.fresh = u) {c : BitVec 5 × (Req → Instr)} (h : c ∈ requestCommands) (r : Req) :
    exec (c.2 r) u = .next (takeRequest c.1 r u) := by
  have free (f : State → State) : u.unlessReset f = f u := by rw [unlessReset_free hr, ho]
  simp only [requestCommands, List.mem_append, List.mem_map] at h
  obtain h | ⟨k, -, rfl⟩ := h
  · fin_cases h <;> exact congrArg _ (free _)
  · exact congrArg _ (free _)

/-! ### Queues by their room -/

/-- A message enters a queue that has room, and is discarded at a full one (R118, R119). -/
theorem enqueue_eq (q : List Msg) (m : Msg) : enqueue q m = if 8 ≤ q.length then q else q ++ [m] := by
  obtain ⟨short, e⟩ | ⟨full, e⟩ := enqueue_cases q m
  · rw [e, if_neg (by omega)]
  · rw [e, if_pos full]

/-- A message that goes on loses one of its hops, and one without hops left is discarded (R115, R119). -/
theorem forwardMsg_eq (sp : Span) (m : Msg) (s : State) :
    forwardMsg sp m s = s.setLine sp.other
      { s.line sp.other with
        forward :=
          if m.hop = 0 ∨ 8 ≤ (s.line sp.other).forward.length then (s.line sp.other).forward
          else (s.line sp.other).forward ++ [{ m with hop := m.hop - 1 }] } := by
  unfold forwardMsg
  by_cases hop : m.hop = 0
  · rw [if_pos hop, if_pos (.inl hop), State.setLine_self]
  · rw [if_neg hop, toForwardQueue_eq, enqueue_eq]
    simp only [hop, false_or]

theorem toLocalPort_eq (m : Msg) (s : State) :
    s.toLocalQueue .loc m =
      { s with localPort := { s.localPort with
          queue := if 8 ≤ s.localPort.queue.length then s.localPort.queue else s.localPort.queue ++ [m] } } := by
  rw [← enqueue_eq]; rfl

theorem toLinePort_eq (sp : Span) (m : Msg) (s : State) :
    s.toLocalQueue sp.port m = s.setLine sp
      { s.line sp with
        base := { (s.line sp).base with
          queue := if 8 ≤ (s.line sp).base.queue.length then (s.line sp).base.queue else (s.line sp).base.queue ++ [m] } } := by
  rw [toLocalQueue_eq, portSetBase, portBase, enqueue_eq]

/-- The queues of two ports do not meet. -/
theorem forwardMsg_toLocalPort (sp : Span) (m m' : Msg) (s : State) :
    forwardMsg sp m (s.toLocalQueue .loc m') = (forwardMsg sp m s).toLocalQueue .loc m' := by
  unfold forwardMsg
  split <;> rfl

/-! ### Routing by the destination -/

theorem routeLine_zero (h : m.dest = 0) : routeLine sp race m s = s := if_pos h

theorem routeLine_own (h0 : m.dest ≠ 0) (h : m.dest = s.part.site) : routeLine sp race m s = handOn sp race m s := by
  rw [routeLine, if_neg h0, if_pos h]

theorem routeLine_all (h : m.dest = 1023) (hs : s.part.site ≠ 1023) :
    routeLine sp race m s = inOrder race.fwdFirst (handOn sp race m) (forwardMsg sp m) s := by
  rw [routeLine, if_neg (by rw [h]; decide), if_neg (by rw [h]; exact hs.symm), if_pos (show m.dest = allSites from h)]

theorem routeLine_other (h0 : m.dest ≠ 0) (hs : m.dest ≠ s.part.site) (ha : m.dest ≠ 1023) :
    routeLine sp race m s = forwardMsg sp m s := by
  rw [routeLine, if_neg h0, if_neg hs, if_neg (show m.dest ≠ allSites from ha)]

theorem handOn_request (h : Config.isRequestKind m.kind = true) :
    handOn sp race m s = takeRequest m.kind ⟨sp.port, m.src, m.cls, m.tag, m.body, race.replyFirst⟩ s := if_pos h

theorem not_isRequestKind (h : m.kind = 30 ∨ m.kind = 31) : Config.isRequestKind m.kind = false := by
  obtain h | h := h <;> rw [h] <;> rfl

theorem handOn_answer (h : m.kind = 30 ∨ m.kind = 31) : handOn sp race m s = s.toLocalQueue .loc m :=
  if_neg (by rw [not_isRequestKind h]; exact Bool.false_ne_true)

/-- What the Local port makes of a message for this site: a request is taken, a REPLY or NOTICE is discarded (R116). -/
def handleLocal (race : Race) (m : Msg) : State → State :=
  if Config.isRequestKind m.kind then takeRequest m.kind (m.request .loc race) else id

theorem handleLocal_request (h : Config.isRequestKind m.kind = true) :
    handleLocal race m s = takeRequest m.kind ⟨.loc, m.src, m.cls, m.tag, m.body, race.replyFirst⟩ s := by
  rw [handleLocal, if_pos h]; rfl

theorem handleLocal_answer (h : m.kind = 30 ∨ m.kind = 31) : handleLocal race m s = s := by
  rw [handleLocal, if_neg (by rw [not_isRequestKind h]; exact Bool.false_ne_true)]; rfl

theorem routeLocal_own (h : m.dest = 0 ∨ m.dest = s.part.site) : routeLocal race m s = handleLocal race m s := if_pos h

theorem routeLocal_all (h : m.dest = 1023) (hs : s.part.site ≠ 1023) :
    routeLocal race m s = inOrder race.fwdFirst (handleLocal race m) (fun s => s.toLocalQueue (dirPort m.dir) m) s := by
  rw [routeLocal]
  dsimp only
  rw [if_neg (by rw [h, not_or]; exact ⟨by decide, hs.symm⟩), if_pos (show m.dest = allSites from h)]
  rfl

theorem routeLocal_other (h0 : m.dest ≠ 0) (hs : m.dest ≠ s.part.site) (ha : m.dest ≠ 1023) :
    routeLocal race m s = s.toLocalQueue (dirPort m.dir) m := by
  rw [routeLocal]
  dsimp only
  rw [if_neg (not_or.mpr ⟨h0, hs⟩), if_neg (show m.dest ≠ allSites from ha)]

/-- The line port a direction names is the one that faces its span (R116). -/
theorem dirPort_eq (d : Dir) : dirPort d = (if d = .wb then Span.ws else Span.es).port := by cases d <;> rfl

/-! ### The word of a frame whose sender is reported -/

/-- A wrong sender whose mismatch is reported already: its words change nothing (R109). -/
def State.Reported (s : State) (sp : Span) (w : SpanWord) : Prop := (s.line sp).mismatch = true ∧ w.sender ≠ s.expectedSender sp

theorem takeWord_reported (h : s.Reported sp w) : takeWord sp w s = s := by
  obtain ⟨mismatch, sender⟩ := h
  rw [takeWord_strange sender]
  exact if_pos mismatch

theorem State.Reported.toLocalPort (h : s.Reported sp w) (m : Msg) : (s.toLocalQueue .loc m).Reported sp w := h

theorem State.Reported.forwardMsg (h : s.Reported sp w) (m : Msg) : (Machine.forwardMsg sp m s).Reported sp w := by
  simp only [forwardMsg_eq, State.Reported, State.expectedSender, State.setLine_line, if_neg (Span.ne_other sp), State.setLine_config,
    State.setLine_part]
  exact h

theorem takeFrame_line (sp : Span) (race : Race) (w : SpanWord) (m : Msg) (s : State) :
    takeFrame sp.port race w (some m) s = inOrder race.msgFirst (takeWord sp w) (routeLine sp race m) s := by
  cases sp <;> rfl

/-- The message of such a frame is routed, and the word has no part in it, in either order. -/
theorem takeFrame_reported (hs : s.Reported sp w) (hm : (routeLine sp race m s).Reported sp w) :
    takeFrame sp.port race w (some m) s = routeLine sp race m s := by
  rw [takeFrame_line]
  obtain e | e := inOrder_cases race.msgFirst (takeWord sp w) (routeLine sp race m) s <;> rw [e]
  · rw [takeWord_reported hs]
  · rw [takeWord_reported hm]

/-- Where the word is tested first it has no part in what a request makes of the state. -/
theorem takeFrame_wordFirst (hs : s.Reported sp w) (hf : race.msgFirst = false) :
    takeFrame sp.port race w (some m) s = routeLine sp race m s := by
  rw [takeFrame_line, hf]
  show routeLine sp race m (takeWord sp w s) = _
  rw [takeWord_reported hs]

/-! ### Messages for all sites -/

/-- A REPLY or NOTICE for all sites goes to both queues, in either order (R114). -/
theorem routeLine_all_answer (hk : m.kind = 30 ∨ m.kind = 31) (h : m.dest = 1023) (hs : s.part.site ≠ 1023) :
    routeLine sp race m s = (forwardMsg sp m s).toLocalQueue .loc m := by
  rw [routeLine_all h hs]
  obtain e | e := inOrder_cases race.fwdFirst (handOn sp race m) (forwardMsg sp m) s <;> rw [e, handOn_answer hk]
  exact forwardMsg_toLocalPort ..

theorem routeLine_all_request (hk : Config.isRequestKind m.kind = true) (h : m.dest = 1023) (hs : s.part.site ≠ 1023)
    (hf : race.fwdFirst = true) :
    routeLine sp race m s
      = takeRequest m.kind ⟨sp.port, m.src, m.cls, m.tag, m.body, race.replyFirst⟩ (forwardMsg sp m s) := by
  rw [routeLine_all h hs, hf, ← handOn_request hk]; rfl

theorem routeLocal_all_answer (hk : m.kind = 30 ∨ m.kind = 31) (h : m.dest = 1023) (hs : s.part.site ≠ 1023) :
    routeLocal race m s = s.toLocalQueue (dirPort m.dir) m := by
  rw [routeLocal_all h hs]
  obtain e | e := inOrder_cases race.fwdFirst (handleLocal race m) (fun s => s.toLocalQueue (dirPort m.dir) m) s <;>
    rw [e, handleLocal_answer hk]

theorem routeLocal_all_request (hk : Config.isRequestKind m.kind = true) (h : m.dest = 1023) (hs : s.part.site ≠ 1023)
    (hf : race.fwdFirst = true) :
    routeLocal race m s
      = takeRequest m.kind ⟨.loc, m.src, m.cls, m.tag, m.body, race.replyFirst⟩ (s.toLocalQueue (dirPort m.dir) m) := by
  rw [routeLocal_all h hs, hf, ← handleLocal_request hk]; rfl

/-! ### Kept frames of a reported sender -/

theorem takeFrame_zero (hs : s.Reported sp w) (h : m.dest = 0) : takeFrame sp.port race w (some m) s = s := by
  have route : routeLine sp race m s = s := routeLine_zero h
  rw [takeFrame_reported hs (by rw [route]; exact hs), route]

theorem takeFrame_other (hs : s.Reported sp w) (h0 : m.dest ≠ 0) (h : m.dest ≠ s.part.site) (ha : m.dest ≠ 1023) :
    takeFrame sp.port race w (some m) s = forwardMsg sp m s := by
  have route : routeLine sp race m s = forwardMsg sp m s := routeLine_other h0 h ha
  rw [takeFrame_reported hs (by rw [route]; exact hs.forwardMsg m), route]

theorem takeFrame_own (hs : s.Reported sp w) (hk : m.kind = 30 ∨ m.kind = 31) (h0 : m.dest ≠ 0) (h : m.dest = s.part.site) :
    takeFrame sp.port race w (some m) s = s.toLocalQueue .loc m := by
  have route : routeLine sp race m s = s.toLocalQueue .loc m := (routeLine_own h0 h).trans (handOn_answer hk)
  rw [takeFrame_reported hs (by rw [route]; exact hs.toLocalPort m), route]

theorem takeFrame_all (hs : s.Reported sp w) (hk : m.kind = 30 ∨ m.kind = 31) (ha : m.dest = 1023) (h : s.part.site ≠ 1023) :
    takeFrame sp.port race w (some m) s = (forwardMsg sp m s).toLocalQueue .loc m := by
  have route : routeLine sp race m s = (forwardMsg sp m s).toLocalQueue .loc m := routeLine_all_answer hk ha h
  rw [takeFrame_reported hs (by rw [route]; exact (hs.forwardMsg m).toLocalPort m), route]

theorem some_fits (h : m.body.length ≤ 51) : ∀ x ∈ some m, x.body.length ≤ 51 := by
  rintro x ⟨⟩
  exact h

/-- Settles O16: the frame is counted, and its message is routed from there. -/
theorem messageForOtherSiteForwarded : Obligations.MessageForOtherSiteForwarded := by
  refine ⟨fun race s sp w m hr hin hrx hw hmm hm => ?_, fun race s w m hr hrx hm => ?_⟩
  · intro kept forwarded delivered out
    have counted : countKept sp.port s.fresh = kept := countKept_line sp s.fresh
    have reported : kept.Reported sp w := by
      refine ⟨?_, ?_⟩
      · simp only [kept, State.setLine_line_self]; exact hmm
      · rw [← counted, countKept_expectedSender]; exact hw
    have taken : out = .next (takeFrame sp.port race w (some m) kept) := by
      have hears : s.fresh.deaf sp.port = false := by rw [portDeaf]; exact decide_eq_false hin
      have rx : (s.fresh.base sp.port).rx = ⟨false, []⟩ := by rw [portBase]; exact hrx
      simp only [out]
      rw [exec_frameReceived hr, frameArrives_whole hears rx (some_fits hm), counted]
    have site : kept.part.site = s.part.site := by simp only [kept, State.setLine_part]; rfl
    have sent : forwardMsg sp m kept = forwarded := by
      rw [forwardMsg_eq]
      simp only [kept, State.setLine_line_other]
      rfl
    have delivers (x : State) (h : x.localPort = s.localPort) : x.toLocalQueue .loc m = delivered x := by
      rw [toLocalPort_eq, h]
    have keptPort : kept.localPort = s.localPort := by simp only [kept, State.setLine_localPort]; rfl
    have forwardedPort : forwarded.localPort = s.localPort := by simp only [forwarded, State.setLine_localPort]; exact keptPort
    have command := fun c (hc : c ∈ requestCommands) x (hx : x.pins = s.pins) (ho : x.fresh = x) r =>
      exec_command (u := x) (by rw [hx]; exact hr) ho hc r
    have keptPins : kept.pins = s.pins := by simp only [kept, State.setLine_pins]; rfl
    have forwardedPins : forwarded.pins = s.pins := by simp only [forwarded, State.setLine_pins]; exact keptPins
    have keptFresh : kept.fresh = kept := by cases sp <;> rfl
    have forwardedFresh : forwarded.fresh = forwarded := by cases sp <;> rfl
    clear_value kept forwarded delivered out
    refine ⟨fun h0 hs ha => ?_, fun h0 => ?_, fun hk => ⟨fun h0 hs => ?_, fun ha hs => ?_⟩,
      fun c hc hk hf => ⟨fun h0 hs => ?_, fun ha hs hfwd => ?_⟩⟩
    · rw [taken, takeFrame_other reported h0 (site ▸ hs) ha, sent]
    · rw [taken, takeFrame_zero reported h0]
    · rw [taken, takeFrame_own reported hk h0 (site ▸ hs), delivers _ keptPort]
    · rw [taken, takeFrame_all reported hk ha (site ▸ hs), sent, delivers _ forwardedPort]
    · rw [taken, takeFrame_wordFirst reported hf, command c hc _ keptPins keptFresh, routeLine_own h0 (site ▸ hs),
        handOn_request (by rw [hk]; exact isRequestKind_of_command hc), hk]
    · rw [taken, takeFrame_wordFirst reported hf, command c hc _ forwardedPins forwardedFresh,
        routeLine_all_request (by rw [hk]; exact isRequestKind_of_command hc) ha (site ▸ hs) hfwd, sent, hk]
  · intro kept side base out placed
    have counted : countKept .loc s.fresh = kept := rfl
    have taken : out = .next (routeLocal race m kept) := by
      simp only [out]
      rw [exec_frameReceived hr, frameArrives_whole (s := s.fresh) (p := .loc) rfl hrx (some_fits hm), counted]
      rfl
    have sent : kept.toLocalQueue (dirPort m.dir) m = placed := by
      rw [dirPort_eq, toLinePort_eq]; rfl
    have site : kept.part.site = s.part.site := rfl
    obtain ⟨placedPins, placedFresh⟩ : placed.pins = s.pins ∧ placed.fresh = placed := by
      cases hd : m.dir <;> simp only [placed, side, hd] <;> exact ⟨rfl, rfl⟩
    have command := fun c (hc : c ∈ requestCommands) x (hx : x.pins = s.pins) (ho : x.fresh = x) r =>
      exec_command (u := x) (by rw [hx]; exact hr) ho hc r
    have keptPins : kept.pins = s.pins := rfl
    have keptFresh : kept.fresh = kept := rfl
    clear_value kept placed out
    refine ⟨fun h0 hs ha => ?_, fun hk => ⟨fun hs => ?_, fun ha hs => ?_⟩, fun c hc hk => ⟨fun hs => ?_, fun ha hs hfwd => ?_⟩⟩
    · rw [taken, routeLocal_other h0 (site ▸ hs) ha, sent]
    · rw [taken, routeLocal_own (site ▸ hs), handleLocal_answer hk]
    · rw [taken, routeLocal_all_answer hk ha (site ▸ hs), sent]
    · rw [taken, routeLocal_own (site ▸ hs), handleLocal_request (by rw [hk]; exact isRequestKind_of_command hc),
        command c hc _ keptPins keptFresh, hk]
    · rw [taken, routeLocal_all_request (by rw [hk]; exact isRequestKind_of_command hc) ha (site ▸ hs) hfwd, sent,
        command c hc _ placedPins placedFresh, hk]

end Sys2Proof.Machine
end

section
/-! SUPPORT. A slot start with one port in INNER, which takes its own frame (R122). -/

namespace Sys2Proof.Machine

variable {s t u : State} {sp : Span} {race : Race} {w : SpanWord}

/-! ### A loop mode takes effect -/

theorem latchLoop_live (l : LinePort) : l.latchLoop.live = l.live := by unfold LinePort.latchLoop; split <;> rfl

theorem slotBegun_latched (s : State) (sp : Span) : s.slotBegun.line sp = (s.line sp).latchLoop := by cases sp <;> rfl

/-- The loop modes that take effect are no part of the words (R104). -/
theorem slotBegun_word (s : State) (sp : Span) : s.slotBegun.spanWord sp = s.spanWord sp := by
  rw [spanWord_echo, spanWord_echo, slotBegun_latched, latchLoop_live]; rfl

/-- A port that stays on the line builds the same frame. -/
theorem slotBegun_frame (h : (s.line sp).loop ≠ .inner) (h' : (s.line sp).loopNow ≠ .inner) :
    s.slotBegun.lineFrame sp = s.lineFrame sp := by
  rw [State.lineFrame, slotBegun_word, slotBegun_latched, latchLoop_line h h', arbitrate_loopNow, State.lineFrame]

/-- A port that enters INNER, or is in it with no frame in progress, begins with no frame in progress and its counts as they were (log 11). -/
theorem latchLoop_inner {l : LinePort} (h : l.loop = .inner) (hrx : l.loopNow = .inner → l.base.rx = ⟨false, []⟩) :
    l.latchLoop = { l with loopNow := .inner, base := { l.base with rx := ⟨false, []⟩ } } := by
  unfold LinePort.latchLoop
  rw [h]
  by_cases now : l.loopNow = .inner
  · rw [if_pos (by simp [now]), ← hrx now]
  · rw [if_neg (by simp [now])]

/-! ### The frames of the slot -/

theorem arbitrate_empty {l : LinePort} (hf : l.forward = []) (hq : l.base.queue = []) : l.arbitrate = (none, l) := by
  unfold LinePort.arbitrate
  rw [hf, hq]

/-- A port in INNER puts nothing on the line (R122). -/
theorem sendLine_inner (h : (s.line sp).loopNow = .inner) (hf : (s.line sp).forward = []) (hq : (s.line sp).base.queue = []) :
    sendLine sp s = s.setLine sp { s.line sp with base := { (s.line sp).base with sending := none } } := by
  unfold sendLine
  dsimp only
  rw [arbitrate_empty hf hq, if_pos h]

/-- The start of a frame leaves the loop modes in effect as they are. -/
theorem sendLine_loopNow (sp sp' : Span) (s : State) : ((sendLine sp s).line sp').loopNow = (s.line sp').loopNow := by
  have set (l : LinePort) (h : l.loopNow = (s.line sp).loopNow) : ((s.setLine sp l).line sp').loopNow = (s.line sp').loopNow := by
    rw [State.setLine_line]
    split
    · next e => rw [h, e]
    · rfl
  unfold sendLine
  dsimp only
  split
  · exact set _ (arbitrate_keeps_loopNow _)
  · exact set _ (arbitrate_keeps_loopNow _)

theorem sendFrames_loopNow (sp : Span) (s : State) :
    ((sendLocal (sendLine .es (sendLine .ws s))).line sp).loopNow = (s.line sp).loopNow := by
  show ((sendLine .es (sendLine .ws s)).line sp).loopNow = _
  rw [sendLine_loopNow, sendLine_loopNow]

/-- Where one port is in INNER, the frames on the line are those of the other port and the Local port. -/
theorem sendFrames_inner (h : (s.line sp).loopNow = .inner) (hf : (s.line sp).forward = []) (hq : (s.line sp).base.queue = [])
    (ho : (s.line sp.other).loopNow ≠ .inner) :
    let o := (s.line sp.other).arbitrate.2
    sendLocal (sendLine .es (sendLine .ws s))
      = { s with
          lines := (s.lines.set sp.other { o with base := { o.base with sending := some (s.lineFrame sp.other) } }).set sp
            { s.line sp with base := { (s.line sp).base with sending := none } }
          localPort := { s.localPort with queue := s.localPort.queue.tail, sending := some s.localFrame }
          out := s.out ++ [.frame sp.other.port (s.lineFrame sp.other), .frame .loc s.localFrame] } := by
  intro o
  cases sp with
  | ws =>
    rw [sendLine_inner h hf hq, sendLine_out (sp := .es) (by exact ho), sendLocal]
    simp only [State.emit, List.append_assoc, List.cons_append, List.nil_append]
    rfl
  | es =>
    rw [sendLine_out (sp := .ws) ho, sendLine_inner (sp := .es) (by exact h) (by exact hf) (by exact hq), sendLocal]
    simp only [State.emit, State.setLine_out, List.append_assoc, List.cons_append, List.nil_append]
    rfl

/-! ### A port hears its own frame -/

/-- A valid frame without a message, for a span whose state makes no test at it, is heard (R23, R108). -/
theorem takeBytes_heard (hrx : (s.line sp).base.rx = ⟨false, []⟩) (hw : w.sender = s.expectedSender sp)
    (hs : (s.st sp).state = .maint ∨ (s.st sp).state = .locked ∨ (s.st sp).state = .unused) :
    takeBytes sp.port race (frameBytes w none) s = s.heard sp w := by
  have noTest : frameTests sp w (s.heard sp w) = s.heard sp w := by
    unfold frameTests
    rw [heard_st]
    obtain hs | hs | hs := hs <;> simp only [hs]
  have sender : w.sender = (s.setLine sp
      { s.line sp with base := { (s.line sp).base with accepted := min 65535 ((s.line sp).base.accepted + 1) } }).expectedSender sp := by
    rw [hw]
    simp only [State.expectedSender, State.setLine_line_self, State.setLine_config, State.setLine_part]
  rw [takeBytes_whole (by rw [portBase]; exact hrx) (by simp), takeFrame_none, countKept_line, takeWord_valid sender,
    validWord_counted rfl, noTest]

/-- The looped frames of a slot start where one port is in INNER. -/
theorem loopBack_one {bytes : Span → List Byte} (eastFirst : Bool) (hu : (u.line sp.other).loopNow ≠ .inner)
    (h : loopBack sp race (bytes sp) u = t) (ht : (t.line sp.other).loopNow ≠ .inner) :
    inOrder eastFirst (loopBack .ws race (bytes .ws)) (loopBack .es race (bytes .es)) u = t := by
  have skipAfter : loopBack sp.other race (bytes sp.other) t = t := loopBack_line ht _
  have skipBefore : loopBack sp.other race (bytes sp.other) u = u := loopBack_line hu _
  have both : loopBack sp.other race (bytes sp.other) (loopBack sp race (bytes sp) u) = t
      ∧ loopBack sp race (bytes sp) (loopBack sp.other race (bytes sp.other) u) = t := by
    rw [skipBefore, h]; exact ⟨skipAfter, rfl⟩
  obtain ⟨ownFirst, otherFirst⟩ := both
  obtain e | e := inOrder_cases eastFirst (loopBack .ws race (bytes .ws)) (loopBack .es race (bytes .es)) u <;> rw [e] <;> cases sp
  · exact ownFirst
  · exact otherFirst
  · exact otherFirst
  · exact ownFirst

/-- A slot start with no notice to move up, before or after the looped frames are taken. -/
theorem startSlot_quiet {eastFirst : Bool} (hn : s.time.slotNext < 8)
    (hu : sendLocal (sendLine .es (sendLine .ws s.slotBegun)) = u) (hq : u.notices = [])
    (h : inOrder eastFirst (loopBack .ws race (s.slotBegun.lineFrame .ws)) (loopBack .es race (s.slotBegun.lineFrame .es)) u = t)
    (ht : t.notices = []) : startSlot race eastFirst s = t := by
  have begun : startSlot race eastFirst s
      = inOrder race.replyFirst departNotices
          (inOrder eastFirst (loopBack .ws race (s.slotBegun.lineFrame .ws)) (loopBack .es race (s.slotBegun.lineFrame .es)))
          (sendLocal (sendLine .es (sendLine .ws s.slotBegun))) := if_pos hn
  rw [begun, hu]
  obtain e | e := inOrder_cases race.replyFirst departNotices
    (inOrder eastFirst (loopBack .ws race (s.slotBegun.lineFrame .ws)) (loopBack .es race (s.slotBegun.lineFrame .es))) u
  · rw [e, departNotices_none hq, h]
  · rw [e, h, departNotices_none ht]

/-- Settles O11: the looped frame is the port's own word, which it hears as a valid one. -/
theorem innerLoopKeepsPortLive : Obligations.InnerLoopKeepsPortLive := by
  intro race eastFirst s sp hr hn hq hl hrx hf hb hs ho ho'
  have port : s.fresh.slotBegun.line sp = { s.line sp with loopNow := .inner, base := { (s.line sp).base with rx := ⟨false, []⟩ } } := by
    rw [slotBegun_latched]; exact latchLoop_inner hl hrx
  have other : s.fresh.slotBegun.line sp.other = { s.line sp.other with loopNow := (s.line sp.other).loop } := by
    rw [slotBegun_latched]; exact latchLoop_line ho ho'
  have otherFrame : s.fresh.slotBegun.lineFrame sp.other = s.lineFrame sp.other := slotBegun_frame (s := s.fresh) ho ho'
  have ownFrame : s.fresh.slotBegun.lineFrame sp = frameBytes (s.spanWord sp) none := by
    rw [State.lineFrame, slotBegun_word, port, arbitrate_empty (by exact hf) (by exact hb)]; rfl
  have sent := sendFrames_inner (s := s.fresh.slotBegun) (sp := sp) (by rw [port]) (by rw [port]; exact hf) (by rw [port]; exact hb)
    (by rw [other]; exact ho)
  dsimp only at sent
  rw [port, otherFrame] at sent
  generalize hu : sendLocal (sendLine .es (sendLine .ws s.fresh.slotBegun)) = u at sent
  have line : u.line sp =
      { s.line sp with loopNow := .inner, base := { (s.line sp).base with rx := ⟨false, []⟩, sending := none } } := by
    rw [sent]; exact PerSpan.get_set_self ..
  have out : (u.line sp.other).loopNow ≠ .inner := by
    rw [← hu, sendFrames_loopNow, other]
    exact ho
  have st : u.st sp = s.st sp := by rw [sent]; rfl
  have sender : (s.spanWord sp).sender = u.expectedSender sp := by
    rw [State.expectedSender, line, if_neg (by simp), sent]; rfl
  have own : loopBack sp race (s.fresh.slotBegun.lineFrame sp) u = u.heard sp (s.spanWord sp) := by
    rw [ownFrame, loopBack, if_pos (by rw [line]), takeBytes_heard (by rw [line]) sender (by rw [st]; exact hs)]
  have loops := loopBack_one (bytes := s.fresh.slotBegun.lineFrame) eastFirst out own (by rw [heard_line_other]; exact out)
  have empty : u.notices = [] := by rw [sent]; exact hq
  have port' : (u.heard sp (s.spanWord sp)).line sp
      = { u.line sp with
          silence := 0, live := true, mismatch := false
          base := { (u.line sp).base with accepted := min 65535 ((u.line sp).base.accepted + 1) } } := State.setLine_line_self ..
  refine ⟨u.heard sp (s.spanWord sp), ?_, ?_, ?_, ?_, ?_, ?_, ?_, ?_⟩
  · rw [exec, execSlotStart, unlessReset_free hr, startSlot_quiet (s := s.fresh) hn hu empty loops empty]
  · rw [port']
  · rw [port']
  · rw [port', line]
  · rw [port', line]
  · rw [← st, sent]; rfl
  · rw [sent]; rfl
  · rw [sent]; rfl

end Sys2Proof.Machine
end

section
/-! SUPPORT. SET_LOOP, and a WRITE_PART of the own site number (R175, R176, R189). -/

namespace Sys2Proof.Machine

variable {s u : State} {sp : Span} {r : Req} {m : Byte} {mode : Loop}

/-! ### SET_LOOP -/

theorem exec_setLoop (h : s.pins.resetLine = false) (r : Req) :
    exec (.setLoop r) s = .next (sendReply Config.kindSetLoop r (setLoop r s.fresh)) := by
  rw [exec, execSetLoop, unlessReset_free h]

/-- The loop mode a byte names (R194). -/
theorem loopOfCode_eq (m : Byte) : Loop.ofCode m.toNat = if m = 0 then .normal else if m = 1 then .inner else .outer := by
  by_cases h0 : m = 0
  · rw [if_pos h0, h0]; rfl
  by_cases h1 : m = 1
  · rw [if_neg h0, if_pos h1, h1]; rfl
  · have n0 : m.toNat ≠ 0 := fun h => h0 (BitVec.eq_of_toNat_eq h)
    have n1 : m.toNat ≠ 1 := fun h => h1 (BitVec.eq_of_toNat_eq h)
    rw [if_neg h0, if_neg h1]
    unfold Loop.ofCode
    split <;> trivial

theorem setLoop_body (hb : r.body = [spanByte sp, m]) (hc : s.classUsed r = 0) (hm : m.toNat ≤ 2) :
    setLoop r s = loopPort sp (Loop.ofCode m.toNat) s := by
  have named : ¬ (1 < (spanByte sp).toNat ∨ 2 < m.toNat) := not_or.mpr ⟨spanByte_le sp, not_lt.mpr hm⟩
  simp only [setLoop, hb, if_neg named, granted_zero hc, spanOfCode_spanByte, Bool.true_eq_false, if_false]

theorem exec_setLoop_body (hr : s.pins.resetLine = false) (hb : r.body = [spanByte sp, m]) (hc : s.classUsed r = 0) (hm : m.toNat ≤ 2) :
    exec (.setLoop r) s = .next (sendReply Config.kindSetLoop r (loopPort sp (Loop.ofCode m.toNat) s.fresh)) := by
  rw [exec_setLoop hr, setLoop_body (s := s.fresh) hb hc hm]

/-- The states in which SET_LOOP is refused in RUN (R175). -/
def SpanState.barsLoop (x : SpanState) : Prop := x.lit = true ∨ x = .shut

theorem barsLoop_iff (x : SpanState) : x.barsLoop ↔ x = .shut ∨ x = .probe ∨ x = .confirm ∨ x = .service := by
  cases x <;> simp [SpanState.barsLoop, SpanState.lit]

theorem not_barsLoop {x : SpanState} (h : x = .unused ∨ x = .wait ∨ x = .locked ∨ x = .maint) : ¬ x.barsLoop := by
  rw [barsLoop_iff]
  obtain rfl | rfl | rfl | rfl := h <;> decide

/-- The line port with a loop mode stored, the mode in effect as it was until a slot start (R175). -/
def State.storeLoop (s : State) (sp : Span) (mode : Loop) : State := s.setLine sp { s.line sp with loop := mode, mismatch := false }

theorem loopPort_refused (hrun : s.part.run = true) (h : (s.st sp).state.barsLoop) : loopPort sp mode s = refuse .state s :=
  if_pos ⟨hrun, h⟩

theorem loopPort_held (h : ¬ (s.st sp).state.barsLoop) (e : (s.line sp).loop = mode) : loopPort sp mode s = doneWith s := by
  rw [loopPort, if_neg fun g => h g.2, if_pos e]

theorem loopPort_changed (h : ¬ (s.st sp).state.barsLoop) (e : (s.line sp).loop ≠ mode) :
    loopPort sp mode s = doneWith (loopMoves sp (s.line sp).loop mode (s.storeLoop sp mode)) := by
  rw [loopPort, if_neg fun g => h g.2, if_neg e]; rfl

/-! ### The span that faces the port -/

/-- A span that leaves the line for a loop (R34, R189). -/
theorem loopMoves_leaves (h : (s.st sp).state = .wait ∨ (s.st sp).state = .locked) :
    loopMoves sp .normal mode s = shift sp { (s.st sp).enter .maint false with failures := 0 } s := by
  unfold loopMoves
  obtain h | h := h <;> simp only [h, if_true] <;> exact enterMaint_eq ..

/-- A span that comes back to the line (R189). -/
theorem loopMoves_returns {old : Loop} (h : (s.st sp).state = .maint) :
    loopMoves sp old .normal s = shift sp { (s.st sp).enter .wait false with offExpired := false } s := by
  unfold loopMoves
  simp only [h, if_true]
  exact enterWait_eq ..

/-- A span that stays where it is (R183, R189). -/
theorem loopMoves_still {old : Loop} (h : (s.st sp).state = .unused ∨ ((s.st sp).state = .locked ∧ old ≠ .normal)
    ∨ ((s.st sp).state = .maint ∧ mode ≠ .normal)) : loopMoves sp old mode s = s := by
  unfold loopMoves
  obtain h | ⟨h, hold⟩ | ⟨h, hnew⟩ := h
  · simp only [h]
  · simp only [h, if_neg hold]
  · simp only [h, if_neg hnew]

/-- What a change of loop mode that moves the span leaves of the state: the move is one of the span's record, the reply one of a queue. -/
theorem shift_replied_frame (u : State) (y : SpanStatus) (r : Req) (kind code : Byte) :
    { (shift sp y (u.storeLoop sp mode)).replied r kind code [] with
      status := u.status, pins := u.pins, lines := u.lines, localPort := u.localPort } = u := by
  rw [replied_eq]
  cases r.port <;> rfl

theorem shift_replied_line (u : State) (y : SpanStatus) (r : Req) (kind code : Byte) :
    ((shift sp y (u.storeLoop sp mode)).replied r kind code []).line sp
      = { u.line sp with
          loop := mode, mismatch := false
          base := (((shift sp y (u.storeLoop sp mode)).replied r kind code []).line sp).base } := by
  have stored : (shift sp y (u.storeLoop sp mode)).line sp = { u.line sp with loop := mode, mismatch := false } :=
    State.setLine_line_self ..
  conv_lhs => rw [replied_line, stored]

/-- The reply does not see the span's record. -/
theorem shift_replied_ports (u : State) (y : SpanStatus) (r : Req) (kind code : Byte) :
    ((shift sp y u).replied r kind code []).lines = (u.replied r kind code []).lines
      ∧ ((shift sp y u).replied r kind code []).localPort = (u.replied r kind code []).localPort := by
  rw [replied_eq, replied_eq]
  cases r.port <;> exact ⟨rfl, rfl⟩

/-! ### WRITE_PART -/

theorem exec_writePart (h : s.pins.resetLine = false) (r : Req) :
    exec (.writePart r) s = .next (sendReply Config.kindWritePart r (writePart r s.fresh)) := by
  rw [exec, execWritePart, unlessReset_free h]

/-- A new own site number takes effect with the mismatch reported of both line ports at no (R109, R110, R176). -/
theorem writePart_site {b1 b0 : Byte} (hb : r.body = [1, b1, b0]) (hc : s.classUsed r = 0) (hv : b1.toNat * 256 + b0.toNat ≤ 1022)
    (hs : s.part.site ≠ BitVec.ofNat 10 (b1.toNat * 256 + b0.toNat)) :
    writePart r s = doneWith { s with
      part := { s.part with site := BitVec.ofNat 10 (b1.toNat * 256 + b0.toNat) }
      lines := ⟨{ s.line .ws with mismatch := false }, { s.line .es with mismatch := false }⟩ } := by
  have items : readItems (widthsOf partWidths) [1, b1, b0] = some [(1, [b1, b0])] := readItems_one rfl
  have ranged : inRanges partRanges [(1, [b1, b0])] = true :=
    (inRanges_one (lo := 0) (hi := 1022) rfl).mpr (by rw [beNat_two]; exact ⟨Nat.zero_le _, hv⟩)
  have part : s.part.write [(1, [b1, b0])] = { s.part with site := BitVec.ofNat 10 (b1.toNat * 256 + b0.toNat) } := by
    simp [Part.write, written_one_self, written_one_other, beNat_two]
  simp only [writePart, hb, items, lacksSafe_zero hc, Bool.false_eq_true, if_false, ownerWritePart, ranged, Bool.true_eq_false, part, if_true,
    if_neg hs.symm]
  rfl

/-- Settles O43, request by request. -/
theorem loopAndSiteWritten : Obligations.LoopAndSiteWritten := by
  refine ⟨fun s r sp m hr hc hrun hb => ⟨fun hm hl hs => ?_, fun hm hs => ?_⟩, fun s r sp m hr hc hm hb => ?_,
    fun s r b1 b0 hr hc => ?_⟩
  · have open_ : ¬ (s.st sp).state.barsLoop := not_barsLoop (hs.elim (fun h => .inr (.inl h)) fun h => .inr (.inr (.inl h)))
    have mode : Loop.ofCode m.toNat = if m = 1 then .inner else .outer := by
      obtain rfl | rfl := hm <;> rfl
    have changed : (s.line sp).loop ≠ Loop.ofCode m.toNat := by
      rw [hl, mode]; split <;> decide
    have small : m.toNat ≤ 2 := by obtain rfl | rfl := hm <;> decide
    rw [exec_setLoop_body hr hb hc small, loopPort_changed (s := s.fresh) open_ changed, fresh_line, hl,
      loopMoves_leaves (s := s.fresh.storeLoop sp _) hs, doneWith, sendReply_replied]
    refine ⟨_, rfl, ?_, ?_, ?_, ?_, ?_, ?_, shift_replied_frame ..⟩
    · rw [shift_replied_line]; exact mode
    · rw [shift_replied_line]
    · rw [shift_replied_line]; rfl
    · rw [shift_replied_line]; rfl
    · rw [replied_st, shift_st_self]; rfl
    · rw [replied_st, shift_st_other]; rfl
  · rw [exec_setLoop_body hr hb hc hm, loopPort_refused (s := s.fresh) hrun ((barsLoop_iff _).mpr hs)]
    exact congrArg _ (sendReply_replied ..)
  · intro mode held stored
    have code : Loop.ofCode m.toNat = mode := loopOfCode_eq m
    have answered := exec_setLoop_body hr hb hc hm
    rw [code] at answered
    refine ⟨fun hne hs => ?_, fun heq hs => ?_, fun hrun hmode hheld hs => ?_⟩
    · have open_ : ¬ (s.st sp).state.barsLoop := not_barsLoop (by
        obtain h | ⟨h, -⟩ | ⟨h, -⟩ := hs
        · exact .inl h
        · exact .inr (.inr (.inl h))
        · exact .inr (.inr (.inr h)))
      rw [answered, loopPort_changed (s := s.fresh) open_ hne.symm, loopMoves_still (s := s.fresh.storeLoop sp mode) (old := (s.fresh.line sp).loop) hs]
      exact congrArg _ (sendReply_replied ..)
    · rw [answered, loopPort_held (s := s.fresh) (not_barsLoop hs) heq.symm]
      exact congrArg _ (sendReply_replied ..)
    · have open_ : ¬ (s.st sp).state.barsLoop := not_barsLoop (.inr (.inr (.inr hs)))
      rw [answered, loopPort_changed (s := s.fresh) open_ (by rw [hmode]; exact hheld), hmode,
        loopMoves_returns (s := s.fresh.storeLoop sp .normal) hs, doneWith, sendReply_replied]
      have ports := shift_replied_ports (sp := sp) (s.fresh.storeLoop sp .normal)
      have same : s.fresh.storeLoop sp .normal = stored := by simp only [stored, hmode]; rfl
      refine ⟨_, rfl, ?_, ?_, ?_, ?_, ?_, shift_replied_frame ..⟩
      · rw [← same]; exact congrArg (·.get sp.other) (ports _ r 13 0).1
      · rw [← same]; exact congrArg (·.get sp) (ports _ r 13 0).1
      · rw [← same]; exact (ports _ r 13 0).2
      · rw [replied_st, shift_st_self]; rfl
      · rw [replied_st, shift_st_other]; rfl
  · intro site hb hv hs
    rw [exec_writePart hr, writePart_site (s := s.fresh) hb hc hv hs]
    exact congrArg _ (sendReply_replied ..)

end Sys2Proof.Machine
end

section
/-! SUPPORT. The pins of RESET and of the supply-good line: a held RESET, the Supply Monitor's states, and its tick. -/

namespace Sys2Proof.Machine

variable {s : State}

/-! ### RESET held -/

/-- The release of RESET reads the supply state from its line (R134, R184). -/
theorem releaseReset_held (h : s.pins.resetLine = true) :
    releaseReset s =
      { s.fresh with
        pins := { s.pins with resetLine := false }
        supply := ⟨if s.pins.supplyGood then .settling else .low, 0⟩ } := by
  rw [releaseReset, if_pos h]
  rfl

/-- Settles O3: a command other than the resets and the two edges of the supply-good line is put off by `State.unlessReset` alone. -/
theorem heldResetTakesNothing : Obligations.HeldResetTakesNothing := by
  refine ⟨fun c s h => ?_, fun s h => congrArg _ (releaseReset_held h)⟩
  cases c
  case powerOnReset => trivial
  case resetAssert => trivial
  case resetRelease => trivial
  case supplyGoodFall => exact congrArg _ (unlessReset_held (s := setSupplyPin false s) h supplyFall)
  case supplyGoodRise => exact congrArg _ (unlessReset_held (s := setSupplyPin true s) h supplyRise)
  all_goals exact congrArg _ (unlessReset_held h _)

/-! ### Edges of the supply-good line -/

theorem exec_supplyGoodFall (h : s.pins.resetLine = false) :
    exec .supplyGoodFall s = .next (supplyFall (setSupplyPin false s.fresh)) :=
  congrArg _ (unlessReset_free (s := setSupplyPin false s) h _)

theorem exec_supplyGoodRise (h : s.pins.resetLine = false) :
    exec .supplyGoodRise s = .next (supplyRise (setSupplyPin true s.fresh)) :=
  congrArg _ (unlessReset_free (s := setSupplyPin true s) h _)

theorem isDark_off_hold_iff (x : PumpState) : x.isDark = true ∧ x ≠ .darkHold ↔ x = .dark ∨ x = .faulted := by
  cases x <;> simp [PumpState.isDark]

/-- SNUFF keeps the pending rise of a channel in DARK or FAULTED and clears any other (R87). -/
theorem takeSnuff_rise (p : Pump) :
    p.takeSnuff.rise = if p.state.isDark = true ∧ p.state ≠ .darkHold then p.rise else none := by
  rw [if_congr (isDark_off_hold_iff p.state) rfl rfl]
  obtain ⟨kept, e⟩ | ⟨notDark, notFaulted, e⟩ := takeSnuff_cases p
  · rw [e, if_pos kept]
  · rw [e, if_neg (not_or.mpr ⟨notDark, notFaulted⟩)]; rfl

/-- A fall outside LOW is work on the pump channels, the new supply state, and SUPPLY_LOW for both spans (R135). -/
theorem supplyFall_enters (h : s.supply.state ≠ .low) :
    ∃ w, PumpFrame { s with supply := ⟨.low, 0⟩ } w ∧ (∀ ch, w.pump ch = (s.pump ch).takeSnuff)
      ∧ supplyFall s = w.raise .supplyMonitor .supplyLow .both .none_ :=
  ⟨snuffAll { s with supply := ⟨.low, 0⟩ }, snuffAll_frame _, snuffAll_pump _, if_neg h⟩

/-! ### The settle count -/

theorem ended_supplyLow (x : SpanStatus) :
    x.ended .supplyLow = { x with causes := x.causes.filter fun e => e ≠ .supplyLow, entrySupply := false } := by
  simp [SpanStatus.ended, removeCause]

/-- The settle time is reached: GOOD, and the end of SUPPLY_LOW in both cause sets (R136). -/
theorem settleTick_ends (h : s.supply.state = .settling) (hn : s.part.settleTime ≤ s.supply.count + 1) :
    settleTick s =
      { s with
        supply := ⟨.good, s.supply.count + 1⟩
        status := ⟨(s.st .ws).ended .supplyLow, (s.st .es).ended .supplyLow⟩ } := by
  rw [settleTick, if_pos h]
  dsimp only
  rw [if_pos hn, endStanding_eq, endStanding_eq]
  rfl

theorem settleTick_counts (h : s.supply.state = .settling) (hn : s.supply.count + 1 < s.part.settleTime) :
    settleTick s = { s with supply := ⟨.settling, s.supply.count + 1⟩ } := by
  rw [settleTick, if_pos h]
  exact if_neg (Nat.not_le.mpr hn)

theorem settleTick_idle (h : s.supply.state ≠ .settling) : settleTick s = s := if_neg h

theorem settle_mem : TickJob.settle ∈ Config.allJobs := by decide

/-- SETTLE_END of a count that the tick still owed takes to the settle time (R136). -/
theorem exec_settleEnd (hr : s.pins.resetLine = false) (hj : .settle ∈ s.owed) (h : s.supply.state = .settling)
    (hn : s.part.settleTime ≤ s.supply.count + 1) :
    exec .settleEnd s =
      .next { s.fresh.dropJob .settle with
        supply := ⟨.good, s.supply.count + 1⟩
        status := ⟨(s.st .ws).ended .supplyLow, (s.st .es).ended .supplyLow⟩ } := by
  rw [exec, execSettleEnd, unlessReset_free hr]
  refine congrArg _ (takeWhere_eq (s := s.fresh) hj (settleTick_ends (s := s.fresh.dropJob .settle) h hn) ?_)
  rw [settles, show s.fresh.supply.state = .settling from h]
  rfl

/-- Settles O32: the edges of the line, the end of the settle time, and the ticks that end nothing. -/
theorem supplyStatesFollowLine : Obligations.SupplyStatesFollowLine := by
  refine ⟨fun s hr => ⟨fun h => ?_, fun h => ?_⟩, fun s hr hj h hn => ?_, fun levels s hr ho => ⟨fun h hn => ?_, fun h => ?_⟩⟩
  · obtain ⟨w, frame, pump, e⟩ := supplyFall_enters (s := setSupplyPin false s.fresh) h
    refine ⟨_, (exec_supplyGoodFall hr).trans (congrArg _ e), ?_, ?_, fun ch => ?_, ?_, ?_⟩
    · rw [frame.eq]; rfl
    · rw [frame.eq]; rfl
    · rw [State.raise_pump, pump ch]
      exact ⟨takeSnuff_isDark _, takeSnuff_rise _⟩
    · rw [frame.eq]; rfl
    · rw [frame.eq]; rfl
  · rw [exec_supplyGoodRise hr, supplyRise, if_pos (show (setSupplyPin true s.fresh).supply.state = .low from h)]
    rfl
  · rw [exec_settleEnd hr hj h hn, ended_supplyLow, ended_supplyLow]
  · exact (exec_tick_one levels hr ho settle_mem).trans
      (congrArg _ (settleTick_counts (s := (s.ticked levels).dropJob .settle) h hn))
  · exact (exec_tick_one levels hr ho settle_mem).trans (congrArg _ (settleTick_idle (s := (s.ticked levels).dropJob .settle) h))

end Sys2Proof.Machine
end

section
/-! SUPPORT. A new entry of an interlock line in closed form: what it raises and what it ends for each span (R127 to R131). -/

namespace Sys2Proof.Machine

variable {s : State} {sp : Span} {n : Chan} {l : IlLine}

/-! ### Activity and conditions -/

theorem IlLine.active_iff (l : IlLine) :
    l.active = true ↔ l.latched = true ∨ (l.sense = .fallLow ∧ l.observed = some false) ∨ (l.sense = .riseHigh ∧ l.observed = some true) := by
  simp [IlLine.active, or_assoc]

theorem Assign.names_iff (a : Assign) (sp : Span) : a.names sp = true ↔ a = .both ∨ (a = .ws ∧ sp = .ws) ∨ (a = .es ∧ sp = .es) := by
  cases a <;> simp [Assign.names]

theorem names_ws (a : Assign) : a.names .ws = true ↔ a = .ws ∨ a = .both := by cases a <;> simp [Assign.names]

theorem names_es (a : Assign) : a.names .es = true ↔ a = .es ∨ a = .both := by cases a <;> simp [Assign.names]

theorem names_own (a : Assign) (sp : Span) : a.names sp = true ↔ a = .both ∨ a = if sp = .ws then .ws else .es := by
  cases sp
  · rw [names_ws, or_comm]; rfl
  · rw [names_es, or_comm]; rfl

theorem IlLine.guards_iff (l : IlLine) (sp : Span) : l.guards sp = true ↔ l.active = true ∧ l.assign.names sp = true := by
  simp [IlLine.guards]

theorem IlLine.guards_of_inactive (h : l.active = false) (sp : Span) : l.guards sp = false := by simp [IlLine.guards, h]

theorem interlocked_iff (s : State) (sp : Span) : s.interlocked sp = true ↔ ∃ m, (s.ilLine m).guards sp = true := by
  simp [State.interlocked, mem_chans]

/-- An active line other than one given guards the span. -/
def State.guardedBeside (s : State) (n : Chan) (sp : Span) : Prop := ∃ m, m ≠ n ∧ (s.ilLine m).guards sp = true

theorem not_guardedBeside : ¬ s.guardedBeside n sp ↔ ∀ m, m ≠ n → (s.ilLine m).guards sp = false := by
  simp [State.guardedBeside]

/-- The condition of a span, told by one line and the others (R128). -/
theorem interlocked_split (s : State) (n : Chan) (sp : Span) :
    s.interlocked sp = true ↔ (s.ilLine n).guards sp = true ∨ s.guardedBeside n sp := by
  rw [interlocked_iff]
  constructor
  · rintro ⟨m, h⟩
    by_cases e : m = n
    · exact .inl (e ▸ h)
    · exact .inr ⟨m, e, h⟩
  · rintro (h | ⟨m, -, h⟩)
    · exact ⟨n, h⟩
    · exact ⟨m, h⟩

theorem setIlLine_interlocked (s : State) (n : Chan) (l : IlLine) (sp : Span) :
    (s.setIlLine n l).interlocked sp = true ↔ l.guards sp = true ∨ s.guardedBeside n sp := by
  rw [interlocked_split _ n, State.setIlLine_ilLine_self]
  refine or_congr_right (exists_congr fun m => and_congr_right fun hm => ?_)
  rw [State.setIlLine_ilLine, if_neg hm]

/-! ### The closed form -/

/-- The event of the Interlock Unit for a span, with a line as subject (R128, R149). -/
def State.interlockEvent (s : State) (n : Chan) (sp : Span) : Raised :=
  ⟨.interlockUnit, .interlock, .one sp, .line n, s.time.tickCount, false⟩

/-- The line passes into active guarding the span, or the span's condition passes to standing (R128, R131, log 16). -/
abbrev State.lineBegins (s : State) (n : Chan) (l : IlLine) (sp : Span) : Prop :=
  (¬ (s.ilLine n).active = true ∧ l.guards sp = true) ∨ (¬ s.interlocked sp = true ∧ (s.setIlLine n l).interlocked sp = true)

/-- The span's condition passes to not standing (R129). -/
abbrev State.lineEnds (s : State) (n : Chan) (l : IlLine) (sp : Span) : Prop :=
  s.interlocked sp = true ∧ ¬ (s.setIlLine n l).interlocked sp = true

/-- What a line's new entry raises for a span. -/
def State.lineEvents (s : State) (n : Chan) (l : IlLine) (sp : Span) : List Raised :=
  if s.lineBegins n l sp then [s.interlockEvent n sp] else []

/-- A span's record after a line's new entry. -/
def State.lineRecord (s : State) (n : Chan) (l : IlLine) (sp : Span) : SpanStatus :=
  if s.lineEnds n l sp then (s.st sp).ended .interlock else s.st sp

theorem lineEvents_congr {c : Prop} [Decidable c] (h : s.lineBegins n l sp ↔ c) :
    s.lineEvents n l sp = if c then [s.interlockEvent n sp] else [] := if_congr h rfl rfl

theorem lineRecord_congr {c : Prop} [Decidable c] (h : s.lineEnds n l sp ↔ c) :
    s.lineRecord n l sp = if c then (s.st sp).ended .interlock else s.st sp := if_congr h rfl rfl

/-- The condition of a span ends where the line guarded the span, guards it no more, and no other line does. -/
theorem lineEnds_iff : s.lineEnds n l sp ↔ (s.ilLine n).guards sp = true ∧ ¬ l.guards sp = true ∧ ¬ s.guardedBeside n sp := by
  rw [State.lineEnds, setIlLine_interlocked, interlocked_split s n]
  tauto

/-- A condition that passes to not standing has no line that begins to guard its span: the line itself would keep it standing. -/
theorem lineEnds_not_begins (h : s.lineEnds n l sp) : ¬ s.lineBegins n l sp := by
  obtain ⟨stood, ends⟩ := h
  rintro (⟨-, guards⟩ | ⟨fell, -⟩)
  · exact ends ((setIlLine_interlocked ..).mpr (.inl guards))
  · exact fell stood

/-- The effect for one span of a line's new entry that already stands, on a state `u` in which the lines and the span's record are as they
were left. -/
theorem interlockEffect_eq {u : State} (hil : u.il = (s.setIlLine n l).il) (htime : u.time = s.time) (hst : u.st sp = s.st sp) :
    interlockEffect n (s.ilLine n) (s.interlocked sp) sp u =
      { u.setSt sp (s.lineRecord n l sp) with raised := u.raised ++ s.lineEvents n l sp } := by
  have line : u.ilLine n = l := (congrArg (fun il => il[n]) hil).trans (State.setIlLine_ilLine_self ..)
  have now : u.interlocked sp = (s.setIlLine n l).interlocked sp := by simp only [State.interlocked, State.ilLine, hil]
  have still : u.setSt sp (s.st sp) = u := by rw [← hst, State.setSt_self]
  have begins : ((!(s.ilLine n).active && l.guards sp) || (!s.interlocked sp && (s.setIlLine n l).interlocked sp)) = true
      ↔ s.lineBegins n l sp := by simp [State.lineBegins]
  have ends : (s.interlocked sp && !(s.setIlLine n l).interlocked sp) = true ↔ s.lineEnds n l sp := by simp [State.lineEnds]
  simp only [interlockEffect, line, now, begins, ends, State.lineEvents, State.lineRecord]
  by_cases hb : s.lineBegins n l sp
  · rw [if_pos hb, if_pos hb, if_neg fun he => lineEnds_not_begins he hb, still, interlockRaise, State.raise, htime]
    rfl
  · rw [if_neg hb, if_neg hb, List.append_nil]
    by_cases he : s.lineEnds n l sp
    · rw [if_pos he, if_pos he, endStanding_eq, hst]; rfl
    · rw [if_neg he, if_neg he, still]

/-- A line's new entry in closed form: the entry, the events of WS and of ES in this order, and both spans' records. -/
theorem putLine_eq (n : Chan) (l : IlLine) (s : State) :
    putLine n l s =
      { s.setIlLine n l with
        raised := s.raised ++ s.lineEvents n l .ws ++ s.lineEvents n l .es
        status := ⟨s.lineRecord n l .ws, s.lineRecord n l .es⟩ } := by
  have west := interlockEffect_eq (s := s) (n := n) (l := l) (sp := .ws) (u := s.setIlLine n l) rfl rfl rfl
  have east := congrArg (interlockEffect n (s.ilLine n) (s.interlocked .es) .es) west
  exact east.trans (interlockEffect_eq (s := s) rfl rfl rfl)

theorem putLine_st (n : Chan) (l : IlLine) (s : State) (sp : Span) : (putLine n l s).st sp = s.lineRecord n l sp := by
  rw [putLine_eq]
  cases sp <;> rfl

/-- The events of a line for the spans an assignment names, WS first (R128, log 44). -/
def State.namedEvents (s : State) (n : Chan) (a : Assign) : List Raised :=
  (if a = .ws ∨ a = .both then [s.interlockEvent n .ws] else []) ++ (if a = .es ∨ a = .both then [s.interlockEvent n .es] else [])

/-- An entry takes the place of one that was not active: if it is active there is an event for each span it names, and no condition ends. -/
theorem putLine_of_inactive (h : (s.ilLine n).active = false) :
    putLine n l s =
      { s.setIlLine n l with raised := s.raised ++ if l.active = true then s.namedEvents n l.assign else [] } := by
  have begins (sp : Span) : s.lineBegins n l sp ↔ l.active = true ∧ l.assign.names sp = true := by
    rw [State.lineBegins, setIlLine_interlocked, interlocked_split s n, IlLine.guards_of_inactive h, h, ← IlLine.guards_iff]
    simp only [Bool.false_eq_true, not_false_eq_true, true_and, false_or]
    tauto
  have ends (sp : Span) : s.lineEnds n l sp ↔ False := by
    rw [lineEnds_iff, IlLine.guards_of_inactive h]
    simp only [Bool.false_eq_true, false_and]
  have events : s.lineEvents n l .ws ++ s.lineEvents n l .es = if l.active = true then s.namedEvents n l.assign else [] := by
    rw [lineEvents_congr ((begins .ws).trans (and_congr_right' (names_ws _))),
      lineEvents_congr ((begins .es).trans (and_congr_right' (names_es _)))]
    by_cases active : l.active = true
    · simp only [active, true_and, if_true, State.namedEvents]
    · simp only [active, Bool.false_eq_true, false_and, if_false, List.append_nil]
  rw [putLine_eq, List.append_assoc, events, lineRecord_congr (ends .ws), lineRecord_congr (ends .es)]
  rfl

/-- An entry that guards no span the line did not guard before raises nothing. -/
theorem putLine_of_weaker (h : ∀ sp, l.guards sp = true → (s.ilLine n).guards sp = true) :
    putLine n l s = { s.setIlLine n l with status := ⟨s.lineRecord n l .ws, s.lineRecord n l .es⟩ } := by
  have begins (sp : Span) : s.lineBegins n l sp ↔ False := by
    refine iff_false_intro ?_
    rintro (⟨inactive, guards⟩ | ⟨fell, stands⟩)
    · exact inactive ((IlLine.guards_iff ..).mp (h sp guards)).1
    · exact fell ((interlocked_split s n sp).mpr (((setIlLine_interlocked ..).mp stands).imp_left (h sp)))
  rw [putLine_eq, lineEvents_congr (begins .ws), lineEvents_congr (begins .es), if_neg id, if_neg id, List.append_nil, List.append_nil]
  rfl

theorem ended_interlock (x : SpanStatus) :
    x.ended .interlock = { x with causes := x.causes.filter fun e => e ≠ .interlock, entryInterlock := false } := by
  simp [SpanStatus.ended, removeCause]

/-! ### A tick's sample -/

/-- The active edge latches (R126). -/
theorem sample_activeEdge {high : Bool} (ho : l.observed = some (!high))
    (hs : if high then l.sense = .rise ∨ l.sense = .riseHigh else l.sense = .fall ∨ l.sense = .fallLow) :
    l.sample high = { l with observed := some high, latched := true } := by
  cases high
  · obtain h | h := hs <;> simp [IlLine.sample, ho, h]
  · obtain h | h := hs <;> simp [IlLine.sample, ho, h]

/-- A first sample shows no edge (R126). -/
theorem sample_first (ho : l.observed = none) (high : Bool) : l.sample high = { l with observed := some high } := by
  cases hs : l.sense <;> simp [IlLine.sample, ho, hs]

/-- The other edge latches nothing (R126). -/
theorem sample_otherEdge {high : Bool} (hs : if high then l.sense = .fallLow else l.sense = .riseHigh) :
    l.sample high = { l with observed := some high } := by
  cases high
  · replace hs : l.sense = .riseHigh := hs
    simp [IlLine.sample, hs]
  · replace hs : l.sense = .fallLow := hs
    simp [IlLine.sample, hs]

/-- A line that is not latched is active by level alone (R127). -/
theorem active_of_not_latched (hl : l.latched = false) :
    l.active = true ↔ (l.sense = .fallLow ∧ l.observed = some false) ∨ (l.sense = .riseHigh ∧ l.observed = some true) := by
  simp [IlLine.active_iff, hl]

/-- Before its active edge a line that is not latched is not active. -/
theorem inactive_before_edge {high : Bool} (hl : l.latched = false) (ho : l.observed = some (!high))
    (hs : if high then l.sense = .rise ∨ l.sense = .riseHigh else l.sense = .fall ∨ l.sense = .fallLow) : l.active = false := by
  rw [← Bool.not_eq_true, active_of_not_latched hl, ho]
  cases high
  · obtain h | h := hs <;> simp [h]
  · obtain h | h := hs <;> simp [h]

theorem inactive_unobserved (hl : l.latched = false) (ho : l.observed = none) : l.active = false := by
  rw [← Bool.not_eq_true, active_of_not_latched hl, ho]
  simp

/-- The other edge takes a line from active by level to not active (R127). -/
theorem active_across_otherEdge {high : Bool} (hl : l.latched = false) (ho : l.observed = some (!high))
    (hs : if high then l.sense = .fallLow else l.sense = .riseHigh) :
    l.active = true ∧ ({ l with observed := some high } : IlLine).active = false := by
  cases high
  · replace hs : l.sense = .riseHigh := hs
    simp [IlLine.active, hl, ho, hs]
  · replace hs : l.sense = .fallLow := hs
    simp [IlLine.active, hl, ho, hs]

theorem interlock_mem (n : Chan) : TickJob.interlock n ∈ Config.allJobs := by revert n; decide

/-- A TICK that names the sample of one line gives the line its entry after the sample. -/
theorem exec_tick_interlock (hr : s.pins.resetLine = false) (ho : s.owed = []) (levels : BitVec 8)
    (hl : (s.ilLine n).sample (levels.getLsbD n.val) = l) :
    exec (.tick levels [.interlock n]) s = .next (putLine n l ((s.ticked levels).dropJob (.interlock n))) := by
  rw [← hl]
  exact exec_tick_one levels hr ho (interlock_mem n)

/-- A line that was not active takes a tick's sample: its new entry, and its events where it becomes active (R126 to R128). -/
theorem exec_tick_interlock_begins (hr : s.pins.resetLine = false) (ho : s.owed = []) (levels : BitVec 8)
    (hl : (s.ilLine n).sample (levels.getLsbD n.val) = l) (inactive : (s.ilLine n).active = false) :
    ∃ t, exec (.tick levels [.interlock n]) s = .next t ∧ t.ilLine n = l ∧ (∀ m, m ≠ n → t.ilLine m = s.ilLine m)
      ∧ t.raised = s.raised ++ (if l.active = true then (s.ticked levels).namedEvents n l.assign else [])
      ∧ { t with il := s.il, raised := s.raised, time := s.time, pins := s.pins, owed := s.owed } = s.fresh := by
  have entry : putLine n l ((s.ticked levels).dropJob (.interlock n)) = _ := putLine_of_inactive inactive
  refine ⟨_, (exec_tick_interlock hr ho levels hl).trans (congrArg _ entry), State.setIlLine_ilLine_self .., fun m hm => ?_, rfl, rfl⟩
  exact (State.setIlLine_ilLine ..).trans (if_neg hm)

/-- A line whose sample makes it not active: its new entry, and the end of the condition of each span it guarded alone (R127, R129). -/
theorem exec_tick_interlock_ends (hr : s.pins.resetLine = false) (ho : s.owed = []) (levels : BitVec 8)
    (hl : (s.ilLine n).sample (levels.getLsbD n.val) = l) (active : (s.ilLine n).active = true) (inactive : l.active = false) :
    ∃ t, exec (.tick levels [.interlock n]) s = .next t ∧ t.ilLine n = l ∧ (∀ m, m ≠ n → t.ilLine m = s.ilLine m)
      ∧ (∀ sp, t.st sp =
          if (s.ilLine n).assign.names sp = true ∧ ∀ m, m ≠ n → (s.ilLine m).guards sp = false then (s.st sp).ended .interlock else s.st sp)
      ∧ { t with il := s.il, status := s.status, time := s.time, pins := s.pins, owed := s.owed } = s.fresh := by
  have none_guarded (sp : Span) : l.guards sp = false := IlLine.guards_of_inactive inactive sp
  have entry : putLine n l ((s.ticked levels).dropJob (.interlock n)) = _ :=
    putLine_of_weaker fun sp h => by rw [none_guarded sp] at h; cases h
  have ends (sp : Span) : ((s.ticked levels).dropJob (.interlock n)).lineEnds n l sp
      ↔ (s.ilLine n).assign.names sp = true ∧ ∀ m, m ≠ n → (s.ilLine m).guards sp = false := by
    rw [lineEnds_iff, none_guarded, IlLine.guards_iff, ← not_guardedBeside]
    simp only [Bool.false_eq_true, not_false_eq_true, true_and]
    exact and_congr_left' (and_iff_right active)
  refine ⟨_, exec_tick_interlock hr ho levels hl, ?_, fun m hm => ?_, fun sp => ?_, ?_⟩
  · rw [entry]; exact State.setIlLine_ilLine_self ..
  · rw [entry]; exact (State.setIlLine_ilLine ..).trans (if_neg hm)
  · exact (putLine_st ..).trans (lineRecord_congr (ends sp))
  · rw [entry]; rfl

/-- Settles O7: the active edge, the first sample, and the other edge of a line active by level. -/
theorem tickLatchesFallingEdge : Obligations.TickLatchesFallingEdge := by
  intro levels s n hr ho hl l high events
  refine ⟨fun hob hs => ?_, fun hob => ?_, fun hob hs => ?_⟩
  · exact exec_tick_interlock_begins hr ho levels (sample_activeEdge hob hs) (inactive_before_edge hl hob hs)
  · have active : ({ l with observed := some high } : IlLine).active = true
        ↔ l.sense = .fallLow ∧ high = false ∨ l.sense = .riseHigh ∧ high = true := by
      rw [active_of_not_latched (l := { l with observed := some high }) hl]
      simp only [Option.some.injEq]
    have tick := exec_tick_interlock_begins hr ho levels (sample_first hob high) (inactive_unobserved hl hob)
    rw [if_congr active rfl rfl] at tick
    exact tick
  · obtain ⟨active, inactive⟩ := active_across_otherEdge hl hob hs
    obtain ⟨t, run, entry, others, records, frame⟩ := exec_tick_interlock_ends hr ho levels (sample_otherEdge hs) active inactive
    refine ⟨t, run, entry, others, fun sp => ?_, frame⟩
    rw [records sp, ended_interlock]
    exact if_congr (and_congr_left' (names_own ..)) rfl rfl

end Sys2Proof.Machine
end

section
/-! SUPPORT. WRITE_INTERLOCK and CLEAR_INTERLOCK (R130, R131). -/

namespace Sys2Proof.Machine

variable {s : State} {sp : Span} {n : Chan} {r : Req} {l : IlLine} {bytes : List Byte} {items : List Item}

/-! ### The requests -/

theorem exec_writeInterlock (h : s.pins.resetLine = false) (r : Req) :
    exec (.writeInterlock r) s = .next (sendReply Config.kindWriteInterlock r (writeInterlock r s.fresh)) := by
  rw [exec, execWriteInterlock, unlessReset_free h]

theorem exec_clearInterlock (h : s.pins.resetLine = false) (r : Req) :
    exec (.clearInterlock r) s = .next (sendReply Config.kindClearInterlock r (clearInterlock r s.fresh)) := by
  rw [exec, execClearInterlock, unlessReset_free h]

/-- A write with every right and its values in range gives the line the entry it asks for (R131, R172). -/
theorem writeInterlock_items (hc : s.classUsed r = 0) (hb : r.body = BitVec.ofNat 8 n.val :: bytes)
    (hi : readItems (widthsOf interlockWidths) bytes = some items) (hrange : inRanges [(0, 3), (0, 3)] items = true) :
    writeInterlock r s = doneWith (putLine n ((s.ilLine n).write items) s) := by
  simp only [writeInterlock, hb, hi, if_neg (chanByte_le n), lacksSafe_zero hc, chanOf_chanByte, ownerWriteInterlock, hrange,
    Bool.false_eq_true, Bool.true_eq_false, if_false]

theorem exec_writeInterlock_items (hr : s.pins.resetLine = false) (hc : s.classUsed r = 0) (hb : r.body = BitVec.ofNat 8 n.val :: bytes)
    (hi : readItems (widthsOf interlockWidths) bytes = some items) (hrange : inRanges [(0, 3), (0, 3)] items = true)
    (hw : (s.ilLine n).write items = l) :
    exec (.writeInterlock r) s = .next ((putLine n l s.fresh).replied r 8 0 []) := by
  rw [exec_writeInterlock hr, writeInterlock_items (s := s.fresh) hc hb hi hrange, ← hw]
  exact congrArg _ (sendReply_replied ..)

/-- A clear with the grant takes the latched flag from the line (R130, R172). -/
theorem clearInterlock_line (hc : s.classUsed r = 0) (hb : r.body = [BitVec.ofNat 8 n.val]) :
    clearInterlock r s = doneWith (putLine n { s.ilLine n with latched := false } s) := by
  simp only [clearInterlock, hb, if_neg (chanByte_le n), granted_zero hc, chanOf_chanByte, Bool.true_eq_false, if_false]

theorem exec_clearInterlock_line (hr : s.pins.resetLine = false) (hc : s.classUsed r = 0) (hb : r.body = [BitVec.ofNat 8 n.val]) :
    exec (.clearInterlock r) s = .next ((putLine n { s.ilLine n with latched := false } s.fresh).replied r 9 0 []) := by
  rw [exec_clearInterlock hr, clearInterlock_line (s := s.fresh) hc hb]
  exact congrArg _ (sendReply_replied ..)

/-! ### Codes -/

/-- The assignment a byte names (R194). -/
theorem assignOfCode_eq (a : Byte) :
    Assign.ofCode a.toNat = if a = 0 then .none_ else if a = 1 then .ws else if a = 2 then .es else .both := by
  have code (k : Nat) : Assign.ofCode k = if k = 0 then .none_ else if k = 1 then .ws else if k = 2 then .es else .both := by
    unfold Assign.ofCode
    split <;> simp_all
  rw [code]
  exact if_congr (BitVec.toNat_inj (y := 0)) rfl (if_congr (BitVec.toNat_inj (y := 1)) rfl (if_congr (BitVec.toNat_inj (y := 2)) rfl rfl))

/-- The sensitivity a byte names (R194). -/
theorem senseOfCode_eq (b : Byte) :
    Sense.ofCode b.toNat = if b = 0 then .fall else if b = 1 then .fallLow else if b = 2 then .rise else .riseHigh := by
  have code (k : Nat) : Sense.ofCode k = if k = 0 then .fall else if k = 1 then .fallLow else if k = 2 then .rise else .riseHigh := by
    unfold Sense.ofCode
    split <;> simp_all
  rw [code]
  exact if_congr (BitVec.toNat_inj (y := 0)) rfl (if_congr (BitVec.toNat_inj (y := 1)) rfl (if_congr (BitVec.toNat_inj (y := 2)) rfl rfl))

/-! ### What a write brings about -/

/-- A line that moves, active, from WS to ES while no other line guards either span (R131). -/
theorem putLine_moved (ha : (s.ilLine n).active = true) (hw : (s.ilLine n).assign = .ws) (ho : ∀ sp, ¬ s.guardedBeside n sp) :
    putLine n { s.ilLine n with assign := .es } s =
      { (s.setIlLine n { s.ilLine n with assign := .es }).setSt .ws ((s.st .ws).ended .interlock) with
        raised := s.raised ++ [s.interlockEvent n .es] } := by
  have before (sp : Span) : (s.ilLine n).guards sp = true ↔ sp = .ws := by
    rw [IlLine.guards_iff, and_iff_right ha, hw, Assign.names, decide_eq_true_iff]
  have after (sp : Span) : ({ s.ilLine n with assign := .es } : IlLine).guards sp = true ↔ sp = .es :=
    (IlLine.guards_iff ..).trans ((and_iff_right ha).trans decide_eq_true_iff)
  have begins (sp : Span) : s.lineBegins n { s.ilLine n with assign := .es } sp ↔ sp = .es := by
    rw [State.lineBegins, setIlLine_interlocked, interlocked_split s n, before, after]
    simp only [ha, ho sp, not_true, false_and, false_or, or_false]
    cases sp <;> decide
  have ends (sp : Span) : s.lineEnds n { s.ilLine n with assign := .es } sp ↔ sp = .ws := by
    rw [lineEnds_iff, before, after]
    simp only [ho sp, not_false_eq_true, and_true]
    cases sp <;> decide
  rw [putLine_eq, lineEvents_congr (begins .ws), lineEvents_congr (begins .es), lineRecord_congr (ends .ws), lineRecord_congr (ends .es)]
  simp only [reduceCtorEq, if_true, if_false, List.append_nil]
  rfl

theorem guards_of_unlatched (h : ({ l with latched := false } : IlLine).guards sp = true) : l.guards sp = true := by
  obtain ⟨active, names⟩ := (IlLine.guards_iff ..).mp h
  exact (IlLine.guards_iff ..).mpr ⟨l.active_iff.mpr (.inr ((active_of_not_latched (l := { l with latched := false }) rfl).mp active)), names⟩

theorem lineRecord_state : (s.lineRecord n l sp).state = (s.st sp).state := by
  unfold State.lineRecord
  split <;> rfl

theorem lineRecord_causes {c : Prop} [Decidable c] (h : s.lineEnds n l sp ↔ c) :
    (s.lineRecord n l sp).causes = if c then (s.st sp).causes.filter fun e => e ≠ .interlock else (s.st sp).causes := by
  rw [lineRecord_congr h]
  split <;> rfl

theorem replied_ilLine (u : State) (r : Req) (kind code : Byte) (extra : List Byte) (m : Chan) :
    (u.replied r kind code extra).ilLine m = u.ilLine m := by rw [replied_eq, State.setBase_ilLine]

theorem replied_interlocked (u : State) (r : Req) (kind code : Byte) (extra : List Byte) (sp : Span) :
    (u.replied r kind code extra).interlocked sp = u.interlocked sp := by simp only [State.interlocked, replied_ilLine]

theorem putLine_ilLine (n : Chan) (l : IlLine) (s : State) (m : Chan) : (putLine n l s).ilLine m = (s.setIlLine n l).ilLine m := by
  rw [putLine_eq]; rfl

theorem putLine_interlocked (n : Chan) (l : IlLine) (s : State) (sp : Span) :
    (putLine n l s).interlocked sp = (s.setIlLine n l).interlocked sp := by
  rw [putLine_eq]; rfl

/-- Settles O41, request by request. -/
theorem interlockRequestsTaken : Obligations.InterlockRequestsTaken := by
  intro s r n hr hc
  refine ⟨fun hb ha hw ho => ?_, ?_, fun hb => ?_⟩
  · have taken := exec_writeInterlock_items (items := [(1, [2])]) (l := { s.ilLine n with assign := .es }) hr hc hb rfl rfl rfl
    have moved : putLine n { s.ilLine n with assign := .es } s.fresh = _ :=
      putLine_moved (s := s.fresh) ha hw fun sp => not_guardedBeside.mpr fun m => ho m sp
    rw [taken, moved, ended_interlock]
    rfl
  · intro a b ha hb l assign sense active guards written
    have activeIff (x : IlLine) : x.active = true ↔ active x := x.active_iff
    have guardsIff (x : IlLine) (sp : Span) : x.guards sp = true ↔ guards x sp :=
      (x.guards_iff sp).trans (and_congr x.active_iff (x.assign.names_iff sp))
    have stood (sp : Span) : s.interlocked sp = true ↔ ∃ m, guards (s.ilLine m) sp :=
      (interlocked_iff s sp).trans (exists_congr fun m => guardsIff ..)
    have stands (q : IlLine) (sp : Span) : (s.fresh.setIlLine n q).interlocked sp = true
        ↔ guards q sp ∨ ∃ m, m ≠ n ∧ guards (s.ilLine m) sp :=
      (setIlLine_interlocked s.fresh n q sp).trans (or_congr (guardsIff ..) (exists_congr fun m => and_congr_right' (guardsIff ..)))
    have entered (q : IlLine) : .next ((putLine n q s.fresh).replied r 8 0 []) = written q := by
      have begins (sp : Span) : s.fresh.lineBegins n q sp
          ↔ (¬ active l ∧ guards q sp) ∨ (¬ (∃ m, guards (s.ilLine m) sp) ∧ (guards q sp ∨ ∃ m, m ≠ n ∧ guards (s.ilLine m) sp)) :=
        or_congr (and_congr (not_congr (activeIff l)) (guardsIff q sp)) (and_congr (not_congr (stood sp)) (stands q sp))
      have ends (sp : Span) : s.fresh.lineEnds n q sp
          ↔ (∃ m, guards (s.ilLine m) sp) ∧ ¬ (guards q sp ∨ ∃ m, m ≠ n ∧ guards (s.ilLine m) sp) :=
        and_congr (stood sp) (not_congr (stands q sp))
      rw [putLine_eq, lineEvents_congr (begins .ws), lineEvents_congr (begins .es), lineRecord_congr (ends .ws), lineRecord_congr (ends .es),
        ended_interlock, ended_interlock]
      rfl
    have assigned : Assign.ofCode (beNat [a]) = assign := by rw [beNat_one]; exact assignOfCode_eq a
    have sensed : Sense.ofCode (beNat [b]) = sense := by rw [beNat_one]; exact senseOfCode_eq b
    have assign_range : 0 ≤ beNat [a] ∧ beNat [a] ≤ 3 := ⟨Nat.zero_le _, (beNat_one a).trans_le ha⟩
    have sense_range : 0 ≤ beNat [b] ∧ beNat [b] ≤ 3 := ⟨Nat.zero_le _, (beNat_one b).trans_le hb⟩
    refine ⟨fun hbody => ?_, fun hbody => ?_, fun hbody => ?_⟩
    · rw [← entered]
      refine exec_writeInterlock_items (items := [(1, [a])]) hr hc hbody rfl ((inRanges_one rfl).mpr assign_range) ?_
      simp [IlLine.write, written_one_self, assigned, written_one_other, l]
    · rw [← entered]
      refine exec_writeInterlock_items (items := [(2, [b])]) hr hc hbody rfl ((inRanges_one rfl).mpr sense_range) ?_
      simp [IlLine.write, written_one_self, sensed, written_one_other, l]
    · rw [← entered]
      refine exec_writeInterlock_items (items := [(1, [a]), (2, [b])]) hr hc hbody rfl
        ((inRanges_cons rfl).mpr ⟨assign_range, (inRanges_one rfl).mpr sense_range⟩) ?_
      simp [IlLine.write, Machine.written, itemVal, assigned, sensed, l]
  · have weaker (sp : Span) : ({ s.ilLine n with latched := false } : IlLine).guards sp = true → (s.ilLine n).guards sp = true :=
      guards_of_unlatched
    have entry : putLine n { s.ilLine n with latched := false } s.fresh = _ := putLine_of_weaker weaker
    refine ⟨_, exec_clearInterlock_line hr hc hb, ?_, fun m hm => ?_, ?_, fun sp => ⟨?_, ?_⟩⟩
    · rw [replied_ilLine, putLine_ilLine, State.setIlLine_ilLine_self]
    · rw [replied_ilLine, putLine_ilLine, State.setIlLine_ilLine, if_neg hm]; rfl
    · rw [entry, replied_eq]
      cases r.port <;> rfl
    · rw [replied_st, putLine_st, lineRecord_state]; rfl
    · rw [replied_st, putLine_st, replied_interlocked, putLine_interlocked]
      refine lineRecord_causes (s := s.fresh) ?_
      rw [State.lineEnds, Bool.not_eq_true]
      rfl

end Sys2Proof.Machine
end
